-- ==== Sys2Proof/Word.lean ====
section
/-!
DEFINITION. The word types of the H2C and their plainest arithmetic: 128-byte lines (R103), 64-bit
registers (00_scope.md, Notation), saturating counters, and the sparse store in one canonical form that
every array of the model uses (addresses strictly rising).
-/
namespace Sys2Proof

/-- A 128 B line (Table 0.2), byte `i` in bits `[8i+7:8i]`. -/
abbrev Line := BitVec 1024

/-- A 64-bit register (00_scope.md, "Registers are 64 bits wide and little-endian"). -/
abbrev Reg := BitVec 64

/-- A Groom word (R514). -/
abbrev GWord := BitVec 32

/-- A key pair of the key store (R356 to R358): one that firmware installed (data key, tweak key), or a random
one drawn in generation `gen` for KEYID `k`, whose bits nobody knows. -/
inductive KeyPair where
  | installed (dataKey tweakKey : BitVec 256)
  | random (gen k : Nat)
deriving DecidableEq, Repr

/-- A sparse array: entries by rising key. -/
abbrev Assoc (β : Type) := List (Nat × β)

/-- The entry at key `k`, if one is listed. -/
def Assoc.find? {β : Type} (k : Nat) : Assoc β → Option β
  | [] => none
  | (j, v) :: m => if j = k then some v else Assoc.find? k m

/-- Remove the entry at key `k`. -/
def Assoc.drop {β : Type} (k : Nat) : Assoc β → Assoc β
  | [] => []
  | (j, v) :: m => if j = k then Assoc.drop k m else (j, v) :: Assoc.drop k m

/-- Write `v` at key `k`, keeping the keys rising. -/
def Assoc.put {β : Type} (k : Nat) (v : β) : Assoc β → Assoc β
  | [] => [(k, v)]
  | (j, w) :: m =>
    if k < j then (k, v) :: (j, w) :: m
    else if k = j then (k, v) :: m
    else (j, w) :: Assoc.put k v m

/-- The value at key `k`, `d` where none is listed. -/
def Assoc.getD {β : Type} (m : Assoc β) (k : Nat) (d : β) : β :=
  match Assoc.find? k m with
  | some v => v
  | none => d

/-- Write `v` at `k` in the canonical form of a store whose unlisted entries read as `d`: writing `d`
removes the entry. -/
def Assoc.putD {β : Type} [DecidableEq β] (m : Assoc β) (k : Nat) (d v : β) : Assoc β :=
  if v = d then Assoc.drop k m else Assoc.put k v m

/-- Keys strictly rising, all above `lo` where one is given. -/
def Assoc.rising {β : Type} : Option Nat → Assoc β → Bool
  | _, [] => true
  | none, (k, _) :: m => Assoc.rising (some k) m
  | some lo, (k, _) :: m => decide (lo < k) && Assoc.rising (some k) m

/-- Saturating 32-bit increment (the counters marked "Saturating" in the object tables). -/
def satAdd32 (x : Reg) (n : Nat) : Reg :=
  if x.toNat + n < 0x100000000 then BitVec.ofNat 64 (x.toNat + n) else 0xFFFFFFFF

/-- Bits `[hi:lo]` of a number. -/
def bitsOf (x hi lo : Nat) : Nat := (x >>> lo) % 2 ^ (hi + 1 - lo)

/-- Number of set bits among the low `n` bits. -/
def popN (x : Nat) : Nat → Nat
  | 0 => 0
  | n + 1 => popN x n + (if x.testBit n then 1 else 0)

/-- The positions below `n` whose bit is set, ascending. -/
def setBits (x n : Nat) : List Nat := (List.range n).filter (fun i => x.testBit i)

/-- Byte `i` of a line. -/
def Line.byte (l : Line) (i : Nat) : BitVec 8 := (l >>> (8 * i)).setWidth 8

/-- Spread a byte-enable mask to a bit mask over `n` bytes (R178, MASK). -/
def maskBitsUpTo (m : Nat) : Nat → Nat
  | 0 => 0
  | n + 1 => maskBitsUpTo m n + (if m.testBit n then 0xFF <<< (8 * n) else 0)

/-- The 1024-bit mask of a 128-bit byte-enable mask. -/
def byteMask (m : BitVec 128) : Line := BitVec.ofNat 1024 (maskBitsUpTo m.toNat 128)

/-- Merge `new` into `old` under byte enables (Table 4.11, merges at the home). -/
def mergeLine (old new : Line) (m : BitVec 128) : Line :=
  (old &&& ~~~ byteMask m) ||| (new &&& byteMask m)

/-- Division rounding up. -/
def ceilDiv (a b : Nat) : Nat := (a + b - 1) / b

end Sys2Proof
end

