-- ==== Sys2Proof/Syntax.lean ====
section
/-!
DEFINITION. The commands of the block: one constructor of `Instr` per row of spec/opcode_table.json, with the
operands that the row's rule gives it. What the physical world decides (a sensor reading, which bits a
particle flipped, whether a PHY trained) comes in as an operand.
-/
namespace Sys2Proof

/-- The access levels of Table 11.2 (JTAG reads only and has a command of its own). -/
inductive Level where
  | board | host | guest | groom | jtag
deriving DecidableEq, Repr

/-- The views of R439, numbered as R442 numbers them. -/
inductive View where
  | live | peek | fallback | snapshot
deriving DecidableEq, Repr

/-- A request as it stands in its REQ slot and ReqData (Tables 4.4, 7.10; R178, R297). -/
structure Req where
  opcode : BitVec 6
  size   : BitVec 3 := 0
  priv   : BitVec 2 := 0
  rpl    : Bool := false
  stream : BitVec 9
  tag    : BitVec 12
  partid : BitVec 10 := 0
  keyid  : BitVec 10 := 0
  /-- Bits [71:52] of the slot, which Table 7.10 marks zero (R395). -/
  rsv    : BitVec 20 := 0
  addr   : BitVec 52 := 0
  mask   : BitVec 128 := 0
  /-- Line data, or the operand block of an atomic in bytes 0 to 31 (R276). -/
  data   : Line := 0
  poison : Bool := false
deriving DecidableEq, Repr

/-- What the error code of a unit meets in one read (Table 9.1): which bits the physical world flipped, by
codeword. SECDED units list (word, flipped bits); the Husk line lists (symbol position 0 to 135, error
value); a DDR5 line lists ((subchannel, device, k), error value) packed as 80·s + 8·d + k. -/
abbrev ErrPattern := List (Nat × Nat)

/-- The units a scrub read covers (Table 9.2). -/
inductive ScrubKind where
  | tagSets | kernelData | husk | ddr5
deriving DecidableEq, Repr

/-- The structures whose uncorrectable word is fatal (Table 9.1, Table 9.7), Groom's I-SRAM, whose word restarts Groom when it is
fetched (R534), and the reservation monitors and streaming detectors, which parity watches (Table 9.1). -/
inductive FatalUnit where
  | kernelTag (slice : Fin 16) | huskTagLower (slice : Fin 16) | directory (slice : Fin 16)
  | tracker (slice : Fin 16) | bufferAddr | keyStore | gaitBank (bank : Fin 16) | ledgerParity
  | comparator (slice : Fin 16) (tier : Fin 3) (way : Fin 16) | groomInstr
  | monitor (half : Fin 32) (stream : Fin 512) | detector (slice : Fin 16) (half : Fin 32) (stream : Fin 512)
deriving DecidableEq, Repr

/-- A PHY whose clock the monitors watch (Table 9.9). -/
inductive PhyUnit where
  | agentLane (half : Fin 32) | huskPort (port : Fin 18) | channel (chan : Fin 12) (lockLost : Bool)
deriving DecidableEq, Repr

/-- What a word of the dictionary store held (R451). -/
inductive StoreWord where
  | applied (key : Nat) | staged (area : Fin 16) | gaitBlob | keyBlob | stageBlob | holding
deriving DecidableEq, Repr

/-- How FEC left a received flit (Table 7.7; the PCIe 6.0 code stands outside the manual). -/
inductive Fec where
  | clean | corrected | uncorrectable
deriving DecidableEq, Repr

/-- What training of a Husk port or a DDR5 channel met (R330, R349). -/
inductive TrainResult where
  | absent | trained | failed | mismatch
deriving DecidableEq, Repr

/-- What a Groom debug-port access asks for (R536). -/
inductive DebugOp where
  | readState | readPc | readReg (n : Fin 32) | readSpecial (n : Fin 16) | readMem (a : BitVec 32)
  | writeReg (n : Fin 32) (v : GWord) | writeSpecial (n : Fin 16) (v : GWord)
  | writeMem (a : BitVec 32) (v : BitVec 8) | setBreak (n : Fin 4) (a : Option (BitVec 32))
deriving DecidableEq, Repr

/-- A Bridle frame as it arrives (Tables 11.6 to 11.9): identifier, FD with bit-rate switch and 29-bit
identifier or not, data bytes. -/
structure Frame where
  ident : BitVec 29
  fdBrs : Bool := true
  data  : List (BitVec 8) := []
deriving DecidableEq, Repr

/-- A Groom register number. -/
abbrev GReg := Fin 32

/-- The commands, one constructor per row of spec/opcode_table.json, the rows without operands last. `cyc` is the FCLK cycle within the stride at which
the event falls, `bus` 0 is Bridle bus A, `ms` is the management clock in milliseconds. -/
inductive Instr where
  -- time base (01, 02)
  | strideBoundary (dieTemp : BitVec 8)
  | epochBoundary (huskTemps : List (BitVec 8))
  | strideSyncPulse (edge : Option Int) (width : Nat)
  | followerAlignment (edge : Option Int) (width : Nat)
  -- gait load and swap (02)
  | gaitLoadBankWrite (lvl : Level) (v : Reg)
  | gaitLoadImageAppend (lvl : Level) (v : Reg)
  | gaitCheck (lvl : Level)
  | gaitAbandon (lvl : Level)
  | gaitErase (lvl : Level)
  | gaitSelectWrite (lvl : Level) (v : Reg)
  | gaitSwapCommitWrite (lvl : Level) (v : Reg)
  -- requests (04, 05, 06, 07)
  | requestPacketCommit (half : Fin 32) (cyc : Fin 64) (r : Req)
  | rdShared (half : Fin 32) (cyc : Fin 64) (r : Req)
  | rdOwn (half : Fin 32) (cyc : Fin 64) (r : Req)
  | upgrade (half : Fin 32) (cyc : Fin 64) (r : Req)
  | rdCur (half : Fin 32) (cyc : Fin 64) (r : Req)
  | rdRsv (half : Fin 32) (cyc : Fin 64) (r : Req)
  | wbData (half : Fin 32) (cyc : Fin 64) (r : Req)
  | evictClean (half : Fin 32) (cyc : Fin 64) (r : Req)
  | wrInvAll (half : Fin 32) (cyc : Fin 64) (r : Req)
  | wrPartial (half : Fin 32) (cyc : Fin 64) (r : Req)
  | wrCond (half : Fin 32) (cyc : Fin 64) (r : Req)
  | atomAdd (half : Fin 32) (cyc : Fin 64) (r : Req)
  | atomSwap (half : Fin 32) (cyc : Fin 64) (r : Req)
  | atomCas (half : Fin 32) (cyc : Fin 64) (r : Req)
  | atomAnd (half : Fin 32) (cyc : Fin 64) (r : Req)
  | atomOr (half : Fin 32) (cyc : Fin 64) (r : Req)
  | barrier (half : Fin 32) (cyc : Fin 64) (r : Req)
  | barrierComp (half : Fin 32) (stream : BitVec 9)
  | admission (half : Fin 32) (cyc : Fin 64)
  | replayForgotten (half : Fin 32) (stream : BitVec 9)
  /-- `err` is what the code of the unit read meets, `upper` a Husk way of the set whose upper word is uncorrectable
  (R364 to R367). -/
  | lookup (slice : Fin 16) (cyc : Fin 64) (err : ErrPattern) (upper : Option (Fin 16))
  | headBooking (slice : Fin 16)
  | rspI (half : Fin 32) (htid : BitVec 13)
  | rspS (half : Fin 32) (htid : BitVec 13)
  | rspFwdI (half : Fin 32) (htid : BitVec 13)
  | rspFwdS (half : Fin 32) (htid : BitVec 13)
  | rspFwdCur (half : Fin 32) (htid : BitVec 13)
  | crossing (half : Fin 32) (htid : BitVec 13)
  | compAck (half : Fin 32) (htid : BitVec 13)
  | rspIWb (half : Fin 32) (htid : BitVec 13) (data : Line) (poison : Bool)
  | rspSWb (half : Fin 32) (htid : BitVec 13) (data : Line) (poison : Bool)
  | fwdData (half rhalf : Fin 32) (rtag : BitVec 12) (htid : BitVec 13) (grant : BitVec 3) (pend : Bool)
      (data : Line) (poison : Bool) (late : Option (Fin 8))
  | retire (slice : Fin 16) (cyc : Fin 64)
  | dirAllocRetry (slice : Fin 16) (cyc : Fin 64)
  | snoopSendAfterCredit (half : Fin 32)
  | fwdDataResend (half : Fin 32)
  | snoopTimeout (htid : BitVec 13) (half : Fin 32)
  | crossingTimeout (htid : BitVec 13) (half : Fin 32)
  | compAckTimeout (htid : BitVec 13)
  | departureSweepSet (slice : Fin 16) (cyc : Fin 64)
  -- tiers (03)
  | kernelFill (slice : Fin 16) (cyc : Fin 64)
  | fillDrop (slice : Fin 16) (cyc : Fin 64)
  | kernelVictimReadout (slice : Fin 16) (cyc : Fin 64)
  | kernelBankWrite (slice : Fin 16) (cyc : Fin 64)
  | dirtyVictimPlacement (slice : Fin 16) (cyc : Fin 64)
  | huskWriteback (port : Fin 16) (slot : Fin 32)
  | cleanOffer (slice : Fin 16) (cyc : Fin 64)
  | sectorReplacementRead (port : Fin 16) (slot : Fin 32)
  | sectorTagWrite (slice : Fin 16) (cyc : Fin 64)
  | hullWriteback (chan : Fin 12) (slot : Fin 16)
  | maintCleanInvalidateRange (lvl : Level)
  | maintCleanRange (lvl : Level)
  | maintCleanInvalidatePartid (lvl : Level)
  | maintCleanInvalidateWays (lvl : Level)
  | maintAbort (lvl : Level)
  | partApplyWrite (lvl : Level) (v : Reg)
  | regionAttrWrite (lvl : Level) (n : Fin 64) (v : Reg)
  -- memory and Husk ports (08)
  | memConfigValidWrite (lvl : Level) (v : Reg)
  | ddr5RefreshIssue (chan : Fin 12) (slot : Fin 16)
  | mr4TemperatureReport (chan : Fin 12) (rank : Fin 4) (hot : Bool)
  | huskRefreshIssue (port : Fin 18) (slot : Fin 32)
  | pwbDemandWriteIssue (chan : Fin 12) (slot : Fin 16)
  | pwbWritebackIssue (chan : Fin 12) (slot : Fin 16)
  | drainStart (lvl : Level)
  | drainAbort (lvl : Level)
  | drainFrame (slice : Fin 16) (cyc : Fin 64)
  | keyIndexWrite (lvl : Level) (v : Reg)
  | keyMaterialAppend (lvl : Level) (v : Reg)
  | keyInstall (lvl : Level)
  | keyRandomise (lvl : Level)
  -- reliability (09)
  /-- `slot` is a slot of the row's kind (Table 2.1). -/
  | scrubRead (kind : ScrubKind) (row : Fin 16) (slot : Fin 64) (err : ErrPattern)
  | correctionWrite (kind : ScrubKind) (row : Fin 16) (slot : Fin 64)
  | correctionReread (kind : ScrubKind) (row : Fin 16) (slot : Fin 64) (err : ErrPattern)
  | bucketLeak (b : Fin 64)
  | fieldRepairProgram (readbackGood : Bool)
  | voteMismatch (timer : Bool) (copy : Fin 3)
  | uncorrectableStateError (u : FatalUnit)
  | fclkOutOfLimit (count : Nat)
  | phyClockFault (u : PhyUnit)
  | caParityAlert (chan : Fin 12)
  | containmentSweep (slice : Fin 16) (bad : List Nat)
  -- modes, reset, power (10)
  | modeRequestKeep (lvl : Level)
  | modeRequestPassThrough (lvl : Level)
  | modeRequestNormal (lvl : Level)
  | modeRequestPartitioned (lvl : Level)
  | modeRequestRest (lvl : Level)
  | modeRequestDrain (lvl : Level)
  | modeRequestDegraded (lvl : Level)
  | modeRequestTest (lvl : Level)
  | drainWalkSet (slice : Fin 16) (cyc : Fin 64)
  | resetNAssert (ns : Nat)
  | resetHoldAlarm (ms : Nat)
  | resetNRelease (ns : Nat)
  | settleCommand (lvl : Level)
  | settleNAssert (ns : Nat)
  | bringupFuse (straps : BitVec 32)
  | bringupHuskTraining (ports : List TrainResult)
  | bringupDdr5Training (chans : List TrainResult)
  | bringupDone (micros : Nat)
  | bringupStepOvertime (step : Fin 16)
  | wakeNPulse (ns : Nat)
  | paddockTimerWake (ms : Nat)
  | brownout (rail : Fin 5)
  | mgmtResetNAssert (ns : Nat)
  | mgmtResetNRelease (nodeId : BitVec 6)
  | thermtrip (temp : Nat)
  -- links (07)
  | receiverDetect (half : Fin 32) (lanes : BitVec 16)
  | trainingBlock (half : Fin 32) (blocks : List (BitVec 128)) (eq : BitVec 16)
  | trainingTimeout (half : Fin 32)
  | capabilityFlit (half : Fin 32) (fec : Fec) (flit : BitVec 2000)
  | payloadFlit (half : Fin 32) (fec : Fec) (flit : BitVec 2000)
  | nakReplay (half : Fin 32) (ackseq : BitVec 10)
  | ackWaitExpiry (half : Fin 32)
  | retrainDone (half : Fin 32) (ok : Bool) (width : BitVec 8) (rate : BitVec 8)
  | linkReset (lvl : Level) (port : Fin 16)
  | linkRetrain (lvl : Level) (port : Fin 16)
  | linkDisable (lvl : Level) (port : Fin 16)
  | lossOfSignal (half : Fin 32) (ns : Nat)
  | quiesceReq (half : Fin 32)
  | quiesceComplete (half : Fin 32)
  | quiesceTimeout (half : Fin 32)
  -- interrupts and events (12)
  | intDone (half : Fin 32) (core : BitVec 8) (source : BitVec 10)
  | prioReport (half : Fin 32) (core : BitVec 8) (prio : BitVec 4) (masked asleep : Bool)
  /-- `storeError`: an uncorrectable error of the ring store hits a word of the record (R481). -/
  | sourceEvent (source : BitVec 10) (data : List Reg) (storeError : Bool)
  | interruptSend (half : Fin 32)
  | eventInChange (ball : Fin 16) (level : Bool) (samples : Nat)
  | irqStatusClear (lvl : Level) (k : Fin 16) (v : Reg)
  | ringRead (lvl : Level) (ring : Fin 64) (view : View)
  | swRaise (lvl : Level) (v : Reg)
  -- Bridle (11)
  | alarm (ms : Nat)
  | alarmRepeat (ms : Nat)
  | heartbeat (ms : Nat)
  | identify (bus : Fin 2) (f : Frame) (ms : Nat)
  | bridleRead (bus : Fin 2) (f : Frame) (ms : Nat)
  | bridleWrite (bus : Fin 2) (f : Frame) (ms : Nat)
  | alarmAck (bus : Fin 2) (f : Frame)
  | busOffRecovery (bus : Fin 2) (occurrences : Nat)
  -- dictionary (11)
  | dictWrite (lvl : Level) (index : BitVec 16) (sub : BitVec 8) (v : Reg)
  | rcRead (lvl : Level) (index : BitVec 16) (sub : BitVec 8) (view : View)
  | portDataAccess (p : Fin 16) (write : Option Reg)
  | lockAcquire (lvl : Level) (area : Fin 16)
  | lockCommit (lvl : Level) (area : Fin 16)
  | lockCommitApply (area : Fin 16)
  | lockAbandon (lvl : Level) (area : Fin 16)
  | lockExpiry (area : Fin 16)
  | dictStoreError (w : StoreWord)
  | snapshot (lvl : Level)
  | snapshotClear (lvl : Level)
  -- counters (13)
  | ctrValueWrite (lvl : Level) (fixed : Bool) (n : BitVec 8) (v : Reg)
  | ctrOwnerWrite (lvl : Level) (n : BitVec 8) (v : Reg)
  -- Groom control (14)
  | groomRestart (lvl : Level)
  | groomStop (lvl : Level)
  | stageBegin (lvl : Level)
  | stageImageAppend (lvl : Level) (v : Reg)
  | stageCheck (lvl : Level)
  | stageAbandon (lvl : Level)
  -- Groom instructions (Table 14.4)
  | add (nd na nb : GReg)
  | sub (nd na nb : GReg)
  | and (nd na nb : GReg)
  | or (nd na nb : GReg)
  | xor (nd na nb : GReg)
  | shl (nd na : GReg) (sh : BitVec 5)
  | shr (nd na : GReg) (sh : BitVec 5)
  | sar (nd na : GReg) (sh : BitVec 5)
  | shlv (nd na nb : GReg)
  | shrv (nd na nb : GReg)
  | cmplt (nd na nb : GReg)
  | cmpltu (nd na nb : GReg)
  | mullo (nd na nb : GReg)
  | mulhi (nd na nb : GReg)
  | quou (nd na nb : GReg)
  | modu (nd na nb : GReg)
  | clz (nd na : GReg)
  | popc (nd na : GReg)
  | addi (nd na : GReg) (imm : BitVec 17)
  | andi (nd na : GReg) (imm : BitVec 17)
  | ori (nd na : GReg) (imm : BitVec 17)
  | xori (nd na : GReg) (imm : BitVec 17)
  | cmplti (nd na : GReg) (imm : BitVec 17)
  | cmpltiu (nd na : GReg) (imm : BitVec 17)
  | ldhi (nd : GReg) (imm : BitVec 15)
  | ld4 (nd na : GReg) (imm : BitVec 17) (err : Bool)
  | ld2s (nd na : GReg) (imm : BitVec 17) (err : Bool)
  | ld2u (nd na : GReg) (imm : BitVec 17) (err : Bool)
  | ld1s (nd na : GReg) (imm : BitVec 17) (err : Bool)
  | ld1u (nd na : GReg) (imm : BitVec 17) (err : Bool)
  | st4 (nd na : GReg) (imm : BitVec 17)
  | st2 (nd na : GReg) (imm : BitVec 17)
  | st1 (nd na : GReg) (imm : BitVec 17)
  | ldx (nd na : GReg) (imm : BitVec 17) (err : Bool)
  | stx (nd na : GReg) (imm : BitVec 17)
  | beq (na nb : GReg) (off : BitVec 12) (annul hint : Bool)
  | bne (na nb : GReg) (off : BitVec 12) (annul hint : Bool)
  | blt (na nb : GReg) (off : BitVec 12) (annul hint : Bool)
  | bge (na nb : GReg) (off : BitVec 12) (annul hint : Bool)
  | blo (na nb : GReg) (off : BitVec 12) (annul hint : Bool)
  | bhs (na nb : GReg) (off : BitVec 12) (annul hint : Bool)
  | jmp (target : BitVec 15)
  | call (target : BitVec 15)
  | jmpr (na : GReg)
  | callr (nd na : GReg)
  | gets (nd : GReg) (special : BitVec 17)
  | puts (nd : GReg) (special : BitVec 17)
  | waite (nd : GReg)
  | trap (code : BitVec 16)
  -- JTAG (15)
  | samplePreload (cells : List Bool)
  | extest (cells : List Bool)
  | dictRead (index : BitVec 16) (sub : BitVec 8)
  | groomDebug (op : DebugOp)
  | bypass (tdi : Bool)
  -- power and late rows
  | busError (bus : Fin 2) (transmit : Bool)
  -- rows without operands, in the same order
  | gaitCheckDone
  | armChecksDone
  | shadowLoad
  | gaitSwitch
  | armTimeout
  | spurPromotion
  | streamExit
  | maintLine (slice : Fin 16) (cyc : Fin 64)
  | maintDone
  | unreservedPlacementRetry
  | rowIdleClose
  | drainingEntry
  | drained
  | keyEffect
  | farrierFlush (slice : Fin 16) (cyc : Fin 64)
  | fieldRepairActivate
  | wayRetirement (slice : Fin 16) (cyc : Fin 64)
  | stage4Action (slice : Fin 16) (cyc : Fin 64)
  | degradedEntry
  | refclkMissing
  | containedEntry
  | modeTransition
  | stopLimitExpiry
  | restExit
  | settleStopDone
  | settleRecallDone
  | settleDrainDone
  | bringupPllLock
  | bringupBist
  | bringupKeys
  | bringupGait
  | keepEntryDone
  | vkeepPowerOn
  | vkeepRemoved
  | mainRailsApplied
  | snapshotTaken
  | histWindowClose
  | groomWatchdogExpiry
  | stageCheckDone
  | groomHalt
  | groomResume
  | groomStep
  | brk
  | tret
  | idcode
  | clamp
  | highz
  | refclkStopInKeep
  | refclkReturn
  | settleNRelease
  | restEntryDone
  | groomLoadDone
  | heldWake
  | tapReset
deriving DecidableEq, Repr

end Sys2Proof
end

