-- ==== Sys2Proof/Decode.lean ====
section
/-!
DEFINITION. Words of commands: no row of spec/opcode_table.json gives bits, so no word spells a command there. Groom's
instructions have words of their own (R521, Table 14.4), which GROOM_STEP fetches from the I-SRAM: their encoder and
decoder stand here.
-/
namespace Sys2Proof

/-- The command that a word spells by the table's bits: none, since the table gives no row bits. -/
def decodeTableWord (_nbits _w : Nat) : Option Instr := none

/-! ### Formats (14, "Instructions") -/

/-- Format A. -/
def fmtA (nd na nb sh fn : Nat) : GWord := BitVec.ofNat 32 (nd * 4194304 + na * 131072 + nb * 4096 + sh * 128 + fn)

/-- Formats I, G and Y: a register, a register or SUB, and 17 bits. -/
def fmtI (op nd na imm : Nat) : GWord := BitVec.ofNat 32 (op * 134217728 + nd * 4194304 + na * 131072 + imm)

/-- Format C. -/
def fmtC (cond : Nat) (annul hint : Bool) (na nb off : Nat) : GWord :=
  BitVec.ofNat 32 (0x18 * 134217728 + cond * 16777216 + (if annul then 8388608 else 0) + (if hint then 4194304 else 0)
    + na * 131072 + nb * 4096 + off)

/-- Format L. -/
def fmtL (op target : Nat) : GWord := BitVec.ofNat 32 (op * 134217728 + target)

/-- The word of a Groom instruction (Table 14.4); none for any other command. -/
def groomEncode : Instr → Option GWord
  | .add nd na nb => some (fmtA nd na nb 0 0x00)
  | .sub nd na nb => some (fmtA nd na nb 0 0x01)
  | .and nd na nb => some (fmtA nd na nb 0 0x02)
  | .or nd na nb => some (fmtA nd na nb 0 0x03)
  | .xor nd na nb => some (fmtA nd na nb 0 0x04)
  | .shlv nd na nb => some (fmtA nd na nb 0 0x0C)
  | .shrv nd na nb => some (fmtA nd na nb 0 0x0D)
  | .cmplt nd na nb => some (fmtA nd na nb 0 0x10)
  | .cmpltu nd na nb => some (fmtA nd na nb 0 0x11)
  | .mullo nd na nb => some (fmtA nd na nb 0 0x18)
  | .mulhi nd na nb => some (fmtA nd na nb 0 0x19)
  | .quou nd na nb => some (fmtA nd na nb 0 0x1C)
  | .modu nd na nb => some (fmtA nd na nb 0 0x1D)
  | .shl nd na sh => some (fmtA nd na 0 sh.toNat 0x08)
  | .shr nd na sh => some (fmtA nd na 0 sh.toNat 0x09)
  | .sar nd na sh => some (fmtA nd na 0 sh.toNat 0x0A)
  | .clz nd na => some (fmtA nd na 0 0 0x20)
  | .popc nd na => some (fmtA nd na 0 0 0x21)
  | .addi nd na imm => some (fmtI 0x01 nd na imm.toNat)
  | .andi nd na imm => some (fmtI 0x02 nd na imm.toNat)
  | .ori nd na imm => some (fmtI 0x03 nd na imm.toNat)
  | .xori nd na imm => some (fmtI 0x04 nd na imm.toNat)
  | .cmplti nd na imm => some (fmtI 0x05 nd na imm.toNat)
  | .cmpltiu nd na imm => some (fmtI 0x06 nd na imm.toNat)
  | .ldhi nd imm => some (fmtI 0x07 nd 0 imm.toNat)
  | .ld4 nd na imm _ => some (fmtI 0x08 nd na imm.toNat)
  | .ld2s nd na imm _ => some (fmtI 0x09 nd na imm.toNat)
  | .ld2u nd na imm _ => some (fmtI 0x0A nd na imm.toNat)
  | .ld1s nd na imm _ => some (fmtI 0x0B nd na imm.toNat)
  | .ld1u nd na imm _ => some (fmtI 0x0C nd na imm.toNat)
  | .ldx nd na imm _ => some (fmtI 0x10 nd na imm.toNat)
  | .st4 nd na imm => some (fmtI 0x0D nd na imm.toNat)
  | .st2 nd na imm => some (fmtI 0x0E nd na imm.toNat)
  | .st1 nd na imm => some (fmtI 0x0F nd na imm.toNat)
  | .stx nd na imm => some (fmtI 0x11 nd na imm.toNat)
  | .beq na nb off a h => some (fmtC 0 a h na nb off.toNat)
  | .bne na nb off a h => some (fmtC 1 a h na nb off.toNat)
  | .blt na nb off a h => some (fmtC 2 a h na nb off.toNat)
  | .bge na nb off a h => some (fmtC 3 a h na nb off.toNat)
  | .blo na nb off a h => some (fmtC 4 a h na nb off.toNat)
  | .bhs na nb off a h => some (fmtC 5 a h na nb off.toNat)
  | .jmp target => some (fmtL 0x19 target.toNat)
  | .call target => some (fmtL 0x1A target.toNat)
  | .jmpr na => some (fmtI 0x1B 0 na 0)
  | .callr nd na => some (fmtI 0x1C nd na 0)
  | .gets nd n => some (fmtI 0x1F nd 0 n.toNat)
  | .puts nd n => some (fmtI 0x1F nd 1 n.toNat)
  | .waite nd => some (fmtI 0x1F nd 2 0)
  | .trap code => some (fmtI 0x1F 0 3 code.toNat)
  | .brk => some (fmtI 0x1F 0 4 0)
  | .tret => some (fmtI 0x1F 0 5 0)
  | _ => none

/-! ### Decoding -/

/-- A five-bit field from bit `lo` weighted `2 ^ lo = d`. -/
def reg5 (w d : Nat) : GReg := Fin.ofNat 32 (w / d)

/-- Format A by FN: fields that Table 14.4 marks zero must be zero; it marks no SHIFT zero for FN 0x10 to 0x1D. -/
def decodeA (w : Nat) : Option Instr :=
  let nd := reg5 w 4194304
  let na := reg5 w 131072
  let nb := reg5 w 4096
  let sh := w / 128 % 32
  let three : Instr → Option Instr := fun i => if sh = 0 then some i else none
  let shift : Instr → Option Instr := fun i => if nb = 0 then some i else none
  let two : Instr → Option Instr := fun i => if nb = 0 ∧ sh = 0 then some i else none
  match w % 128 with
  | 0x00 => three (.add nd na nb)
  | 0x01 => three (.sub nd na nb)
  | 0x02 => three (.and nd na nb)
  | 0x03 => three (.or nd na nb)
  | 0x04 => three (.xor nd na nb)
  | 0x0C => three (.shlv nd na nb)
  | 0x0D => three (.shrv nd na nb)
  | 0x10 => some (.cmplt nd na nb)
  | 0x11 => some (.cmpltu nd na nb)
  | 0x18 => some (.mullo nd na nb)
  | 0x19 => some (.mulhi nd na nb)
  | 0x1C => some (.quou nd na nb)
  | 0x1D => some (.modu nd na nb)
  | 0x08 => shift (.shl nd na (BitVec.ofNat 5 sh))
  | 0x09 => shift (.shr nd na (BitVec.ofNat 5 sh))
  | 0x0A => shift (.sar nd na (BitVec.ofNat 5 sh))
  | 0x20 => two (.clz nd na)
  | 0x21 => two (.popc nd na)
  | _ => none

/-- Format C by COND. -/
def decodeC (w : Nat) : Option Instr :=
  let na := reg5 w 131072
  let nb := reg5 w 4096
  let off := BitVec.ofNat 12 w
  let a := w / 8388608 % 2 == 1
  let h := w / 4194304 % 2 == 1
  match w / 16777216 % 8 with
  | 0 => some (.beq na nb off a h)
  | 1 => some (.bne na nb off a h)
  | 2 => some (.blt na nb off a h)
  | 3 => some (.bge na nb off a h)
  | 4 => some (.blo na nb off a h)
  | 5 => some (.bhs na nb off a h)
  | _ => none

/-- Format Y by SUB. -/
def decodeY (w : Nat) : Option Instr :=
  let nd := reg5 w 4194304
  let low := w % 131072
  match w / 131072 % 32 with
  | 0 => some (.gets nd (BitVec.ofNat 17 w))
  | 1 => some (.puts nd (BitVec.ofNat 17 w))
  | 2 => if low = 0 then some (.waite nd) else none
  | 3 => if nd = 0 ∧ low < 65536 then some (.trap (BitVec.ofNat 16 w)) else none
  | 4 => if nd = 0 ∧ low = 0 then some .brk else none
  | 5 => if nd = 0 ∧ low = 0 then some .tret else none
  | _ => none

/-- The instruction of a Groom word; none for an illegal one (R521). -/
def groomDecode (g : GWord) : Option Instr :=
  let w := g.toNat
  let nd := reg5 w 4194304
  let na := reg5 w 131072
  let imm := BitVec.ofNat 17 w
  let low := w % 131072
  match w / 134217728 with
  | 0x00 => decodeA w
  | 0x01 => some (.addi nd na imm)
  | 0x02 => some (.andi nd na imm)
  | 0x03 => some (.ori nd na imm)
  | 0x04 => some (.xori nd na imm)
  | 0x05 => some (.cmplti nd na imm)
  | 0x06 => some (.cmpltiu nd na imm)
  | 0x07 => if na = 0 ∧ low < 32768 then some (.ldhi nd (BitVec.ofNat 15 w)) else none
  | 0x08 => some (.ld4 nd na imm false)
  | 0x09 => some (.ld2s nd na imm false)
  | 0x0A => some (.ld2u nd na imm false)
  | 0x0B => some (.ld1s nd na imm false)
  | 0x0C => some (.ld1u nd na imm false)
  | 0x10 => some (.ldx nd na imm false)
  | 0x0D => some (.st4 nd na imm)
  | 0x0E => some (.st2 nd na imm)
  | 0x0F => some (.st1 nd na imm)
  | 0x11 => some (.stx nd na imm)
  | 0x18 => decodeC w
  | 0x19 => if w % 134217728 < 32768 then some (.jmp (BitVec.ofNat 15 w)) else none
  | 0x1A => if w % 134217728 < 32768 then some (.call (BitVec.ofNat 15 w)) else none
  | 0x1B => if nd = 0 ∧ low = 0 then some (.jmpr na) else none
  | 0x1C => if low = 0 then some (.callr nd na) else none
  | 0x1F => decodeY w
  | _ => none

end Sys2Proof
end

