-- ==== Sys2Proof/Config.lean ====
section
/-!
DEFINITION. What the spec leaves free or takes from outside the die's logic, as constants with no body: no
proof can see their values, so a claim about them holds for every value (log entries 3, 4, 5).
-/
namespace Sys2Proof.Config

/-- The free value stream: an unstated value takes the entry at the state's free counter (log entry 3). -/
opaque freeBits : (w : Nat) → Nat → BitVec w

/-- The on-die entropy source (R140, R357): draw `n`. -/
opaque entropy : Nat → BitVec 64

/-- What a line reads as under another key than it was written with: the ciphertext of the old key decrypted
under the new one (03_cache_tiers.md after R118; AES-256-XTS of IEEE 1619, R356). The arguments name the
old key, the new key, the data unit number and the plaintext. -/
opaque recrypt : (old new : KeyPair) → (unit : Nat) → Line → Line

/-- SHA-384 of a public key (Table 14.8, check 0x03; FIPS 180). -/
opaque sha384 : List Nat → BitVec 384

/-- ECDSA P-384 verification of an image (Table 14.8, check 0x04; FIPS 186-5). -/
opaque ecdsaVerify : List Nat → Bool

/-- Version of the vendor Groom image in ROM (Table 14.10, GROOM_IMAGE_VERSION "ROM value"). -/
opaque groomRomVersion : BitVec 32

/-- Entry point of the vendor Groom image in ROM. -/
opaque groomRomEntry : BitVec 32

/-- The instruction section of the vendor Groom image in ROM, as 8-byte segments. -/
opaque groomRomInstr : List (BitVec 64)

/-- The data section of the vendor Groom image in ROM, as 8-byte segments. -/
opaque groomRomData : List (BitVec 64)

/-- Certified HORIZON, in half-nanosecond units, of the vendor default gait for a row kind and slot class the
manual states no figure for (R76 states DR, DW, SP and SF only). -/
opaque romHorizon : (kernelOnly : Bool) → (speed : Nat) → (kind cls : Nat) → Nat

/-- The bank index of a byte of a GDDR7 channel by its offset (R339, R348 give no map), and the FCLK cycles for which a per-bank refresh
makes the bank busy. -/
opaque huskBank : (offset : Nat) → Nat
opaque tRfcPb : Nat

/-- tRFCsb of the fitted DRAM in FCLK cycles (R339 gives no figure). -/
opaque tRfcSb : Nat

/-- What a DDR5 slot does at a bank (R337): FCLK cycle, bank (rank · 32 + bank group · 4 + bank), row, and whether it reads,
writes, or is a planned precharge (R338). -/
structure DramUse where
  cycle : Nat
  bank : Nat
  row : Nat
  write : Bool := false
  precharge : Bool := false
deriving DecidableEq, Repr

/-- The check bits of the SECDED codes of a Kernel tag entry, a Husk sector word and a directory entry (R113, R114, R169): the
spec names the codes and gives no check matrix. -/
opaque kernelCheck : BitVec 41 → BitVec 7
opaque sectorCheck : BitVec 64 → BitVec 8
opaque dirCheck : BitVec 56 → BitVec 8

/-- The two FEC check bytes of codeword `i` of a flit, over the bytes that belong to it (Table 7.7, "as in PCIe 6.0 flit
mode"; the code is not in the spec). -/
opaque fecCheck : (i : Nat) → List Nat → BitVec 16

/-- Whether a DDR5 slot meets the DRAM timing constraints given what the channel's earlier slots do (R337 names the
constraints and gives no figures). -/
opaque ddr5SlotLegal : (earlier : List DramUse) → (use : DramUse) → Bool

end Sys2Proof.Config
end

