-- ==== Sys2Proof/Machine/State.lean ====
section
/-!
DEFINITION. The state of the H2C as plain data: every register, buffer, queue, mode and pin that the spec
gives it, grouped by chapter, and the queue of the commands that wait. Objects of the dictionary have one home,
the sparse store of `Dict`, unless a structured field below is their home.
-/
namespace Sys2Proof.Machine

/-- The operating modes (Table 0.8). -/
inductive Mode where
  | off | keep | reset | bringup | passThrough | normal | partitioned | rest | drain | degraded | contained | test
deriving DecidableEq, Repr

/-- How far a follower's alignment has come (R40). -/
inductive SyncPhase where
  | waiting | counting | aligned
deriving DecidableEq, Repr

/-- Time base and stride sync (R37 to R45). -/
structure Time where
  /-- STRIDE_COUNT (R44). -/
  stride : BitVec 64 := 0
  phase : SyncPhase := .waiting
  /-- Strides in tolerance since the aligning pulse (R40). -/
  good : Nat := 0
  /-- Consecutive misaligned strides (R41). -/
  bad : Nat := 0
  /-- Width of the pulse driven on STRIDE_SYNC_OUT in this stride, in FCLK cycles (R37, R38). -/
  syncOut : Nat := 0
  /-- Stride whose epoch boundary has been taken last. -/
  epochAt : Option Nat := none
  /-- STRIDE_SYNC_DELAY in force since the last alignment (R43). -/
  delay : Nat := 0
deriving DecidableEq, Repr

/-- Where a gait bank's image comes from: the ROM (R334) or the bytes received, as 8-byte segments (R63). -/
inductive GaitSrc where
  | rom (kernelOnly : Bool) (speed : Nat)
  | image (segs : List (BitVec 64))
deriving DecidableEq, Repr

/-- A booking of the slot ledger: slot `slot` of row `row` of kind `kind` in stride `stride`, for the work
with serial number `work` (R70 to R72). -/
structure Booking where
  kind : Nat
  row : Nat
  stride : Nat
  slot : Nat
  work : Nat
  /-- Requester half, for its partition class's member quota (R73). -/
  half : Nat := 32
  /-- What the slot is for (`Leg`). -/
  purpose : Nat := 0
  /-- On DDR5 rows, the bank that the slot accesses: rank · 32 + bank group · 4 + bank (R337). -/
  bank : Nat := 0
  /-- On DDR5 rows, the DRAM row and the direction of the access (R337). -/
  dramRow : Nat := 0
  write : Bool := false
  /-- Eighths of the slot that it takes: on egress rows the 16 B payload slots of its message (R20), else all eight. -/
  size : Nat := 8
deriving DecidableEq, Repr

/-- Gait store, load, swap and slot ledger (02). -/
structure Gait where
  /-- Images by bank; an unlisted bank holds none. -/
  banks : Assoc GaitSrc := []
  /-- Stride by which the running check completes (R68). -/
  loadDue : Option Nat := none
  /-- Bank of the arm that is pending, armed or committed (R85). -/
  armBank : Option Nat := none
  /-- Stride in which the arm was written. -/
  armAt : Nat := 0
  /-- Stride in which the commit was written. -/
  commitAt : Nat := 0
  /-- Switch stride of a commit (R90, R93). -/
  switchAt : Option Nat := none
  /-- Boot bank chosen in step 8 of the last Bring-up (R83). -/
  boot : Nat := 0
  /-- Bank in each of the three copies of the shadow slot-phase registers, none listed while they are not loaded (R90). -/
  shadow : List Nat := []
  /-- The slots of this stride and the next four that are booked or taken (R70 to R72, R51), with the DDR5 slots of the
  last strides (R337). -/
  ledger : List Booking := []
deriving DecidableEq, Repr

/-- Line states of both tiers (Table 3.2). -/
inductive LState where
  | invalid | clean | dirty | poisoned
deriving DecidableEq, Repr

/-- A Kernel tag entry that is not Invalid (Table 3.3). -/
structure KTag where
  tag : Nat
  st : LState
  keyid : BitVec 10
  partid : BitVec 10
deriving DecidableEq, Repr

/-- A Husk sector entry with SV = 1 (Table 3.4); its check bits are recomputed (log entry 20). -/
structure Sector where
  tag : Nat
  keyid : BitVec 10
  partid : BitVec 10
  /-- States of lines 0 to 31, two bits each. -/
  lstate : BitVec 64 := 0
  dcnt : Nat := 0
deriving DecidableEq, Repr

/-- A line of a Husk data port: its bytes 32 c to 32 c + 31 on channel c of the device (R344), and the Husk key it was written
under. -/
structure HuskLine where
  chans : Vector (BitVec 256) 4
  keyGen : Nat
deriving DecidableEq, Repr

/-- A check entry of a Husk line, ADDR and POISON (Table 8.5); its RS symbols follow from the line (log entry 20). -/
structure HuskCheck where
  addr : Nat
  poison : Bool
deriving DecidableEq, Repr

/-- What a staging entry holds (03, "The slice staging buffer"). -/
inductive StKind where
  | cleanFill | writeData | victim | placement
deriving DecidableEq, Repr

/-- A staging entry (R120 to R126). -/
structure Staged where
  id : Nat
  slice : Nat
  /-- LA[41:7]. -/
  line : Nat
  kind : StKind
  st : LState
  keyid : BitVec 10
  partid : BitVec 10
  /-- Line data; none until a victim has been read out of its bank. -/
  data : Option Line
  /-- Kernel location (set in slice, way): of the victim to read, or of the bank write that is due. -/
  loc : Option (Nat × Nat) := none
  /-- Husk set and way chosen for the victim (R561). -/
  target : Option (Nat × Nat) := none
  /-- Posted write buffer entry reserved under R126. -/
  pwbReserved : Bool := false
  /-- Class of the slots in which a bank write takes place (R125, Table 3.5). -/
  cls : Nat := 6
  /-- FCLK cycle in which it entered the buffer (R120). -/
  entered : Nat := 0
  /-- Half and request that a clean fill comes from (Table 13.3, 0x500). -/
  origin : Option (Nat × Req) := none
deriving DecidableEq, Repr

/-- A Hull buffer entry, reserved or read (R133). -/
structure Hull where
  id : Nat
  line : Nat
  keyid : BitVec 10
  poison : Bool
  /-- Data, once the Husk Eviction slot has read it. -/
  data : Option Line
  /-- Husk set and way it is read from. -/
  src : Nat × Nat
deriving DecidableEq, Repr

/-- A sector replacement or a sector that a walk empties (R133, R134, R352, R407). -/
structure Repl where
  hset : Nat
  way : Nat
  /-- Lines of the victim sector still to read. -/
  left : List Nat
  /-- Lines that were owed when it began. -/
  lines : List Nat := left
  /-- The sector entry that takes the way after the last read; none when the sector is emptied. -/
  incoming : Option Sector := none
  /-- A drain walk keeps the sector (R407). -/
  keep : Bool := false
deriving DecidableEq, Repr

/-- A streaming detector (R150). -/
structure Stream where
  count : Nat := 0
  last : Nat := 0
  streaming : Bool := false
  ascStride : Nat := 0
deriving DecidableEq, Repr

/-- The operations of the maintenance engine (Table 3.12). -/
inductive MaintOp where
  | cleanInvRange | cleanRange | cleanInvPartid | cleanInvWays
deriving DecidableEq, Repr

/-- The maintenance engine while it runs (R155). -/
structure Maint where
  op : MaintOp
  /-- Next line address (LA >> 7), or next set over all slices. -/
  next : Nat
deriving DecidableEq, Repr

/-- The cache tiers (03). -/
structure Tiers where
  /-- Kernel tags by (kset · 12 + way); unlisted = Invalid. -/
  ktags : Assoc KTag := []
  /-- Kernel bank lines by (kset · 12 + way) (R111). -/
  kdata : Assoc Line := []
  /-- Husk sectors by (hset · 16 + way); unlisted = SV 0. -/
  sectors : Assoc Sector := []
  /-- Husk lines by 128 B places of the data ports' devices: port · 2^24 + device address / 128 (R110). -/
  hdata : Assoc HuskLine := []
  /-- Check entries by 16 B places of the check ports' device channels: (check port · 4 + channel) · 2^25 + offset / 16 (R345). -/
  hchecks : Assoc HuskCheck := []
  staging : List Staged := []
  hull : List Hull := []
  repl : List Repl := []
  /-- Replacement LFSRs of slices 0 to 15 and of the sampler (16), at cycle 0 of the stride (R139, R501). -/
  lfsr : List (BitVec 32) := List.replicate 17 1
  /-- Seeds drawn in step 4 of a Bring-up, loaded at its end (R140). -/
  seeds : List (BitVec 32) := []
  /-- Detectors by (slice · 16384 + Tether queue). -/
  streams : Assoc Stream := []
  maint : Option Maint := none
  /-- Serial number of the next staging or Hull entry. -/
  nextId : Nat := 0
deriving DecidableEq, Repr

/-- Directory states that an entry can be listed with (Table 4.3); an unlisted way is Invalid. -/
inductive DirSt where
  | shared | owned
deriving DecidableEq, Repr

/-- A directory entry that is not Invalid (Table 4.2). STATE reads Blocked while `blocked`; `st` is then the
record as it stood before the transaction (R170). -/
structure DirEnt where
  st : DirSt
  blocked : Bool := false
  fholder : Nat
  dtag : Nat
  sharers : BitVec 32
deriving DecidableEq, Repr

/-- An agent's answer to a snoop (Tables 4.7, 4.8). -/
inductive Ans where
  | i | s | fwdI | fwdS | fwdCur | crossing
  | iWb (data : Line) (poison : Bool)
  | sWb (data : Line) (poison : Bool)
deriving DecidableEq, Repr

/-- An eviction that has joined a transaction as the answer of its agent's snoop (R215). -/
structure Joined where
  id : Nat
  /-- WbData; otherwise EvictClean. -/
  wb : Bool
  tag : BitVec 12
  stream : BitVec 9
  partid : BitVec 10 := 0
  data : Line := 0
  poison : Bool := false
  /-- Streaming detector in force at its look-up (R153). -/
  around : Bool := false
  /-- Its data has a staging entry, reserved at its admission or free at its look-up (R121, R215). -/
  staging : Bool := false
  /-- Mode in which it was admitted (R401). -/
  mode : Mode := .normal
  /-- Its header, its first entry to its queue, its refusals and whether it was promoted, for its sample (Table 13.5). -/
  header : Req := { opcode := 0, stream := 0, tag := 0 }
  entered : Nat := 0
  refusals : Nat := 0
  promoted : Bool := false
deriving DecidableEq, Repr

/-- One snoop of a transaction. -/
structure Snp where
  half : Nat
  op : BitVec 6
  /-- Recorded role: 0 sharer only, 1 F holder, 2 owner. -/
  role : Nat := 0
  /-- False while it waits for an SNP credit (R311). -/
  sent : Bool := true
  /-- First stride boundary not before the look-up that sent it: strides of its wait count from there (R230). -/
  at_ : Nat
  answer : Option Ans := none
  /-- The answer has been retired. -/
  retired : Bool := false
  /-- First stride boundary not before the retire of a Crossing whose eviction had not joined (R218). -/
  crossedAt : Option Nat := none
  /-- The eviction that joined (R215). -/
  joined : Option Joined := none
  /-- FwdData has crossed to the requester's port, and the first cycle of its egress slot there: it has passed in full once that slot
  has gone (R232, R308). -/
  passed : Bool := false
  passAt : Nat := 0
deriving DecidableEq, Repr

/-- Where a tracked request stands (R173, R207, R209). -/
inductive Phase where
  | admitted | waiting | reserved | active
deriving DecidableEq, Repr

/-- Home work that waits on a line as a home transaction (Table 5.1). -/
inductive Job where
  | maint | farrier | sweep | scrub
deriving DecidableEq, Repr

/-- What a transaction still has to place or send at its home when its answers are in. -/
inductive Pending where
  | nothing | place | merge | compE
deriving DecidableEq, Repr

/-- A tracker in use, with its request (R173, R222). -/
structure Txn where
  id : Nat
  slice : Nat
  /-- Tracker number in the slice; none before an eviction's look-up (R224). -/
  tracker : Option Nat
  /-- Requester half; none for a back-invalidation and for home work. -/
  half : Option Nat
  /-- Mode in which its request was admitted (R401). -/
  mode : Mode := .normal
  /-- Home work that waits on the line (Table 5.1). -/
  job : Option Job := none
  req : Req
  /-- LA[41:7]. -/
  line : Nat
  device : Bool := false
  group : Nat := 1
  phase : Phase
  /-- FCLK cycle in which it reaches its slice. -/
  arrive : Nat := 0
  /-- A same-queue same-line request ahead of it was refused at its look-up (R313). -/
  orderRefuse : Bool := false
  /-- Modified data returned to the transaction, the base of its merge. -/
  base : Option (Line × Bool) := none
  /-- Streaming detector in force at the look-up (R153). -/
  around : Bool := false
  /-- FCLK cycle of acceptance (R3, R505), and the suspended cycles of its requester's link by then (R306). -/
  acceptAt : Nat := 0
  lostAt : Nat := 0
  /-- Cycle in which the last bit of its flit crossed the balls (R503). -/
  crossed : Nat := 0
  /-- It has counted as accepted (Tables 13.1, 13.3). -/
  counted : Bool := false
  /-- Sampling counters that searched for a request like it when it was admitted (R502). -/
  tagFor : List Nat := []
  /-- Order on the wait list. -/
  join : Nat := 0
  /-- Stride in which the line was reserved for it, and the one in which it last tried to book (R209, R210). -/
  reservedAt : Nat := 0
  triedAt : Option Nat := none
  entered : Nat := 0
  ageStart : Option Nat := none
  promoted : Bool := false
  allocated : Nat := 0
  pwbReserved : Bool := false
  stagingReserved : Bool := false
  snoops : List Snp := []
  /-- The request needs a CompAck (R187). -/
  needAck : Bool := false
  ackAt : Option Nat := none
  acked : Bool := false
  ackRetired : Bool := false
  /-- Grant sent or to be sent (Table 4.4). -/
  grant : BitVec 3 := 0
  pend : Bool := false
  invDone : Bool := false
  /-- Data or completion has been sent (R251). -/
  performed : Bool := false
  todo : Pending := .nothing
  /-- Directory record to write at the end; none = Uncached. -/
  record : Option (DirSt × Nat × BitVec 32) := none
  /-- Directory way of the line's own entry, or chosen for it (R174, R175). -/
  dirWay : Option Nat := none
  /-- A way must be chosen before the entry can be written (R176). -/
  needWay : Bool := false
  /-- Back-invalidation that must end before the entry is written (R175). -/
  backInv : Option Nat := none
  /-- A back-invalidation that waits for a reserved tracker (R177). -/
  waitBack : Bool := false
  /-- A Device request that waits until the copy of its line has entered the posted write buffer (R248). -/
  held : Bool := false
  /-- Its requester has departed (Table 5.6). -/
  gone : Bool := false
  replay : Bool := false
  refusals : Nat := 0
  /-- For an RdRsv: intervening requests that entered its queue after it (Table 6.4). -/
  after : Nat := 0
deriving DecidableEq, Repr

/-- The home: directory, trackers, wait lists, ageing (04, 05). -/
structure Home where
  /-- Directory entries by (dset · 16 + way). -/
  dir : Assoc DirEnt := []
  txns : List Txn := []
  /-- Serial number of the next request or transaction; 0 names work that is none. -/
  nextId : Nat := 1
  /-- Sum of holds and count of general trackers freed in the epoch, per slice (R223). -/
  holdSum : Assoc Nat := []
  holdCnt : Assoc Nat := []
  /-- Mean hold per slice; unlisted = 1. -/
  holdMean : Assoc Nat := []
  /-- Next set of each slice's departure sweep, and the sets that slice (half · 16 + slice) has left since the half
  departed (R239). -/
  sweepNext : Assoc Nat := []
  sweepLeft : Assoc Nat := []
deriving DecidableEq, Repr

/-- A request in a Tether queue (R312). -/
structure QReq where
  id : Nat
  req : Req
  /-- Stride in which it first entered the queue (R271). -/
  entered : Nat
  ageStart : Option Nat := none
  promoted : Bool := false
  /-- General tracker that has passed to it (R227), and the stride in which it did (R223). -/
  tracker : Option Nat := none
  trackerAt : Nat := 0
  replay : Bool := false
  refusals : Nat := 0
  /-- Cycle in which the last bit of its flit crossed the balls (R503). -/
  crossed : Nat := 0
  /-- For an RdRsv: intervening requests that entered its queue after it (Table 6.4). -/
  after : Nat := 0
deriving DecidableEq, Repr

/-- A refused request that is recorded (R312). -/
structure Refused where
  id : Nat
  /-- The request without its data, which is discarded (R315). -/
  req : Req
  entered : Nat
  ageStart : Option Nat
  promoted : Bool
  /-- General tracker that has passed to it (R227), and the stride in which it did (R223). -/
  tracker : Option Nat := none
  trackerAt : Nat := 0
  at_ : Nat
  refusals : Nat
  after : Nat := 0
deriving DecidableEq, Repr

/-- An outcome that has its egress slot and is not yet sent (R251). -/
structure Outcome where
  /-- The request's number. -/
  id : Nat
  queue : Nat
  /-- First cycle of the egress slot. -/
  cycle : Nat
  device : Bool := false
  /-- The outcome is a data message (R199). -/
  data : Bool := false
  barrier : Bool := false
deriving DecidableEq, Repr

/-- A reservation monitor that is Reserved (06, "Reservation monitors"). -/
structure Monitor where
  /-- PA[51:7]. -/
  pline : Nat
  line : Nat
  keyid : BitVec 10
  partid : BitVec 10
  at_ : Nat
  /-- Requests that entered the queue after the RdRsv, other than Barriers and WrConds. -/
  intervening : Nat
deriving DecidableEq, Repr

/-- Messages that the device drives on its ports (the model's own log, log entry 14). -/
inductive OutMsg where
  | rsp (half : Nat) (op : BitVec 6) (tag : BitVec 12) (htid : BitVec 13)
  | refused (half : Nat) (tag : BitVec 12) (reason wait : BitVec 8) (retryAt : BitVec 10)
  | compData (half : Nat) (tag : BitVec 12) (htid : BitVec 13) (grant : BitVec 3) (pend poison : Bool) (data : Line)
  | fwdData (half : Nat) (tag : BitVec 12) (htid : BitVec 13) (grant : BitVec 3) (pend poison : Bool) (data : Line)
      (rwd : Bool)
  | snoop (half : Nat) (op : BitVec 6) (htid : BitVec 13) (rhalf : Nat) (rtag : BitVec 12) (pend : Bool)
      (saddr : BitVec 45)
  | mgt (half : Nat) (op : BitVec 6) (payload : BitVec 42)
  /-- A training block on a lane (Table 7.4). -/
  | training (half lane : Nat) (block : BitVec 128)
  /-- A flit (Tables 7.5, 7.7), and the bytes of its lanes as they leave, scrambled (R289). -/
  | flit (half : Nat) (f : BitVec 2048) (lanes : List Nat)
  | bridle (bus : Nat) (f : Frame)
  /-- The answer to an access at a level: refusal code and value. -/
  | answer (lvl : Level) (key : Nat) (code : Nat) (v : Reg)
  | tdo (bits : Nat) (v : Nat)
deriving DecidableEq, Repr

/-- Link states (Table 7.3). -/
inductive LinkState where
  | disabled | detect | train | capability | active | retrain | incompatible | held | quiescing | failed
deriving DecidableEq, Repr

/-- One link (07). -/
structure Link where
  state : LinkState := .disabled
  width : Nat := 0
  rate : Nat := 0
  revision : Nat := 0
  features : BitVec 32 := 0
  ident : BitVec 64 := 0
  reason : Nat := 0
  cores : Nat := 0
  /-- Lanes on which a receiver was detected. -/
  lanes : BitVec 16 := 0
  /-- Stride in which the present state was entered (limits of Table 7.3). -/
  begun : Nat := 0
  /-- Consecutive returns to DETECT (R287). -/
  returns : Nat := 0
  /-- Training step (block TYPE expected next), identical blocks of it received in a row on every lane, and blocks sent
  in the step (R288). -/
  step : Nat := 0
  run : Nat := 0
  stepSent : Nat := 0
  last : List (BitVec 128) := []
  /-- The last good capability flit and how many identical ones in a row (R290). -/
  capab : Option (BitVec 2000) := none
  capRun : Nat := 0
  capSent : Nat := 0
  /-- Last committed FSEQ of the other side (ACKSEQ sent). -/
  committed : BitVec 10 := 0x3FF
  /-- Uncommitted good flits that wait for their continuation (R303). -/
  held : List (BitVec 2000) := []
  /-- A data message under way: its header and its slots so far, and REQ slots that await their ReqData (R297, R298). -/
  carry : Option (BitVec 48 × List (BitVec 128)) := none
  reqs : List (BitVec 128) := []
  /-- NAK is being sent (R304). -/
  nak : Bool := false
  /-- The flit committed last carried NAK = 1. -/
  nakSeen : Bool := false
  /-- ACKSEQ received; next FSEQ to send. -/
  acked : BitVec 10 := 0x3FF
  fseq : BitVec 10 := 0
  /-- ACKSEQ that the last flit sent carried. -/
  ackSent : BitVec 10 := 0x3FF
  /-- Messages that await the flits of their egress slot, with the slot's first cycle; an MGT message takes a control
  slot (R20). -/
  outbox : List (Nat × OutMsg) := []
  /-- Payload flits sent and not acknowledged, oldest first, with the stride in which each was sent (R305). -/
  kept : List (Nat × BitVec 2048) := []
  /-- Flits built and not sent, for as many flits as REPLAY_DEPTH are unacknowledged (R305). -/
  unsent : List (BitVec 2048) := []
  /-- FCLK cycles from the first to before the second: a resend suspends the egress slots (R306). -/
  pause : Nat × Nat := (0, 0)
  /-- REPLAY_DEPTH of the agent (Table 7.5). -/
  depth : Nat := 128
  /-- Transmit scrambler of each lane (R289). -/
  scramble : List (BitVec 23) := []
  /-- FCLK cycle from which a RETRAIN suspends the egress slots, and the suspended cycles so far (R306). -/
  suspended : Option Nat := none
  lost : Nat := 0
  naks : Nat := 0
  nakSeq : Option (BitVec 10) := none
  /-- A LINK_COMMAND RETRAIN is in progress (R326). -/
  cmd : Bool := false
  /-- QuiesceAck has been sent (R321). -/
  quiesced : Bool := false
  /-- Number of the first request that a QuiesceReq makes a later one (R321). -/
  quiesceFrom : Nat := 0
  /-- MGT messages, as opcode and payload, that wait for a credit (R310). -/
  mgtWait : List (Nat × Nat) := []
  snpCredit : Nat := 0
  mgtCredit : Nat := 0
  reqCredit : Nat := 0
  datCredit : Nat := 0
  reqReturn : Nat := 0
  datReturn : Nat := 0
  mgtReturn : Nat := 0
deriving DecidableEq, Repr

/-- A FwdData that an egress flit rewound (R307). -/
structure Fwd where
  half : Nat
  tag : BitVec 12
  htid : BitVec 13
  grant : BitVec 3
  pend : Bool
  poison : Bool
  data : Line
deriving DecidableEq, Repr

/-- Agent ports (06, 07). -/
structure Ports where
  /-- Links by half. -/
  links : Assoc Link := []
  /-- SPLIT in force, per port (R281). -/
  split : BitVec 16 := 0
  /-- Tether queues by (half · 512 + stream). -/
  queues : Assoc (List QReq) := []
  /-- Refused requests recorded per queue; a listed queue is in replay hold (R312). -/
  replay : Assoc (List Refused) := []
  /-- Admitted Barriers by queue (R260). -/
  barriers : Assoc QReq := []
  monitors : Assoc Monitor := []
  /-- Cause that cleared an Open monitor, with what it held (R269). -/
  cleared : Assoc (Nat × Monitor) := []
  /-- Stream offered last per half (R97). -/
  rr : Assoc Nat := []
  /-- FwdData to send again (R307). -/
  resend : List Fwd := []
  /-- Outcomes on their way to their egress slots (R199, R251). -/
  outcomes : List Outcome := []
deriving DecidableEq, Repr

/-- A line of the DDR5 store: plaintext, poison pattern, and the key pair it was encrypted under (R356). -/
structure DramLine where
  data : Line
  poison : Bool
  key : KeyPair
deriving DecidableEq, Repr

/-- A posted write buffer entry (R341). -/
structure Pwb where
  line : Nat
  keyid : BitVec 10
  data : Line
  poison : Bool
  /-- Demand class; otherwise eviction class. -/
  demand : Bool
  device : Bool := false
  /-- It holds one of the 1,792 entries for reservations. -/
  reserved : Bool
  /-- Order of entry, among posted write buffer and Hull entries. -/
  id : Nat := 0
deriving DecidableEq, Repr

/-- Refresh plan of a (channel, rank) or a Husk port (R339, R348). -/
structure Refresh where
  /-- Refresh owed, in 1/3900 of a command. -/
  credit : Nat := 0
  nextBank : Nat := 0
  /-- Refreshes fixed: (first FCLK cycle of the Refresh slot, bank index). -/
  plan : List (Nat × Nat) := []
  /-- Refreshes issued: (FCLK cycle of issue, bank index). -/
  busy : List (Nat × Nat) := []
  hot : Bool := false
deriving DecidableEq, Repr

/-- The state of a Husk port drain (R352). -/
structure Drain where
  port : Nat
  /-- Next frame of each slice's walk, by slice. -/
  next : Assoc Nat := []
  /-- ABORT has been accepted and takes effect at the boundary (R354). -/
  abort : Bool := false
  /-- Stride in which DRAINING began. -/
  begun : Option Nat := none
deriving DecidableEq, Repr

/-- A command to a channel's DRAM that changes its open rows (R338): a read or write of a bank's row, or a refresh of a bank
index of a rank. -/
inductive RowUse where
  | access (bank row : Nat) (read : Bool)
  | refresh (rank bank : Nat)
deriving DecidableEq, Repr

/-- A read issued to a DDR5 channel (R390): its stride, its requester and line, and whether its data were merged at the home. -/
structure IssuedRead where
  stride : Nat
  chan : Nat
  half : Nat
  tag : BitVec 12
  htid : BitVec 13
  line : Nat
  merged : Bool
deriving DecidableEq, Repr

/-- Memory, Husk ports and keys (08). -/
structure Mem where
  /-- DDR5 lines by LA[41:7]; an unlisted line holds no defined value (R560). -/
  dram : Assoc DramLine := []
  /-- Posted write buffers by channel, oldest first. -/
  pwb : Assoc (List Pwb) := []
  /-- Open rows by ((chan · 4 + rank) · 32 + bg · 4 + bank): row, and stride boundaries since the last access. -/
  openRows : Assoc (Nat × Nat) := []
  /-- Commands of this stride's and later slots, not yet counted against the open rows: (FCLK cycle, channel, use). -/
  rowUses : List (Nat × Nat × RowUse) := []
  /-- Closing precharges planned by ROW_IDLE_CLOSE: (channel, FCLK cycle, bank) (R338). -/
  precharges : List (Nat × Nat × Nat) := []
  /-- Refresh by (chan · 4 + rank), and by 64 + Husk port. -/
  refresh : Assoc Refresh := []
  /-- Writes issued in the alert window per channel: (stride, entry) (R390). -/
  shadow : Assoc (List (Nat × Pwb)) := []
  /-- Reads issued in the alert window (R390). -/
  alerts : List IssuedRead := []
  /-- Device temperatures reported hot per (chan · 4 + rank). -/
  hotRanks : Assoc Bool := []
  /-- Keys installed by firmware by KEYID; an unlisted KEYID holds the random pair of `keyGen`. -/
  keys : Assoc KeyPair := []
  keyGen : Nat := 0
  /-- Randomisations so far (R358). -/
  randoms : Nat := 0
  huskGen : Nat := 0
  material : List (BitVec 64) := []
  /-- The pending key command: KEYID and new pair (R360). -/
  keyPending : Option (Nat × KeyPair) := none
  /-- Lines of the KEYID in buffers at the command, still to issue. -/
  keyAwaits : List Nat := []
  drain : Option Drain := none
  /-- Ranks and channels are in self-refresh. -/
  selfRefresh : Bool := false
deriving DecidableEq, Repr

/-- A correction that waits for its Maintenance slot, or for its re-read (R368, R369). -/
structure Correction where
  kind : ScrubKind
  row : Nat
  /-- Unit number on the row. -/
  unit : Nat
  bits : List (Nat × Nat)
  /-- What the unit held at the read that found the error (R368). -/
  was : List Nat := []
  /-- The write has taken place; the re-read is due. -/
  written : Bool := false
deriving DecidableEq, Repr

/-- A hard fault for Farrier (R378). -/
structure HardFault where
  /-- Array of Table 9.5; 64 + port for a Husk store fault. -/
  array : Nat
  /-- Set in slice, or frame. -/
  set : Nat
  way : Nat
deriving DecidableEq, Repr

/-- The step Farrier is at (R380, R382, R383). -/
inductive FarrierStep where
  | flushing | programming | activating | retiring | stage4
deriving DecidableEq, Repr

/-- A row or column of an array that a spare replaces (R379 to R381). -/
inductive Spare where
  | row (array row : Nat)
  | column (array column : Nat)
deriving DecidableEq, Repr

/-- A record of the retirement map (R382, R383, R387). -/
inductive Retired where
  /-- tier 0 Kernel, 1 Husk, 2 directory. -/
  | way (tier slice group way : Nat)
  | group (tier slice group : Nat)
  | comparator (tier slice way : Nat)
deriving DecidableEq, Repr

/-- Reliability (09). -/
structure Rel where
  /-- Scrub credit in 1/256 and next unit, by (kind · 32 + row). -/
  credit : Assoc Nat := []
  next : Assoc Nat := []
  corrections : List Correction := []
  /-- DDR5 lines that a scrub read found uncorrectable and whose home transaction is still to come (R373). -/
  lost : List Nat := []
  /-- Last leak stride per bucket, and corrections of the stride under way. -/
  lastLeak : Assoc Nat := []
  inStride : Assoc Nat := []
  /-- Symbols corrected per port in each of the last 64 epochs (newest first), and whether the alarm is armed. -/
  trend : Assoc (List Nat) := []
  trendNow : Assoc Nat := []
  trendSilent : List Nat := []
  /-- Corrected bursts of the pass by ((chan · 4 + rank) · 16 + device). -/
  ddrCounts : Assoc Nat := []
  queue : List HardFault := []
  work : Option (HardFault × FarrierStep) := none
  workSince : Nat := 0
  /-- Sets of a way or group that the flush has passed (R382, R383). -/
  workNext : Nat := 0
  /-- Field-repair area: entries used, by array · 64 + n (Table 9.6). -/
  field : Assoc (BitVec 32) := []
  retired : List Retired := []
  /-- Command/address alerts per channel in the policy epoch (R390). -/
  alertCount : Assoc Nat := []
  /-- Fatal faults detected and not yet entered: (code, slice or none, detail), and the stride of the first (R389). -/
  fatal : List (Nat × Option Nat × Nat) := []
  fatalAt : Nat := 0
  /-- Stride in which DEGRADE_PENDING was set (R384). -/
  degradeAt : Nat := 0
  /-- Containment sweep: next set of each fenced slice that runs (R391). -/
  sweep : Assoc Nat := []
  /-- Spare rows and columns in service: factory spares, and field repairs in use (R379 to R381). -/
  spares : List Spare := []
  strayInEpoch : Bool := false
  stopped : Bool := false
deriving DecidableEq, Repr

/-- The purpose of a transition under way (R400 to R405, R411). -/
inductive Trans where
  | service (dest : Mode)
  | restStop | keepStop | restExit (dest : Mode)
deriving DecidableEq, Repr

/-- Modes, resets, power (10). -/
structure Modes where
  mode : Mode := .bringup
  /-- The last Bring-up ran the array BIST in its step 3 (R413). -/
  bistRan : Bool := false
  trans : Option Trans := none
  /-- The transition answers a MODE_REQUEST (R400); an agent request also wakes Rest (R405). -/
  asked : Bool := false
  /-- Stride in which the transition or stop phase began. -/
  begun : Nat := 0
  /-- Keep entry has reached its Recall phase (R416). -/
  recalling : Bool := false
  /-- Bring-up steps whose work of a cold reset alone is done: 2 the straps, 4 the KEYID table (Table 10.3). -/
  onceDone : BitVec 16 := 0
  /-- Settle under way: phase 1 to 4 (Table 10.4), 0 none; its RESET_CAUSE. -/
  settle : Nat := 0
  settleSince : Nat := 0
  /-- Stride in which a Settle last arrived (R402). -/
  resetAt : Option Nat := none
  /-- A Settle held for a committed swap or for Rest exit. -/
  settleWanted : Bool := false
  /-- Bring-up steps complete, bit n for step n. -/
  steps : BitVec 16 := 0
  /-- This Bring-up follows a cold reset (or a wake). -/
  cold : Bool := true
  wake : Bool := false
  /-- Steps whose overtime alarm was raised. -/
  overtime : BitVec 16 := 0
  testWanted : Bool := false
  drainNext : Assoc Nat := []
  drainWalk : Bool := false
  recallNext : Assoc Nat := []
  resetN : Bool := false
  settleN : Bool := false
  mgmtUp : Bool := true
  pwrEn : Bool := true
  wakeHeld : Bool := false
  keepMs : Nat := 0
  refclkStopped : Bool := false
  /-- Rails in range: VDD, VPHY, VDDQG, VDDQD, VIO; and VKEEP. -/
  rails : BitVec 5 := 0x1F
  vkeep : Bool := true
  brownout : Bool := false
  strapError : Bool := false
  holdAlarmMs : Nat := 0
  /-- Paddock words 0 to 3 (Table 10.6), CHECK computed (R414). -/
  paddock : List Reg := [0x0001000000000100, 0, 0, 0x18]
  /-- No cause of a reset has been recorded since the last Bring-up that completed (R415). -/
  causeOpen : Bool := false
deriving DecidableEq, Repr

/-- A write staged under a lock (R448). -/
structure StagedWrite where
  lvl : Level
  key : Nat
  v : Reg
deriving DecidableEq, Repr

/-- A dictionary lock (R447 to R450). -/
structure Lock where
  holder : Option Level := none
  committing : Bool := false
  result : Nat := 0
  staged : List StagedWrite := []
  at_ : Nat := 0
deriving DecidableEq, Repr

/-- What the boundary of a snapshot copied, for SNAPSHOT_TAKEN (R443): its stride, whether it clears, and the values. -/
structure Frozen where
  at_ : Nat
  clear : Bool
  vals : Assoc Reg
deriving DecidableEq, Repr

/-- The dictionary (11). -/
@[ext] structure Dict where
  /-- Value that a read returns, where it differs from the default. -/
  vals : Assoc Reg := []
  /-- Value in force (R431), where it differs from the default. -/
  eff : Assoc Reg := []
  fallback : Assoc Reg := []
  holding : Assoc Reg := []
  /-- Accepted writes that take effect at the next stride boundary. -/
  pending : List (Nat × Reg) := []
  locks : Assoc Lock := []
  /-- Held partition writes (R149). -/
  partHeld : Assoc Reg := []
  /-- Held writes that a write of 0x00 to PART_APPLY applies at the next stride boundary (R149). -/
  partDue : Assoc Reg := []
  snapTake : Bool := false
  snapClear : Bool := false
  /-- Stride of the last snapshot command. -/
  snapAt : Nat := 0
  /-- The copy of a snapshot whose boundary has passed, until SNAPSHOT_TAKEN (R443). -/
  frozen : Option Frozen := none
  /-- Writes accepted in band in the latest cycle of one: cycle, object and level (R446). -/
  written : List (Nat × Nat × Level) := []
deriving DecidableEq, Repr

/-- A Bridle request executed within the last 50 ms and its response (R459). -/
structure Executed where
  src : Nat
  service : Nat
  seq : Nat
  ms : Nat
  resp : Frame
deriving DecidableEq, Repr

/-- An alarm record that Bridle pushes (R461, R486). -/
structure Alarm where
  seq : BitVec 16
  source : Nat
  count : Nat
  stride : Nat
  words : List Reg
  /-- Time of the last push, none when it has not been pushed. -/
  pushed : Option Nat := none
  acked : Bool := false
  dirty : Bool := false
deriving DecidableEq, Repr

/-- One Bridle bus (R452): CAN error counters and state. -/
structure Bus where
  tec : Nat := 0
  recv : Nat := 0
  /-- 0 error-active, 1 error-passive, 2 bus-off. -/
  state : Nat := 0
deriving DecidableEq, Repr

/-- Bridle (11). -/
structure Bridle where
  busA : Bus := {}
  busB : Bus := {}
  executed : List Executed := []
  alarms : List Alarm := []
  alarmSeq : BitVec 16 := 0
  nodeId : Nat := 1
  nominal : Nat := 1
  data : Nat := 2
  heartbeatAt : Nat := 0
deriving DecidableEq, Repr

/-- Delivery states (R468). -/
inductive SrcState where
  | idle | pending | active
deriving DecidableEq, Repr

/-- An interrupt source that is not at rest (R468, R471). -/
structure Source where
  st : SrcState := .idle
  rearm : Bool := false
  level : Bool := false
  /-- Half and core of the delivery. -/
  target : Option (Nat × Nat) := none
  counted : Bool := false
deriving DecidableEq, Repr

/-- A record of an event ring (Table 12.5), as its words, and what coalescing needs. -/
structure Record where
  source : Nat
  kind : Nat := 0
  count : Nat
  seq : BitVec 16 := 0
  merged : Bool := false
  stride : Nat
  words : List Reg
  /-- Words of it read so far. -/
  read : Nat := 0
deriving DecidableEq, Repr

/-- An event ring (R481 to R485). -/
structure Ring where
  records : List Record := []
  wptr : Nat := 0
  rptr : Nat := 0
  /-- Drops since the last marker, and the strides of the first and the last. -/
  drops : Nat := 0
  dropFirst : Nat := 0
  dropAt : Nat := 0
  summarising : Bool := false
  /-- Summarised occurrences by source: count, first and last stride. -/
  counts : Assoc (Nat × Nat × Nat) := []
deriving DecidableEq, Repr

/-- A routed interrupt message that waits for its flit (R474). -/
structure IrqMsg where
  source : Nat
  half : Nat
  core : Nat
  vector : Nat
  fast : Bool
  wake : Bool
  /-- Fast slot under which it was routed (R477). -/
  slot : Nat := 0
deriving DecidableEq, Repr

/-- Interrupt controller (12). -/
structure Irq where
  sources : Assoc Source := []
  last : Assoc Nat := []
  /-- Reported (prio, masked, asleep) by half · 256 + core. -/
  cores : Assoc (Nat × Bool × Bool) := []
  outbox : List IrqMsg := []
  /-- Fast slots PENDING (bit 0) and SENDING (bit 1). -/
  fast : Assoc Nat := []
  /-- Fast slots that have made, in the stride under way, the one delivery that R478 allows after a write that masks or disables. -/
  spent : List Nat := []
  /-- Stride of the last write to an EVENT_IN ball's filter or polarity (R480). -/
  restartAt : Assoc Int := []
  rings : Assoc Ring := []
  latches : List Record := []
  events : BitVec 16 := 0
deriving DecidableEq, Repr

/-- A tagged request (R502, R503). -/
structure Tagged where
  counter : Nat
  id : Nat
  /-- S1 to S7 as FCLK cycles, 0 where a stage has not occurred (R503). -/
  stamps : List Nat := [0, 0, 0, 0, 0, 0, 0]
  /-- Row kind of the slot of S3. -/
  source : Nat := 0
  t0 : Nat
  outcome : Nat := 5
  poison : Bool := false
  /-- Suspended time of the link that its latency excludes (R306, R503). -/
  lost : Nat := 0
deriving DecidableEq, Repr

/-- The live histogram of a half (R505, R506). -/
structure Hist where
  bins : List Nat := List.replicate 32 0
  reads : Nat := 0
  max : Nat := 0
  overs : Nat := 0
  bytesOut : Nat := 0
  bytesIn : Nat := 0
deriving DecidableEq, Repr

/-- An event that is counted in the stride in which it happens (R491, R496). -/
inductive PmuEvent where
  | unit (code unit n : Nat)
  | fixed (i n : Nat)
  /-- A DAT message leaves a half's port (R377, R506). -/
  | datOut (half line : Nat) (tag : BitVec 12) (poison : Bool)
  /-- The first data flit of a half's read leaves: its T0, and the suspended cycles of the link at its acceptance (R505). -/
  | read (half t0 lost0 : Nat)
deriving DecidableEq, Repr

/-- Counters (13). -/
structure Pmu where
  /-- Events of later strides, which work under way has fixed: (FCLK cycle, event). -/
  later : List (Nat × PmuEvent) := []
  /-- Increments of the stride under way: general counters 0 to 255, fixed counters 256 to 287 (R491). -/
  acc : Assoc Nat := []
  /-- Sampling counters that search for a request to tag (R502). -/
  armed : List Nat := []
  tags : List Tagged := []
  live : Assoc Hist := []
  /-- Policy epochs of the window so far (R507). -/
  epochs : Nat := 0
  /-- A new HIST_WINDOW is in force, and counting starts at the next epoch boundary (R507). -/
  restart : Bool := false
  /-- The window closes at this epoch boundary (R507). -/
  windowDue : Bool := false
  /-- Live values of the window that has closed, until its objects take them, and the boundary that closed it (R507). -/
  closing : Assoc Hist := []
  closedAt : Nat := 0
deriving DecidableEq, Repr

/-- Groom's run states (GROOM_STATE, Table 14.10). -/
inductive GroomRun where
  | reset | loading | authenticating | running | waite | halted | faulted | authFailed | stopped
deriving DecidableEq, Repr

/-- What the next Groom instruction is: an ordinary one, or a delay slot (R523). -/
inductive Slot where
  | none
  /-- Delay slot; control goes to `target` after it. -/
  | taken (from_ target : BitVec 32)
  /-- Delay slot that executes, of a branch not taken. -/
  | fall (from_ : BitVec 32)
  /-- Delay slot that is annulled. -/
  | annulled (from_ : BitVec 32)
deriving DecidableEq, Repr

/-- Groom (14). -/
structure Groom where
  run : GroomRun := .reset
  /-- A halt that waits for the end of a delay slot or of a WAITE (R537). -/
  haltWanted : Bool := false
  regs : Vector (BitVec 32) 32 := Vector.replicate 32 0
  pc : BitVec 32 := 0
  slot : Slot := .none
  status : BitVec 32 := 0
  epc : BitVec 32 := 0
  cause : BitVec 32 := 0
  tvec : BitVec 32 := 0
  badaddr : BitVec 32 := 0
  dstat : BitVec 32 := 0
  strideHi : BitVec 32 := 0
  cycle : BitVec 32 := 0
  /-- Groom cycles of this stride that have been counted (Table 14.2, PHASE). -/
  spent : Nat := 0
  /-- Cycles that a control transfer lost, counted after its delay slot (R525). -/
  lost : Nat := 0
  brCount : BitVec 32 := 0
  brMiss : BitVec 32 := 0
  retCount : BitVec 32 := 0
  retMiss : BitVec 32 := 0
  overruns : BitVec 32 := 0
  stack : Vector (BitVec 32) 8 := Vector.replicate 8 0
  top : BitVec 3 := 0
  isram : List Host.Cell := []
  dsram : List Host.Cell := []
  /-- Epoch boundaries since the previous WAITE returned (R529). -/
  missed : Nat := 0
  dog : Nat := 0
  restarts : Nat := 0
  waitReg : Fin 32 := 0
  breaks : List (Fin 4 × BitVec 32) := []
  stage : List (BitVec 64) := []
  stageDue : Option Nat := none
  /-- The image being loaded is the staged one. -/
  loadStaged : Bool := false
deriving DecidableEq, Repr

/-- Package and test (15). -/
structure Pkg where
  /-- Levels on the strap balls, laid out as STRAP_RAW. -/
  straps : BitVec 32 := 0
  /-- Values sampled (STRAP_RAW). -/
  sampled : BitVec 32 := 0
  thermtrip : Bool := false
  ir : BitVec 8 := 1
  /-- Cells of the boundary-scan register's update stage. -/
  preload : List Bool := []
  /-- The one-bit bypass register. -/
  bypass : Bool := false
deriving DecidableEq, Repr

/-- The factory fuse map. -/
structure Fuse where
  serial : BitVec 64 := 0
  huskOff : Bool := false
  keyHash : Option (BitVec 384) := none
  minSvn : BitVec 16 := 0
  /-- Stage 1 of repair (R379). -/
  spares : List Spare := []
deriving DecidableEq, Repr

/-- The state of the H2C. -/
@[ext]
structure State where
  /-- The model's own counter of free values drawn (log entry 3). -/
  free : Nat := 0
  time : Time := {}
  dict : Dict := {}
  gait : Gait := {}
  tiers : Tiers := {}
  home : Home := {}
  ports : Ports := {}
  mem : Mem := {}
  rel : Rel := {}
  modes : Modes := {}
  bridle : Bridle := {}
  irq : Irq := {}
  pmu : Pmu := {}
  groom : Groom := {}
  pkg : Pkg := {}
  fuse : Fuse := {}
  /-- Messages driven on the ports, oldest first (log entry 14). -/
  sent : List OutMsg := []
  /-- The commands that wait, first in, first out. -/
  pending : List Instr := []
deriving DecidableEq, Repr

/-- Faults. No command of the block faults: every error the spec names has an effect on the device (INVENTORY.md,
Faults). Kept closed and unused; safe. -/
inductive Fault where
  | unused
deriving DecidableEq, Repr

/-- Refusals. -/
inductive Refusal where
  /-- Raised by `exec` for a row without a meaning; safe. -/
  | notModelled (mnemonic : String)
deriving DecidableEq, Repr

/-- The machine right after reset: in Bring-up before its first step, MODE_CURRENT 0x03 (Table 10.10),
STRIDE_COUNT 0 (R44), every object at its default, nothing cached, nothing waiting. The values the spec does
not give are those of log entries 7, 9, 10, 13, 15 to 19 and 21. -/
def State.reset : State := {}

end Sys2Proof.Machine
end

