-- ==== Sys2Proof/Machine/Catalogue.lean ====
section
/-!
DEFINITION. The catalogue of the dictionary (R426, R464): one row for every object table row of the spec, with
its type, its access at each level, its default and its range, and the objects' keys by name (key = index · 256 +
sub-index; the first element of an array).
-/
namespace Sys2Proof.Machine

/-- Access codes (R429, Table 0.9); `none` is the dash. -/
inductive Acc where
  | none | ro | rw | rc | wo | w1c
deriving DecidableEq, Repr

/-- Object types (Table 11.1). -/
inductive ObjTy where
  | u8 | u16 | u32 | u64 | bool | enum8 | blob
deriving DecidableEq, Repr

/-- Ranges of the object tables. -/
inductive Rng where
  | any | between (lo hi : Nat) | zeroOr (lo hi : Nat) | oneOf (l : List Nat)
  /-- Writable bits; the others are RSV (R15). -/
  | mask (m : Nat)
  /-- An address, 4 KiB aligned, bits [63:52] zero. -/
  | pa4k
  /-- CLASS_QUOTA's two halves (Table 7.17). -/
  | quota
  /-- DDR5_MARKED's bytes (Table 9.10). -/
  | marks
deriving DecidableEq, Repr

/-- What views an object has (R439). -/
inductive ObjKind where
  | plain | counter | peak | ring
deriving DecidableEq, Repr

/-- One row of an object table: indices `i0` to `i1`, sub-indices `s0` to `s1` of each. -/
structure ObjRow where
  i0 : Nat
  i1 : Nat
  s0 : Nat
  s1 : Nat
  ty : ObjTy
  board : Acc
  host : Acc
  guest : Acc
  groom : Acc
  dflt : Nat
  rng : Rng
  kind : ObjKind
deriving DecidableEq, Repr

namespace Obj

/-- 0x1100.01, 01_organisation.md Table 1.5. -/
abbrev domainSize : Nat := 0x110001
/-- 0x1100.02, 01_organisation.md Table 1.5. -/
abbrev domainIndex : Nat := 0x110002
/-- 0x1100.03, 01_organisation.md Table 1.5. -/
abbrev domainLeader : Nat := 0x110003
/-- 0x1100.04, 01_organisation.md Table 1.5. -/
abbrev strapStatus : Nat := 0x110004
/-- 0x1100.05, 01_organisation.md Table 1.5. -/
abbrev notHomeCount : Nat := 0x110005
/-- 0x2010.01, 01_organisation.md Table 1.5. -/
abbrev strideSyncDelay : Nat := 0x201001
/-- 0x2010.02, 01_organisation.md Table 1.5. -/
abbrev strideSyncStatus : Nat := 0x201002
/-- 0x2010.03, 01_organisation.md Table 1.5. -/
abbrev strideSyncErrors : Nat := 0x201003
/-- 0x2010.04, 01_organisation.md Table 1.5. -/
abbrev strideAtSync : Nat := 0x201004
/-- 0x2000.01, 02_stride_and_gait.md Table 2.14. -/
abbrev strideCount : Nat := 0x200001
/-- 0x2000.02, 02_stride_and_gait.md Table 2.14. -/
abbrev epochPhase : Nat := 0x200002
/-- 0x2000.03, 02_stride_and_gait.md Table 2.14. -/
abbrev gaitFormat : Nat := 0x200003
/-- 0x2100.01, 02_stride_and_gait.md Table 2.14. -/
abbrev gaitLoadBank : Nat := 0x210001
/-- 0x2100.02, 02_stride_and_gait.md Table 2.14. -/
abbrev gaitLoadImage : Nat := 0x210002
/-- 0x2100.03, 02_stride_and_gait.md Table 2.14. -/
abbrev gaitLoadOffset : Nat := 0x210003
/-- 0x2100.04, 02_stride_and_gait.md Table 2.14. -/
abbrev gaitLoadCommand : Nat := 0x210004
/-- 0x2100.05, 02_stride_and_gait.md Table 2.14. -/
abbrev gaitLoadStatus : Nat := 0x210005
/-- 0x2100.06, 02_stride_and_gait.md Table 2.14. -/
abbrev gaitRejectDetail : Nat := 0x210006
/-- 0x2100.07, 02_stride_and_gait.md Table 2.14. -/
abbrev gaitLoadErrors : Nat := 0x210007
/-- 0x2101.01–0x2101.10, 02_stride_and_gait.md Table 2.14. -/
abbrev gaitBankState : Nat := 0x210101
/-- 0x2102.01–0x2102.10, 02_stride_and_gait.md Table 2.14. -/
abbrev gaitBankId : Nat := 0x210201
/-- 0x2103.01–0x2103.10, 02_stride_and_gait.md Table 2.14. -/
abbrev gaitBankSpeed : Nat := 0x210301
/-- 0x2104.01, 02_stride_and_gait.md Table 2.14. -/
abbrev gaitActive : Nat := 0x210401
/-- 0x2104.02, 02_stride_and_gait.md Table 2.14. -/
abbrev gaitSelect : Nat := 0x210402
/-- 0x2104.03, 02_stride_and_gait.md Table 2.14. -/
abbrev gaitSwapCommit : Nat := 0x210403
/-- 0x2104.04, 02_stride_and_gait.md Table 2.14. -/
abbrev gaitSwapState : Nat := 0x210404
/-- 0x2104.05, 02_stride_and_gait.md Table 2.14. -/
abbrev gaitSwapResult : Nat := 0x210405
/-- 0x2104.06, 02_stride_and_gait.md Table 2.14. -/
abbrev gaitArmStride : Nat := 0x210406
/-- 0x2104.07, 02_stride_and_gait.md Table 2.14. -/
abbrev gaitSwitchStride : Nat := 0x210407
/-- 0x2104.08, 02_stride_and_gait.md Table 2.14. -/
abbrev gaitSwapTimeouts : Nat := 0x210408
/-- 0x2104.09, 02_stride_and_gait.md Table 2.14. -/
abbrev gaitBootBank : Nat := 0x210409
/-- 0x2104.0A, 02_stride_and_gait.md Table 2.14. -/
abbrev gaitPrevious : Nat := 0x21040A
/-- 0x2104.0B, 02_stride_and_gait.md Table 2.14. -/
abbrev gaitSwapRefusals : Nat := 0x21040B
/-- 0x2104.0C, 02_stride_and_gait.md Table 2.14. -/
abbrev gaitClipStatus : Nat := 0x21040C
/-- 0x3000.01, 03_cache_tiers.md Table 3.10. -/
abbrev streamThreshold : Nat := 0x300001
/-- 0x3000.02, 03_cache_tiers.md Table 3.10. -/
abbrev streamGap : Nat := 0x300002
/-- 0x3000.03, 03_cache_tiers.md Table 3.10. -/
abbrev huskCleanOffer : Nat := 0x300003
/-- 0x3000.04, 03_cache_tiers.md Table 3.10. -/
abbrev lfsrSeedMode : Nat := 0x300004
/-- 0x3000.05, 03_cache_tiers.md Table 3.10. -/
abbrev lfsrSeed : Nat := 0x300005
/-- 0x3200.01–0x3207.10, 03_cache_tiers.md Table 3.10. -/
abbrev partclassMap : Nat := 0x320001
/-- 0x3300.01–0x3303.10, 03_cache_tiers.md Table 3.10. -/
abbrev classWays : Nat := 0x330001
/-- 0x3100.01, 03_cache_tiers.md Table 3.10. -/
abbrev partApply : Nat := 0x310001
/-- 0x3100.02, 03_cache_tiers.md Table 3.10. -/
abbrev partHeld : Nat := 0x310002
/-- 0x3100.03, 03_cache_tiers.md Table 3.10. -/
abbrev partApplyResult : Nat := 0x310003
/-- 0x3010.01–0x3010.07, 03_cache_tiers.md Table 3.11. -/
abbrev declineCount : Nat := 0x301001
/-- 0x3011.01, 03_cache_tiers.md Table 3.11. -/
abbrev fillDrops : Nat := 0x301101
/-- 0x3011.02, 03_cache_tiers.md Table 3.11. -/
abbrev huskBypass : Nat := 0x301102
/-- 0x3011.03, 03_cache_tiers.md Table 3.11. -/
abbrev keyMismatches : Nat := 0x301103
/-- 0x3011.04, 03_cache_tiers.md Table 3.11. -/
abbrev streamEntries : Nat := 0x301104
/-- 0x3011.05, 03_cache_tiers.md Table 3.11. -/
abbrev allocAbandoned : Nat := 0x301105
/-- 0x3011.06, 03_cache_tiers.md Table 3.11. -/
abbrev hullOccupancy : Nat := 0x301106
/-- 0x3011.07, 03_cache_tiers.md Table 3.11. -/
abbrev hullPeak : Nat := 0x301107
/-- 0x3400.01, 03_cache_tiers.md Table 3.12. -/
abbrev maintCommand : Nat := 0x340001
/-- 0x3400.02, 03_cache_tiers.md Table 3.12. -/
abbrev maintBase : Nat := 0x340002
/-- 0x3400.03, 03_cache_tiers.md Table 3.12. -/
abbrev maintLimit : Nat := 0x340003
/-- 0x3400.04, 03_cache_tiers.md Table 3.12. -/
abbrev maintPartid : Nat := 0x340004
/-- 0x3400.05, 03_cache_tiers.md Table 3.12. -/
abbrev maintWays : Nat := 0x340005
/-- 0x3400.06, 03_cache_tiers.md Table 3.12. -/
abbrev maintStatus : Nat := 0x340006
/-- 0x3400.07, 03_cache_tiers.md Table 3.12. -/
abbrev maintProgress : Nat := 0x340007
/-- 0x3400.08, 03_cache_tiers.md Table 3.12. -/
abbrev maintRefusals : Nat := 0x340008
/-- 0x4000.01, 04_coherence_protocol.md Table 4.20. -/
abbrev forwardShared : Nat := 0x400001
/-- 0x4001.01, 04_coherence_protocol.md Table 4.20. -/
abbrev dirOccupancy : Nat := 0x400101
/-- 0x4001.02, 04_coherence_protocol.md Table 4.20. -/
abbrev dirPeak : Nat := 0x400102
/-- 0x4010.01, 04_coherence_protocol.md Table 4.20. -/
abbrev backInvalidations : Nat := 0x401001
/-- 0x4010.02, 04_coherence_protocol.md Table 4.20. -/
abbrev dirAllocWaits : Nat := 0x401002
/-- 0x4010.03, 04_coherence_protocol.md Table 4.20. -/
abbrev stateErrors : Nat := 0x401003
/-- 0x4010.04, 04_coherence_protocol.md Table 4.20. -/
abbrev typeErrors : Nat := 0x401004
/-- 0x4010.05, 04_coherence_protocol.md Table 4.20. -/
abbrev opcodeErrors : Nat := 0x401005
/-- 0x4010.06, 04_coherence_protocol.md Table 4.20. -/
abbrev staleSharers : Nat := 0x401006
/-- 0x4002.01, 05_coherence_conflicts.md Table 5.7. -/
abbrev waitlistMax : Nat := 0x400201
/-- 0x4002.02, 05_coherence_conflicts.md Table 5.7. -/
abbrev spurThreshold : Nat := 0x400202
/-- 0x4002.03, 05_coherence_conflicts.md Table 5.7. -/
abbrev snoopTimeout : Nat := 0x400203
/-- 0x4002.04, 05_coherence_conflicts.md Table 5.7. -/
abbrev crossingTimeout : Nat := 0x400204
/-- 0x4002.05, 05_coherence_conflicts.md Table 5.7. -/
abbrev compackTimeout : Nat := 0x400205
/-- 0x4010.07, 05_coherence_conflicts.md Table 5.7. -/
abbrev crossings : Nat := 0x401007
/-- 0x4010.08, 05_coherence_conflicts.md Table 5.7. -/
abbrev unrecordedEvictions : Nat := 0x401008
/-- 0x4010.09, 05_coherence_conflicts.md Table 5.7. -/
abbrev waitlistRefusals : Nat := 0x401009
/-- 0x4010.0A, 05_coherence_conflicts.md Table 5.7. -/
abbrev trackerRefusals : Nat := 0x40100A
/-- 0x4010.0B, 05_coherence_conflicts.md Table 5.7. -/
abbrev spurPromotions : Nat := 0x40100B
/-- 0x4010.0C, 05_coherence_conflicts.md Table 5.7. -/
abbrev headRetries : Nat := 0x40100C
/-- 0x4010.0D, 05_coherence_conflicts.md Table 5.7. -/
abbrev snoopTimeouts : Nat := 0x40100D
/-- 0x4010.0E, 05_coherence_conflicts.md Table 5.7. -/
abbrev crossingTimeouts : Nat := 0x40100E
/-- 0x4010.0F, 05_coherence_conflicts.md Table 5.7. -/
abbrev compackTimeouts : Nat := 0x40100F
/-- 0x4010.10, 05_coherence_conflicts.md Table 5.7. -/
abbrev departurePoisoned : Nat := 0x401010
/-- 0x4011.01, 05_coherence_conflicts.md Table 5.7. -/
abbrev trackersInUse : Nat := 0x401101
/-- 0x4011.02, 05_coherence_conflicts.md Table 5.7. -/
abbrev trackerPeak : Nat := 0x401102
/-- 0x4011.03, 05_coherence_conflicts.md Table 5.7. -/
abbrev waitlistPeak : Nat := 0x401103
/-- 0x4011.04, 05_coherence_conflicts.md Table 5.7. -/
abbrev spurAgePeak : Nat := 0x401104
/-- 0x4011.05, 05_coherence_conflicts.md Table 5.7. -/
abbrev trackerHoldMean : Nat := 0x401105
/-- 0x4012.01, 05_coherence_conflicts.md Table 5.7. -/
abbrev departedMask : Nat := 0x401201
/-- 0x4012.02, 05_coherence_conflicts.md Table 5.7. -/
abbrev sweepStatus : Nat := 0x401202
/-- 0x4012.03, 05_coherence_conflicts.md Table 5.7. -/
abbrev sweepProgress : Nat := 0x401203
/-- 0x4100.01–0x413F.01, 06_ordering_and_atomics.md Table 6.1. -/
abbrev regionBase : Nat := 0x410001
/-- 0x4100.02–0x413F.02, 06_ordering_and_atomics.md Table 6.1. -/
abbrev regionLimit : Nat := 0x410002
/-- 0x4100.03–0x413F.03, 06_ordering_and_atomics.md Table 6.1. -/
abbrev regionAttr : Nat := 0x410003
/-- 0x4003.01, 06_ordering_and_atomics.md Table 6.1. -/
abbrev regionDefault : Nat := 0x400301
/-- 0x4010.11, 06_ordering_and_atomics.md Table 6.7. -/
abbrev typeConflicts : Nat := 0x401011
/-- 0x4013.01, 06_ordering_and_atomics.md Table 6.7. -/
abbrev wrcondPasses : Nat := 0x401301
/-- 0x4013.02, 06_ordering_and_atomics.md Table 6.7. -/
abbrev wrcondFails : Nat := 0x401302
/-- 0x4013.03, 06_ordering_and_atomics.md Table 6.7. -/
abbrev barriers : Nat := 0x401303
/-- 0x4013.04, 06_ordering_and_atomics.md Table 6.7. -/
abbrev atomics : Nat := 0x401304
/-- 0x4013.05, 06_ordering_and_atomics.md Table 6.7. -/
abbrev writeCoalesces : Nat := 0x401305
/-- 0x4014.01–0x4014.0F, 06_ordering_and_atomics.md Table 6.7. -/
abbrev rsvClears : Nat := 0x401401
/-- 0x5000.01, 07_agent_links.md Table 7.17. -/
abbrev mclRevisions : Nat := 0x500001
/-- 0x5000.02, 07_agent_links.md Table 7.17. -/
abbrev mclFeatures : Nat := 0x500002
/-- 0x5000.03, 07_agent_links.md Table 7.17. -/
abbrev replayWait : Nat := 0x500003
/-- 0x5000.04, 07_agent_links.md Table 7.17. -/
abbrev replayLimit : Nat := 0x500004
/-- 0x5000.05, 07_agent_links.md Table 7.17. -/
abbrev quiesceTimeout : Nat := 0x500005
/-- 0x5100.01–0x510F.01, 07_agent_links.md Table 7.17. -/
abbrev portConfig : Nat := 0x510001
/-- 0x5100.02–0x510F.02, 07_agent_links.md Table 7.17. -/
abbrev linkCommand : Nat := 0x510002
/-- 0x5200.01–0x521F.01, 07_agent_links.md Table 7.17. -/
abbrev linkState : Nat := 0x520001
/-- 0x5200.02–0x521F.02, 07_agent_links.md Table 7.17. -/
abbrev linkWidth : Nat := 0x520002
/-- 0x5200.03–0x521F.03, 07_agent_links.md Table 7.17. -/
abbrev linkRate : Nat := 0x520003
/-- 0x5200.04–0x521F.04, 07_agent_links.md Table 7.17. -/
abbrev linkRevision : Nat := 0x520004
/-- 0x5200.05–0x521F.05, 07_agent_links.md Table 7.17. -/
abbrev linkFeatures : Nat := 0x520005
/-- 0x5200.06–0x521F.06, 07_agent_links.md Table 7.17. -/
abbrev agentIdent : Nat := 0x520006
/-- 0x5200.07–0x521F.07, 07_agent_links.md Table 7.17. -/
abbrev incompatibleReason : Nat := 0x520007
/-- 0x5200.08–0x521F.08, 07_agent_links.md Table 7.17. -/
abbrev fecCorrections : Nat := 0x520008
/-- 0x5200.09–0x521F.09, 07_agent_links.md Table 7.17. -/
abbrev flitReplays : Nat := 0x520009
/-- 0x5200.0A–0x521F.0A, 07_agent_links.md Table 7.17. -/
abbrev retrains : Nat := 0x52000A
/-- 0x5200.0B–0x521F.0B, 07_agent_links.md Table 7.17. -/
abbrev retrySlotSent : Nat := 0x52000B
/-- 0x5200.0C–0x521F.0C, 07_agent_links.md Table 7.17. -/
abbrev quotaRefusals : Nat := 0x52000C
/-- 0x5200.0D–0x521F.0D, 07_agent_links.md Table 7.17. -/
abbrev containedRefusals : Nat := 0x52000D
/-- 0x5200.0E–0x521F.0E, 07_agent_links.md Table 7.17. -/
abbrev egressRewinds : Nat := 0x52000E
/-- 0x5200.0F–0x521F.0F, 07_agent_links.md Table 7.17. -/
abbrev snpCreditStalls : Nat := 0x52000F
/-- 0x5200.10–0x521F.10, 07_agent_links.md Table 7.17. -/
abbrev tagErrors : Nat := 0x520010
/-- 0x5200.11–0x521F.11, 07_agent_links.md Table 7.17. -/
abbrev mgtDiscards : Nat := 0x520011
/-- 0x5200.12–0x521F.12, 07_agent_links.md Table 7.17. -/
abbrev linkDowns : Nat := 0x520012
/-- 0x5300.01–0x5303.10, 07_agent_links.md Table 7.17. -/
abbrev classQuota : Nat := 0x530001
/-- 0x6000.01, 08_memory_and_husk_ports.md Table 8.6. -/
abbrev memDimmType : Nat := 0x600001
/-- 0x6000.02, 08_memory_and_husk_ports.md Table 8.6. -/
abbrev memDpc : Nat := 0x600002
/-- 0x6000.03, 08_memory_and_husk_ports.md Table 8.6. -/
abbrev memRanks : Nat := 0x600003
/-- 0x6000.04, 08_memory_and_husk_ports.md Table 8.6. -/
abbrev memDensity : Nat := 0x600004
/-- 0x6000.05, 08_memory_and_husk_ports.md Table 8.6. -/
abbrev memSpeedMax : Nat := 0x600005
/-- 0x6000.06, 08_memory_and_husk_ports.md Table 8.6. -/
abbrev memConfigValid : Nat := 0x600006
/-- 0x6000.07, 08_memory_and_husk_ports.md Table 8.6. -/
abbrev memSpeed : Nat := 0x600007
/-- 0x6000.08, 08_memory_and_husk_ports.md Table 8.6. -/
abbrev memCapacity : Nat := 0x600008
/-- 0x6000.09, 08_memory_and_husk_ports.md Table 8.6. -/
abbrev rowIdleClose : Nat := 0x600009
/-- 0x6000.0A, 08_memory_and_husk_ports.md Table 8.6. -/
abbrev ddr5RefNeed : Nat := 0x60000A
/-- 0x6010.01–0x601B.01, 08_memory_and_husk_ports.md Table 8.7. -/
abbrev chanState : Nat := 0x601001
/-- 0x6010.02–0x601B.02, 08_memory_and_husk_ports.md Table 8.7. -/
abbrev pwbOccupancy : Nat := 0x601002
/-- 0x6010.03–0x601B.03, 08_memory_and_husk_ports.md Table 8.7. -/
abbrev pwbPeak : Nat := 0x601003
/-- 0x6010.04–0x601B.04, 08_memory_and_husk_ports.md Table 8.7. -/
abbrev refreshRefusals : Nat := 0x601004
/-- 0x6010.05–0x601B.05, 08_memory_and_husk_ports.md Table 8.7. -/
abbrev chanHot : Nat := 0x601005
/-- 0x6010.06–0x601B.06, 08_memory_and_husk_ports.md Table 8.7. -/
abbrev unreservedWaits : Nat := 0x601006
/-- 0x6100.01–0x6100.12, 08_memory_and_husk_ports.md Table 8.8. -/
abbrev huskPortState : Nat := 0x610001
/-- 0x6101.01, 08_memory_and_husk_ports.md Table 8.8. -/
abbrev huskRefNeed : Nat := 0x610101
/-- 0x6101.02, 08_memory_and_husk_ports.md Table 8.8. -/
abbrev huskTempMax : Nat := 0x610102
/-- 0x6200.01, 08_memory_and_husk_ports.md Table 8.9. -/
abbrev drainPort : Nat := 0x620001
/-- 0x6200.02, 08_memory_and_husk_ports.md Table 8.9. -/
abbrev drainCommand : Nat := 0x620002
/-- 0x6200.03, 08_memory_and_husk_ports.md Table 8.9. -/
abbrev drainStatus : Nat := 0x620003
/-- 0x6200.04, 08_memory_and_husk_ports.md Table 8.9. -/
abbrev drainProgress : Nat := 0x620004
/-- 0x6200.05, 08_memory_and_husk_ports.md Table 8.9. -/
abbrev drainLinesMoved : Nat := 0x620005
/-- 0xC000.01, 08_memory_and_husk_ports.md Table 8.10. -/
abbrev keyIndex : Nat := 0xC00001
/-- 0xC000.02, 08_memory_and_husk_ports.md Table 8.10. -/
abbrev keyMaterial : Nat := 0xC00002
/-- 0xC000.03, 08_memory_and_husk_ports.md Table 8.10. -/
abbrev keyCommand : Nat := 0xC00003
/-- 0xC000.04, 08_memory_and_husk_ports.md Table 8.10. -/
abbrev keyStatus : Nat := 0xC00004
/-- 0xC000.05, 08_memory_and_husk_ports.md Table 8.10. -/
abbrev keyCommands : Nat := 0xC00005
/-- 0xC001.01–0xC001.10, 08_memory_and_husk_ports.md Table 8.10. -/
abbrev keyInstalled : Nat := 0xC00101
/-- 0x7000.01–0x7000.04, 09_reliability.md Table 9.10. -/
abbrev scrubRate : Nat := 0x700001
/-- 0x7000.05, 09_reliability.md Table 9.10. -/
abbrev markThreshold : Nat := 0x700005
/-- 0x7000.06, 09_reliability.md Table 9.10. -/
abbrev huskTrendLimit : Nat := 0x700006
/-- 0x7001.01–0x7001.04, 09_reliability.md Table 9.10. -/
abbrev scrubPasses : Nat := 0x700101
/-- 0x7001.05, 09_reliability.md Table 9.10. -/
abbrev scrubDeferred : Nat := 0x700105
/-- 0x7002.01–0x7002.12, 09_reliability.md Table 9.10. -/
abbrev huskTrend : Nat := 0x700201
/-- 0x7003.01–0x7003.0C, 09_reliability.md Table 9.10. -/
abbrev ddr5Marked : Nat := 0x700301
/-- 0x7003.0D, 09_reliability.md Table 9.10. -/
abbrev ddr5CaAlerts : Nat := 0x70030D
/-- 0x7100.01–0x7100.40, 09_reliability.md Table 9.11. -/
abbrev bucketLevel : Nat := 0x710001
/-- 0x7101.01–0x7101.40, 09_reliability.md Table 9.11. -/
abbrev bucketCapacity : Nat := 0x710101
/-- 0x7102.01–0x7102.40, 09_reliability.md Table 9.11. -/
abbrev bucketLeak : Nat := 0x710201
/-- 0x7103.01–0x7103.40, 09_reliability.md Table 9.11. -/
abbrev correctedCount : Nat := 0x710301
/-- 0x7104.01–0x7104.40, 09_reliability.md Table 9.11. -/
abbrev uncorrectedCount : Nat := 0x710401
/-- 0x7200.01–0x7200.40, 09_reliability.md Table 9.12. -/
abbrev fieldRepairsUsed : Nat := 0x720001
/-- 0x7201.01, 09_reliability.md Table 9.12. -/
abbrev farrierStatus : Nat := 0x720101
/-- 0x7201.02, 09_reliability.md Table 9.12. -/
abbrev farrierQueue : Nat := 0x720102
/-- 0x7201.03, 09_reliability.md Table 9.12. -/
abbrev farrierDropped : Nat := 0x720103
/-- 0x7201.04, 09_reliability.md Table 9.12. -/
abbrev waysRetired : Nat := 0x720104
/-- 0x7201.05, 09_reliability.md Table 9.12. -/
abbrev regionsDisabled : Nat := 0x720105
/-- 0x7300.01, 09_reliability.md Table 9.12. -/
abbrev kernelLinesAvail : Nat := 0x730001
/-- 0x7300.02, 09_reliability.md Table 9.12. -/
abbrev huskSectorsAvail : Nat := 0x730002
/-- 0x7300.03, 09_reliability.md Table 9.12. -/
abbrev dirEntriesAvail : Nat := 0x730003
/-- 0x7300.04, 09_reliability.md Table 9.12. -/
abbrev degradePending : Nat := 0x730004
/-- 0x7400.01, 09_reliability.md Table 9.13. -/
abbrev containCause : Nat := 0x740001
/-- 0x7400.02, 09_reliability.md Table 9.13. -/
abbrev fencedSlices : Nat := 0x740002
/-- 0x7400.03, 09_reliability.md Table 9.13. -/
abbrev lostLines : Nat := 0x740003
/-- 0x7400.04, 09_reliability.md Table 9.13. -/
abbrev containSweep : Nat := 0x740004
/-- 0x7400.05, 09_reliability.md Table 9.13. -/
abbrev poisonCreated : Nat := 0x740005
/-- 0x7400.06, 09_reliability.md Table 9.13. -/
abbrev poisonServed : Nat := 0x740006
/-- 0x7500.01, 09_reliability.md Table 9.13. -/
abbrev strayMessages : Nat := 0x750001
/-- 0x7500.02, 09_reliability.md Table 9.13. -/
abbrev rsvFieldErrors : Nat := 0x750002
/-- 0x7500.03, 09_reliability.md Table 9.13. -/
abbrev clockMonStatus : Nat := 0x750003
/-- 0xB000.01, 10_modes_reset_power.md Table 10.10. -/
abbrev modeCurrent : Nat := 0xB00001
/-- 0xB000.02, 10_modes_reset_power.md Table 10.10. -/
abbrev modeRequest : Nat := 0xB00002
/-- 0xB000.03, 10_modes_reset_power.md Table 10.10. -/
abbrev modeResult : Nat := 0xB00003
/-- 0xB000.04, 10_modes_reset_power.md Table 10.10. -/
abbrev modePrevious : Nat := 0xB00004
/-- 0xB000.05, 10_modes_reset_power.md Table 10.10. -/
abbrev modeEntryStride : Nat := 0xB00005
/-- 0xB000.06, 10_modes_reset_power.md Table 10.10. -/
abbrev bootMode : Nat := 0xB00006
/-- 0xB000.07, 10_modes_reset_power.md Table 10.10. -/
abbrev drainDone : Nat := 0xB00007
/-- 0xB000.08, 10_modes_reset_power.md Table 10.10. -/
abbrev dirtyLines : Nat := 0xB00008
/-- 0xB000.09, 10_modes_reset_power.md Table 10.10. -/
abbrev restWakeOnReq : Nat := 0xB00009
/-- 0xB000.0A, 10_modes_reset_power.md Table 10.10. -/
abbrev stopLimit : Nat := 0xB0000A
/-- 0xB000.0B, 10_modes_reset_power.md Table 10.10. -/
abbrev reduced : Nat := 0xB0000B
/-- 0xB000.0C, 10_modes_reset_power.md Table 10.10. -/
abbrev modeRefusals : Nat := 0xB0000C
/-- 0xB001.01, 10_modes_reset_power.md Table 10.10. -/
abbrev resetCommand : Nat := 0xB00101
/-- 0xB001.02, 10_modes_reset_power.md Table 10.10. -/
abbrev resetCause : Nat := 0xB00102
/-- 0xB001.03, 10_modes_reset_power.md Table 10.10. -/
abbrev resetHoldMs : Nat := 0xB00103
/-- 0xB001.04, 10_modes_reset_power.md Table 10.10. -/
abbrev bringupStep : Nat := 0xB00104
/-- 0xB001.05, 10_modes_reset_power.md Table 10.10. -/
abbrev bringupTime : Nat := 0xB00105
/-- 0xB001.06, 10_modes_reset_power.md Table 10.10. -/
abbrev bistOnSettle : Nat := 0xB00106
/-- 0xB001.07, 10_modes_reset_power.md Table 10.10. -/
abbrev settlePhase : Nat := 0xB00107
/-- 0xB001.08, 10_modes_reset_power.md Table 10.10. -/
abbrev settleIgnored : Nat := 0xB00108
/-- 0xB001.09, 10_modes_reset_power.md Table 10.10. -/
abbrev settleForced : Nat := 0xB00109
/-- 0xB100.01–0xB100.04, 10_modes_reset_power.md Table 10.10. -/
abbrev paddock : Nat := 0xB10001
/-- 0xB200.01, 10_modes_reset_power.md Table 10.10. -/
abbrev railStatus : Nat := 0xB20001
/-- 0x1000.01, 11_dictionary_and_registers.md Table 11.10. -/
abbrev vendorCode : Nat := 0x100001
/-- 0x1000.02, 11_dictionary_and_registers.md Table 11.10. -/
abbrev partCode : Nat := 0x100002
/-- 0x1000.03, 11_dictionary_and_registers.md Table 11.10. -/
abbrev stepping : Nat := 0x100003
/-- 0x1000.04, 11_dictionary_and_registers.md Table 11.10. -/
abbrev fusedConfig : Nat := 0x100004
/-- 0x1000.05, 11_dictionary_and_registers.md Table 11.10. -/
abbrev dictVersion : Nat := 0x100005
/-- 0x1000.06, 11_dictionary_and_registers.md Table 11.10. -/
abbrev bridleVersion : Nat := 0x100006
/-- 0x1000.07, 11_dictionary_and_registers.md Table 11.10. -/
abbrev romVersion : Nat := 0x100007
/-- 0x1000.08, 11_dictionary_and_registers.md Table 11.10. -/
abbrev serial : Nat := 0x100008
/-- 0x1001.01, 11_dictionary_and_registers.md Table 11.10. -/
abbrev nodeId : Nat := 0x100101
/-- 0x1001.02, 11_dictionary_and_registers.md Table 11.10. -/
abbrev nodeStatus : Nat := 0x100102
/-- 0x1001.03, 11_dictionary_and_registers.md Table 11.10. -/
abbrev windowBase : Nat := 0x100103
/-- 0x1003.01–0x1003.04, 11_dictionary_and_registers.md Table 11.11. -/
abbrev lastRefusal : Nat := 0x100301
/-- 0x1003.05–0x1003.08, 11_dictionary_and_registers.md Table 11.11. -/
abbrev dictRefusals : Nat := 0x100305
/-- 0x1004.01–0x1004.10, 11_dictionary_and_registers.md Table 11.11. -/
abbrev dictLock : Nat := 0x100401
/-- 0x1005.01, 11_dictionary_and_registers.md Table 11.11. -/
abbrev lockTimeout : Nat := 0x100501
/-- 0x1005.02, 11_dictionary_and_registers.md Table 11.11. -/
abbrev lockExpiries : Nat := 0x100502
/-- 0x1005.03, 11_dictionary_and_registers.md Table 11.11. -/
abbrev dictStoreErrors : Nat := 0x100503
/-- 0x1010.01–0x1010.10, 11_dictionary_and_registers.md Table 11.11. -/
abbrev portSelect : Nat := 0x101001
/-- 0x1011.01–0x1011.10, 11_dictionary_and_registers.md Table 11.11. -/
abbrev portData : Nat := 0x101101
/-- 0x1012.01–0x1012.10, 11_dictionary_and_registers.md Table 11.11. -/
abbrev portStatus : Nat := 0x101201
/-- 0x1020.01, 11_dictionary_and_registers.md Table 11.11. -/
abbrev snapshotCommand : Nat := 0x102001
/-- 0x1020.02, 11_dictionary_and_registers.md Table 11.11. -/
abbrev snapshotSeq : Nat := 0x102002
/-- 0x1020.03, 11_dictionary_and_registers.md Table 11.11. -/
abbrev snapshotStride : Nat := 0x102003
/-- 0x1020.04, 11_dictionary_and_registers.md Table 11.11. -/
abbrev snapshotValid : Nat := 0x102004
/-- 0x1030.01, 11_dictionary_and_registers.md Table 11.11. -/
abbrev hostAreas : Nat := 0x103001
/-- 0x1002.01, 11_dictionary_and_registers.md Table 11.12. -/
abbrev bridleNominal : Nat := 0x100201
/-- 0x1002.02, 11_dictionary_and_registers.md Table 11.12. -/
abbrev bridleData : Nat := 0x100202
/-- 0x1002.03, 11_dictionary_and_registers.md Table 11.12. -/
abbrev heartbeatPeriod : Nat := 0x100203
/-- 0x1002.04, 11_dictionary_and_registers.md Table 11.12. -/
abbrev alarmRepeat : Nat := 0x100204
/-- 0x1002.05, 11_dictionary_and_registers.md Table 11.12. -/
abbrev busStatus : Nat := 0x100205
/-- 0x1002.06, 11_dictionary_and_registers.md Table 11.12. -/
abbrev busErrorsA : Nat := 0x100206
/-- 0x1002.07, 11_dictionary_and_registers.md Table 11.12. -/
abbrev busErrorsB : Nat := 0x100207
/-- 0x1002.08, 11_dictionary_and_registers.md Table 11.12. -/
abbrev busEnable : Nat := 0x100208
/-- 0x1002.09, 11_dictionary_and_registers.md Table 11.12. -/
abbrev bridleDuplicates : Nat := 0x100209
/-- 0x1002.0A, 11_dictionary_and_registers.md Table 11.12. -/
abbrev busIgnored : Nat := 0x10020A
/-- 0x1002.0B, 11_dictionary_and_registers.md Table 11.12. -/
abbrev alarmsUnacked : Nat := 0x10020B
/-- 0x8000.01–0x803F.10, 12_interrupts_and_events.md Table 12.8. -/
abbrev sourceConfig : Nat := 0x800001
/-- 0x8040.01–0x807F.10, 12_interrupts_and_events.md Table 12.8. -/
abbrev sourceState : Nat := 0x804001
/-- 0x8080.01–0x8080.10, 12_interrupts_and_events.md Table 12.8. -/
abbrev irqStatus : Nat := 0x808001
/-- 0x8100.01–0x813F.10, 12_interrupts_and_events.md Table 12.8. -/
abbrev targetEntry : Nat := 0x810001
/-- 0x8200.01–0x8201.10, 12_interrupts_and_events.md Table 12.8. -/
abbrev fastCtrl : Nat := 0x820001
/-- 0x8202.01–0x8203.10, 12_interrupts_and_events.md Table 12.8. -/
abbrev fastState : Nat := 0x820201
/-- 0x8300.01–0x833F.01, 12_interrupts_and_events.md Table 12.8. -/
abbrev ringRead : Nat := 0x830001
/-- 0x8300.02–0x833F.02, 12_interrupts_and_events.md Table 12.8. -/
abbrev ringFill : Nat := 0x830002
/-- 0x8300.03–0x833F.03, 12_interrupts_and_events.md Table 12.8. -/
abbrev ringWptr : Nat := 0x830003
/-- 0x8300.04–0x833F.04, 12_interrupts_and_events.md Table 12.8. -/
abbrev ringRptr : Nat := 0x830004
/-- 0x8300.05–0x833F.05, 12_interrupts_and_events.md Table 12.8. -/
abbrev ringThreshold : Nat := 0x830005
/-- 0x8300.06–0x833F.06, 12_interrupts_and_events.md Table 12.8. -/
abbrev ringDropped : Nat := 0x830006
/-- 0x8300.07–0x833F.07, 12_interrupts_and_events.md Table 12.8. -/
abbrev ringSummarised : Nat := 0x830007
/-- 0x8300.08–0x833F.08, 12_interrupts_and_events.md Table 12.8. -/
abbrev ringCoalesced : Nat := 0x830008
/-- 0x8300.09–0x833F.09, 12_interrupts_and_events.md Table 12.8. -/
abbrev ringRewound : Nat := 0x830009
/-- 0x8400.02, 12_interrupts_and_events.md Table 12.8. -/
abbrev unmatchedDone : Nat := 0x840002
/-- 0x8400.03, 12_interrupts_and_events.md Table 12.8. -/
abbrev noTarget : Nat := 0x840003
/-- 0x8400.04, 12_interrupts_and_events.md Table 12.8. -/
abbrev prioErrors : Nat := 0x840004
/-- 0x8400.05, 12_interrupts_and_events.md Table 12.8. -/
abbrev deliveries : Nat := 0x840005
/-- 0x8400.06, 12_interrupts_and_events.md Table 12.8. -/
abbrev wakes : Nat := 0x840006
/-- 0x8400.07, 12_interrupts_and_events.md Table 12.8. -/
abbrev fastLate : Nat := 0x840007
/-- 0x8400.08, 12_interrupts_and_events.md Table 12.8. -/
abbrev alarmLatches : Nat := 0x840008
/-- 0x8410.01–0x8410.10, 12_interrupts_and_events.md Table 12.8. -/
abbrev eventInFilter : Nat := 0x841001
/-- 0x8411.01, 12_interrupts_and_events.md Table 12.8. -/
abbrev eventInPolarity : Nat := 0x841101
/-- 0x8420.01, 12_interrupts_and_events.md Table 12.8. -/
abbrev swRaise : Nat := 0x842001
/-- 0x9100.01–0x910F.10, 13_performance_monitoring.md Table 13.7. -/
abbrev ctrValue : Nat := 0x910001
/-- 0x9110.01–0x911F.10, 13_performance_monitoring.md Table 13.7. -/
abbrev ctrEvent : Nat := 0x911001
/-- 0x9120.01–0x912F.10, 13_performance_monitoring.md Table 13.7. -/
abbrev ctrFilter : Nat := 0x912001
/-- 0x9130.01–0x913F.10, 13_performance_monitoring.md Table 13.7. -/
abbrev ctrOwner : Nat := 0x913001
/-- 0x9140.01–0x9141.10, 13_performance_monitoring.md Table 13.7. -/
abbrev fixedValue : Nat := 0x914001
/-- 0x9142.01, 13_performance_monitoring.md Table 13.7. -/
abbrev fixedEnable : Nat := 0x914201
/-- 0x9150.01–0x9150.08, 13_performance_monitoring.md Table 13.7. -/
abbrev pmuRangeBase : Nat := 0x915001
/-- 0x9151.01–0x9151.08, 13_performance_monitoring.md Table 13.7. -/
abbrev pmuRangeLimit : Nat := 0x915101
/-- 0x9200.01–0x9200.08, 13_performance_monitoring.md Table 13.7. -/
abbrev samplePeriod : Nat := 0x920001
/-- 0x9201.01–0x9201.08, 13_performance_monitoring.md Table 13.7. -/
abbrev sampleJitter : Nat := 0x920101
/-- 0x9202.01, 13_performance_monitoring.md Table 13.7. -/
abbrev samplesTaken : Nat := 0x920201
/-- 0x9202.02, 13_performance_monitoring.md Table 13.7. -/
abbrev samplesMissed : Nat := 0x920202
/-- 0x9202.03, 13_performance_monitoring.md Table 13.7. -/
abbrev samplesAbandoned : Nat := 0x920203
/-- 0x9300.01–0x931F.10, 13_performance_monitoring.md Table 13.7. -/
abbrev histBinLow : Nat := 0x930001
/-- 0x9320.01–0x933F.10, 13_performance_monitoring.md Table 13.7. -/
abbrev histBinHigh : Nat := 0x932001
/-- 0x9340.01–0x935F.01, 13_performance_monitoring.md Table 13.7. -/
abbrev histSeq : Nat := 0x934001
/-- 0x9340.02–0x935F.02, 13_performance_monitoring.md Table 13.7. -/
abbrev histReads : Nat := 0x934002
/-- 0x9340.03–0x935F.03, 13_performance_monitoring.md Table 13.7. -/
abbrev histBytesOut : Nat := 0x934003
/-- 0x9340.04–0x935F.04, 13_performance_monitoring.md Table 13.7. -/
abbrev histBytesIn : Nat := 0x934004
/-- 0x9340.05–0x935F.05, 13_performance_monitoring.md Table 13.7. -/
abbrev histMax : Nat := 0x934005
/-- 0x9340.06–0x935F.06, 13_performance_monitoring.md Table 13.7. -/
abbrev histOverBound : Nat := 0x934006
/-- 0x9340.07–0x935F.07, 13_performance_monitoring.md Table 13.7. -/
abbrev histEnd : Nat := 0x934007
/-- 0x9400.01, 13_performance_monitoring.md Table 13.7. -/
abbrev histWindow : Nat := 0x940001
/-- 0x9400.02, 13_performance_monitoring.md Table 13.7. -/
abbrev histEnable : Nat := 0x940002
/-- 0x9500.01–0x9500.10, 13_performance_monitoring.md Table 13.7. -/
abbrev guestCtr : Nat := 0x950001
/-- 0x9501.01–0x9501.10, 13_performance_monitoring.md Table 13.7. -/
abbrev guestEvent : Nat := 0x950101
/-- 0x9502.01–0x9502.10, 13_performance_monitoring.md Table 13.7. -/
abbrev guestSnap : Nat := 0x950201
/-- 0xA000.01, 14_policy_core.md Table 14.10. -/
abbrev groomState : Nat := 0xA00001
/-- 0xA000.02, 14_policy_core.md Table 14.10. -/
abbrev groomCommand : Nat := 0xA00002
/-- 0xA000.03, 14_policy_core.md Table 14.10. -/
abbrev groomImageSelect : Nat := 0xA00003
/-- 0xA000.04, 14_policy_core.md Table 14.10. -/
abbrev groomRunningImage : Nat := 0xA00004
/-- 0xA000.05, 14_policy_core.md Table 14.10. -/
abbrev groomImageVersion : Nat := 0xA00005
/-- 0xA000.06, 14_policy_core.md Table 14.10. -/
abbrev groomAuthResult : Nat := 0xA00006
/-- 0xA000.07, 14_policy_core.md Table 14.10. -/
abbrev groomPc : Nat := 0xA00007
/-- 0xA010.01, 14_policy_core.md Table 14.10. -/
abbrev groomOverruns : Nat := 0xA01001
/-- 0xA010.02, 14_policy_core.md Table 14.10. -/
abbrev groomRestarts : Nat := 0xA01002
/-- 0xA010.03–0xA010.06, 14_policy_core.md Table 14.10. -/
abbrev brCount : Nat := 0xA01003
/-- 0xA010.03–0xA010.06, 14_policy_core.md Table 14.10. -/
abbrev brMiss : Nat := 0xA01004
/-- 0xA010.03–0xA010.06, 14_policy_core.md Table 14.10. -/
abbrev retCount : Nat := 0xA01005
/-- 0xA010.03–0xA010.06, 14_policy_core.md Table 14.10. -/
abbrev retMiss : Nat := 0xA01006
/-- 0xA010.07, 14_policy_core.md Table 14.10. -/
abbrev groomHaltEpochs : Nat := 0xA01007
/-- 0xA020.01, 14_policy_core.md Table 14.10. -/
abbrev groomWatchdog : Nat := 0xA02001
/-- 0xA020.02, 14_policy_core.md Table 14.10. -/
abbrev groomAreas : Nat := 0xA02002
/-- 0xA020.03, 14_policy_core.md Table 14.10. -/
abbrev groomDebugAllow : Nat := 0xA02003
/-- 0xA100.01, 14_policy_core.md Table 14.10. -/
abbrev stageCommand : Nat := 0xA10001
/-- 0xA100.02, 14_policy_core.md Table 14.10. -/
abbrev stageImage : Nat := 0xA10002
/-- 0xA100.03, 14_policy_core.md Table 14.10. -/
abbrev stageOffset : Nat := 0xA10003
/-- 0xA100.04, 14_policy_core.md Table 14.10. -/
abbrev stageStatus : Nat := 0xA10004
/-- 0xA200.01–0xA200.20, 14_policy_core.md Table 14.10. -/
abbrev policyParam : Nat := 0xA20001
/-- 0xB200.02, 15_package_and_electrical.md Table 15.13. -/
abbrev dieTemp : Nat := 0xB20002
/-- 0xB200.03, 15_package_and_electrical.md Table 15.13. -/
abbrev dieTempPeak : Nat := 0xB20003
/-- 0xB200.04, 15_package_and_electrical.md Table 15.13. -/
abbrev strapRaw : Nat := 0xB20004
/-- 0xB200.05, 15_package_and_electrical.md Table 15.13. -/
abbrev thermtripSeen : Nat := 0xB20005

end Obj

/-- Objects of area 0x1 (Table 11.3). -/
def catalogue1 : List ObjRow := [
  ⟨0x1100, 0x1100, 1, 1, .u8, .ro, .ro, .none, .ro, 0x0, .any, .plain⟩,
  ⟨0x1100, 0x1100, 2, 2, .u8, .ro, .ro, .none, .ro, 0x0, .any, .plain⟩,
  ⟨0x1100, 0x1100, 3, 3, .bool, .ro, .ro, .none, .ro, 0x0, .any, .plain⟩,
  ⟨0x1100, 0x1100, 4, 4, .enum8, .ro, .ro, .none, .ro, 0x0, .any, .plain⟩,
  ⟨0x1100, 0x1100, 5, 5, .u32, .rc, .rc, .none, .ro, 0x0, .any, .counter⟩,
  ⟨0x1000, 0x1000, 1, 1, .u16, .ro, .ro, .ro, .ro, 0x4B44, .any, .plain⟩,
  ⟨0x1000, 0x1000, 2, 2, .u16, .ro, .ro, .ro, .ro, 0x2C0, .any, .plain⟩,
  ⟨0x1000, 0x1000, 3, 3, .u8, .ro, .ro, .ro, .ro, 0x10, .any, .plain⟩,
  ⟨0x1000, 0x1000, 4, 4, .enum8, .ro, .ro, .ro, .ro, 0x0, .any, .plain⟩,
  ⟨0x1000, 0x1000, 5, 5, .u16, .ro, .ro, .ro, .ro, 0x100, .any, .plain⟩,
  ⟨0x1000, 0x1000, 6, 6, .u16, .ro, .ro, .none, .ro, 0x100, .any, .plain⟩,
  ⟨0x1000, 0x1000, 7, 7, .u32, .ro, .ro, .none, .ro, 0x10000, .any, .plain⟩,
  ⟨0x1000, 0x1000, 8, 8, .u64, .ro, .ro, .none, .ro, 0x0, .any, .plain⟩,
  ⟨0x1001, 0x1001, 1, 1, .u8, .ro, .ro, .none, .ro, 0x0, .any, .plain⟩,
  ⟨0x1001, 0x1001, 2, 2, .enum8, .ro, .ro, .none, .ro, 0x0, .any, .plain⟩,
  ⟨0x1001, 0x1001, 3, 3, .u64, .ro, .ro, .ro, .ro, 0x0, .any, .plain⟩,
  ⟨0x1003, 0x1003, 1, 4, .u64, .ro, .ro, .none, .ro, 0x0, .any, .plain⟩,
  ⟨0x1003, 0x1003, 5, 8, .u32, .rc, .rc, .none, .ro, 0x0, .any, .counter⟩,
  ⟨0x1004, 0x1004, 1, 16, .u32, .rw, .rw, .none, .rw, 0x0, .between 1 3, .plain⟩,
  ⟨0x1005, 0x1005, 1, 1, .u32, .rw, .rw, .none, .ro, 0x7A12, .between 1024 3125000, .plain⟩,
  ⟨0x1005, 0x1005, 2, 2, .u32, .rc, .rc, .none, .ro, 0x0, .any, .counter⟩,
  ⟨0x1005, 0x1005, 3, 3, .u32, .rc, .rc, .none, .ro, 0x0, .any, .counter⟩,
  ⟨0x1010, 0x1010, 1, 16, .u32, .none, .rw, .none, .none, 0x0, .mask 0xFFFFFFC0, .plain⟩,
  ⟨0x1011, 0x1011, 1, 16, .u64, .none, .rw, .none, .none, 0x0, .any, .plain⟩,
  ⟨0x1012, 0x1012, 1, 16, .u8, .none, .ro, .none, .none, 0x0, .any, .plain⟩,
  ⟨0x1020, 0x1020, 1, 1, .enum8, .wo, .wo, .none, .wo, 0x0, .between 1 2, .plain⟩,
  ⟨0x1020, 0x1020, 2, 2, .u32, .ro, .ro, .ro, .ro, 0x0, .any, .plain⟩,
  ⟨0x1020, 0x1020, 3, 3, .u64, .ro, .ro, .ro, .ro, 0x0, .any, .plain⟩,
  ⟨0x1020, 0x1020, 4, 4, .bool, .ro, .ro, .ro, .ro, 0x0, .any, .plain⟩,
  ⟨0x1030, 0x1030, 1, 1, .u16, .rw, .ro, .none, .ro, 0xFFFF, .any, .plain⟩,
  ⟨0x1002, 0x1002, 1, 1, .enum8, .rw, .ro, .none, .ro, 0x1, .between 0 1, .plain⟩,
  ⟨0x1002, 0x1002, 2, 2, .enum8, .rw, .ro, .none, .ro, 0x2, .between 0 3, .plain⟩,
  ⟨0x1002, 0x1002, 3, 3, .u16, .rw, .rw, .none, .ro, 0x64, .zeroOr 10 10000, .plain⟩,
  ⟨0x1002, 0x1002, 4, 4, .u16, .rw, .rw, .none, .ro, 0x3E8, .between 100 60000, .plain⟩,
  ⟨0x1002, 0x1002, 5, 5, .u8, .ro, .ro, .none, .ro, 0x30, .any, .plain⟩,
  ⟨0x1002, 0x1002, 6, 6, .u32, .rc, .rc, .none, .ro, 0x0, .any, .counter⟩,
  ⟨0x1002, 0x1002, 7, 7, .u32, .rc, .rc, .none, .ro, 0x0, .any, .counter⟩,
  ⟨0x1002, 0x1002, 8, 8, .u8, .rw, .ro, .none, .ro, 0x3, .mask 3, .plain⟩,
  ⟨0x1002, 0x1002, 9, 9, .u32, .rc, .rc, .none, .ro, 0x0, .any, .counter⟩,
  ⟨0x1002, 0x1002, 10, 10, .u32, .rc, .rc, .none, .ro, 0x0, .any, .counter⟩,
  ⟨0x1002, 0x1002, 11, 11, .u8, .ro, .ro, .none, .ro, 0x0, .any, .plain⟩]

/-- Objects of area 0x2 (Table 11.3). -/
def catalogue2 : List ObjRow := [
  ⟨0x2010, 0x2010, 1, 1, .u8, .rw, .rw, .none, .ro, 0x0, .between 0 48, .plain⟩,
  ⟨0x2010, 0x2010, 2, 2, .u8, .ro, .ro, .none, .ro, 0x0, .any, .plain⟩,
  ⟨0x2010, 0x2010, 3, 3, .u32, .rc, .rc, .none, .ro, 0x0, .any, .counter⟩,
  ⟨0x2010, 0x2010, 4, 4, .u64, .ro, .ro, .none, .ro, 0x0, .any, .plain⟩,
  ⟨0x2000, 0x2000, 1, 1, .u64, .ro, .ro, .ro, .ro, 0x0, .any, .plain⟩,
  ⟨0x2000, 0x2000, 2, 2, .u16, .ro, .ro, .ro, .ro, 0x0, .any, .plain⟩,
  ⟨0x2000, 0x2000, 3, 3, .u16, .ro, .ro, .none, .ro, 0x100, .any, .plain⟩,
  ⟨0x2100, 0x2100, 1, 1, .u8, .rw, .rw, .none, .rw, 0x0, .between 1 15, .plain⟩,
  ⟨0x2100, 0x2100, 2, 2, .blob, .wo, .wo, .none, .wo, 0x0, .any, .plain⟩,
  ⟨0x2100, 0x2100, 3, 3, .u16, .ro, .ro, .none, .ro, 0x0, .any, .plain⟩,
  ⟨0x2100, 0x2100, 4, 4, .enum8, .wo, .wo, .none, .wo, 0x0, .between 1 3, .plain⟩,
  ⟨0x2100, 0x2100, 5, 5, .u16, .ro, .ro, .none, .ro, 0x0, .any, .plain⟩,
  ⟨0x2100, 0x2100, 6, 6, .u32, .ro, .ro, .none, .ro, 0x0, .any, .plain⟩,
  ⟨0x2100, 0x2100, 7, 7, .u32, .rc, .rc, .none, .ro, 0x0, .any, .counter⟩,
  ⟨0x2101, 0x2101, 1, 16, .enum8, .ro, .ro, .none, .ro, 0x0, .any, .plain⟩,
  ⟨0x2102, 0x2102, 1, 16, .u32, .ro, .ro, .none, .ro, 0x0, .any, .plain⟩,
  ⟨0x2103, 0x2103, 1, 16, .enum8, .ro, .ro, .none, .ro, 0x0, .any, .plain⟩,
  ⟨0x2104, 0x2104, 1, 1, .u8, .ro, .ro, .ro, .ro, 0x0, .any, .plain⟩,
  ⟨0x2104, 0x2104, 2, 2, .u8, .rw, .rw, .none, .rw, 0x0, .between 0 15, .plain⟩,
  ⟨0x2104, 0x2104, 3, 3, .u16, .wo, .wo, .none, .wo, 0x0, .between 23040 23055, .plain⟩,
  ⟨0x2104, 0x2104, 4, 4, .enum8, .ro, .ro, .none, .ro, 0x0, .any, .plain⟩,
  ⟨0x2104, 0x2104, 5, 5, .enum8, .ro, .ro, .none, .ro, 0x0, .any, .plain⟩,
  ⟨0x2104, 0x2104, 6, 6, .u64, .ro, .ro, .none, .ro, 0x0, .any, .plain⟩,
  ⟨0x2104, 0x2104, 7, 7, .u64, .ro, .ro, .ro, .ro, 0x0, .any, .plain⟩,
  ⟨0x2104, 0x2104, 8, 8, .u32, .rc, .rc, .none, .ro, 0x0, .any, .counter⟩,
  ⟨0x2104, 0x2104, 9, 9, .u8, .rw, .rw, .none, .none, 0x0, .between 0 15, .plain⟩,
  ⟨0x2104, 0x2104, 10, 10, .u8, .ro, .ro, .none, .ro, 0x0, .any, .plain⟩,
  ⟨0x2104, 0x2104, 11, 11, .u32, .rc, .rc, .none, .ro, 0x0, .any, .counter⟩,
  ⟨0x2104, 0x2104, 12, 12, .u8, .ro, .ro, .none, .ro, 0x0, .any, .plain⟩]

/-- Objects of area 0x3 (Table 11.3). -/
def catalogue3 : List ObjRow := [
  ⟨0x3000, 0x3000, 1, 1, .u16, .rw, .rw, .none, .rw, 0x20, .zeroOr 4 4096, .plain⟩,
  ⟨0x3000, 0x3000, 2, 2, .u16, .rw, .rw, .none, .rw, 0x4, .between 1 1024, .plain⟩,
  ⟨0x3000, 0x3000, 3, 3, .bool, .rw, .rw, .none, .rw, 0x1, .between 0 1, .plain⟩,
  ⟨0x3000, 0x3000, 4, 4, .enum8, .rw, .rw, .none, .none, 0x0, .between 0 1, .plain⟩,
  ⟨0x3000, 0x3000, 5, 5, .u32, .rw, .rw, .none, .none, 0x1, .any, .plain⟩,
  ⟨0x3200, 0x3207, 1, 16, .u64, .rw, .rw, .none, .rw, 0x0, .mask 0x3F3F3F3F3F3F3F3F, .plain⟩,
  ⟨0x3300, 0x3303, 1, 16, .u32, .rw, .rw, .none, .rw, 0xFFFFFFF, .mask 0x0FFFFFFF, .plain⟩,
  ⟨0x3100, 0x3100, 1, 1, .enum8, .rw, .rw, .none, .rw, 0x0, .between 0 1, .plain⟩,
  ⟨0x3100, 0x3100, 2, 2, .u16, .ro, .ro, .none, .ro, 0x0, .any, .plain⟩,
  ⟨0x3100, 0x3100, 3, 3, .enum8, .ro, .ro, .none, .ro, 0x0, .any, .plain⟩,
  ⟨0x3010, 0x3010, 1, 7, .u32, .rc, .rc, .none, .ro, 0x0, .any, .counter⟩,
  ⟨0x3011, 0x3011, 1, 1, .u32, .rc, .rc, .none, .ro, 0x0, .any, .counter⟩,
  ⟨0x3011, 0x3011, 2, 2, .u32, .rc, .rc, .none, .ro, 0x0, .any, .counter⟩,
  ⟨0x3011, 0x3011, 3, 3, .u32, .rc, .rc, .none, .ro, 0x0, .any, .counter⟩,
  ⟨0x3011, 0x3011, 4, 4, .u32, .rc, .rc, .none, .ro, 0x0, .any, .counter⟩,
  ⟨0x3011, 0x3011, 5, 5, .u32, .rc, .rc, .none, .ro, 0x0, .any, .counter⟩,
  ⟨0x3011, 0x3011, 6, 6, .u16, .ro, .ro, .none, .ro, 0x0, .any, .plain⟩,
  ⟨0x3011, 0x3011, 7, 7, .u16, .rc, .rc, .none, .ro, 0x0, .any, .peak⟩,
  ⟨0x3400, 0x3400, 1, 1, .enum8, .wo, .wo, .none, .wo, 0x0, .between 1 5, .plain⟩,
  ⟨0x3400, 0x3400, 2, 2, .u64, .rw, .rw, .none, .rw, 0x0, .pa4k, .plain⟩,
  ⟨0x3400, 0x3400, 3, 3, .u64, .rw, .rw, .none, .rw, 0x0, .pa4k, .plain⟩,
  ⟨0x3400, 0x3400, 4, 4, .u16, .rw, .rw, .none, .rw, 0x0, .between 0 1023, .plain⟩,
  ⟨0x3400, 0x3400, 5, 5, .u32, .rw, .rw, .none, .rw, 0x0, .mask 0x0FFFFFFF, .plain⟩,
  ⟨0x3400, 0x3400, 6, 6, .enum8, .ro, .ro, .none, .ro, 0x0, .any, .plain⟩,
  ⟨0x3400, 0x3400, 7, 7, .u64, .ro, .ro, .none, .ro, 0x0, .any, .plain⟩,
  ⟨0x3400, 0x3400, 8, 8, .u32, .rc, .rc, .none, .ro, 0x0, .any, .counter⟩]

/-- Objects of area 0x4 (Table 11.3). -/
def catalogue4 : List ObjRow := [
  ⟨0x4000, 0x4000, 1, 1, .bool, .rw, .rw, .none, .rw, 0x1, .between 0 1, .plain⟩,
  ⟨0x4001, 0x4001, 1, 1, .u32, .ro, .ro, .none, .ro, 0x0, .any, .plain⟩,
  ⟨0x4001, 0x4001, 2, 2, .u32, .rc, .rc, .none, .ro, 0x0, .any, .peak⟩,
  ⟨0x4010, 0x4010, 1, 1, .u32, .rc, .rc, .none, .ro, 0x0, .any, .counter⟩,
  ⟨0x4010, 0x4010, 2, 2, .u32, .rc, .rc, .none, .ro, 0x0, .any, .counter⟩,
  ⟨0x4010, 0x4010, 3, 3, .u32, .rc, .rc, .none, .ro, 0x0, .any, .counter⟩,
  ⟨0x4010, 0x4010, 4, 4, .u32, .rc, .rc, .none, .ro, 0x0, .any, .counter⟩,
  ⟨0x4010, 0x4010, 5, 5, .u32, .rc, .rc, .none, .ro, 0x0, .any, .counter⟩,
  ⟨0x4010, 0x4010, 6, 6, .u32, .rc, .rc, .none, .ro, 0x0, .any, .counter⟩,
  ⟨0x4002, 0x4002, 1, 1, .u8, .rw, .rw, .none, .rw, 0x20, .between 4 64, .plain⟩,
  ⟨0x4002, 0x4002, 2, 2, .u8, .rw, .rw, .none, .rw, 0x8, .between 1 255, .plain⟩,
  ⟨0x4002, 0x4002, 3, 3, .u16, .rw, .rw, .none, .rw, 0x100, .between 16 65535, .plain⟩,
  ⟨0x4002, 0x4002, 4, 4, .u16, .rw, .rw, .none, .rw, 0x100, .between 16 65535, .plain⟩,
  ⟨0x4002, 0x4002, 5, 5, .u16, .rw, .rw, .none, .rw, 0x100, .between 16 65535, .plain⟩,
  ⟨0x4010, 0x4010, 7, 7, .u32, .rc, .rc, .none, .ro, 0x0, .any, .counter⟩,
  ⟨0x4010, 0x4010, 8, 8, .u32, .rc, .rc, .none, .ro, 0x0, .any, .counter⟩,
  ⟨0x4010, 0x4010, 9, 9, .u32, .rc, .rc, .none, .ro, 0x0, .any, .counter⟩,
  ⟨0x4010, 0x4010, 10, 10, .u32, .rc, .rc, .none, .ro, 0x0, .any, .counter⟩,
  ⟨0x4010, 0x4010, 11, 11, .u32, .rc, .rc, .none, .ro, 0x0, .any, .counter⟩,
  ⟨0x4010, 0x4010, 12, 12, .u32, .rc, .rc, .none, .ro, 0x0, .any, .counter⟩,
  ⟨0x4010, 0x4010, 13, 13, .u32, .rc, .rc, .none, .ro, 0x0, .any, .counter⟩,
  ⟨0x4010, 0x4010, 14, 14, .u32, .rc, .rc, .none, .ro, 0x0, .any, .counter⟩,
  ⟨0x4010, 0x4010, 15, 15, .u32, .rc, .rc, .none, .ro, 0x0, .any, .counter⟩,
  ⟨0x4010, 0x4010, 16, 16, .u32, .rc, .rc, .none, .ro, 0x0, .any, .counter⟩,
  ⟨0x4011, 0x4011, 1, 1, .u16, .ro, .ro, .none, .ro, 0x0, .any, .plain⟩,
  ⟨0x4011, 0x4011, 2, 2, .u16, .rc, .rc, .none, .ro, 0x0, .any, .peak⟩,
  ⟨0x4011, 0x4011, 3, 3, .u8, .rc, .rc, .none, .ro, 0x0, .any, .peak⟩,
  ⟨0x4011, 0x4011, 4, 4, .u16, .rc, .rc, .none, .ro, 0x0, .any, .peak⟩,
  ⟨0x4011, 0x4011, 5, 5, .u16, .ro, .ro, .none, .ro, 0x1, .any, .plain⟩,
  ⟨0x4012, 0x4012, 1, 1, .u32, .ro, .ro, .none, .ro, 0x0, .any, .plain⟩,
  ⟨0x4012, 0x4012, 2, 2, .enum8, .ro, .ro, .none, .ro, 0x0, .any, .plain⟩,
  ⟨0x4012, 0x4012, 3, 3, .u32, .ro, .ro, .none, .ro, 0x0, .any, .plain⟩,
  ⟨0x4100, 0x413F, 1, 1, .u64, .rw, .rw, .none, .ro, 0x0, .pa4k, .plain⟩,
  ⟨0x4100, 0x413F, 2, 2, .u64, .rw, .rw, .none, .ro, 0x0, .pa4k, .plain⟩,
  ⟨0x4100, 0x413F, 3, 3, .u8, .rw, .rw, .none, .ro, 0x0, .mask 3, .plain⟩,
  ⟨0x4003, 0x4003, 1, 1, .enum8, .rw, .rw, .none, .ro, 0x0, .between 0 1, .plain⟩,
  ⟨0x4010, 0x4010, 17, 17, .u32, .rc, .rc, .none, .ro, 0x0, .any, .counter⟩,
  ⟨0x4013, 0x4013, 1, 1, .u32, .rc, .rc, .none, .ro, 0x0, .any, .counter⟩,
  ⟨0x4013, 0x4013, 2, 2, .u32, .rc, .rc, .none, .ro, 0x0, .any, .counter⟩,
  ⟨0x4013, 0x4013, 3, 3, .u32, .rc, .rc, .none, .ro, 0x0, .any, .counter⟩,
  ⟨0x4013, 0x4013, 4, 4, .u32, .rc, .rc, .none, .ro, 0x0, .any, .counter⟩,
  ⟨0x4013, 0x4013, 5, 5, .u32, .rc, .rc, .none, .ro, 0x0, .any, .counter⟩,
  ⟨0x4014, 0x4014, 1, 15, .u32, .rc, .rc, .none, .ro, 0x0, .any, .counter⟩]

/-- Objects of area 0x5 (Table 11.3). -/
def catalogue5 : List ObjRow := [
  ⟨0x5000, 0x5000, 1, 1, .u8, .ro, .ro, .none, .ro, 0x7, .any, .plain⟩,
  ⟨0x5000, 0x5000, 2, 2, .u32, .ro, .ro, .none, .ro, 0xDF, .any, .plain⟩,
  ⟨0x5000, 0x5000, 3, 3, .u16, .rw, .rw, .none, .rw, 0x100, .between 16 4096, .plain⟩,
  ⟨0x5000, 0x5000, 4, 4, .u8, .rw, .rw, .none, .ro, 0x4, .between 1 16, .plain⟩,
  ⟨0x5000, 0x5000, 5, 5, .u16, .rw, .rw, .none, .ro, 0x400, .between 16 65535, .plain⟩,
  ⟨0x5100, 0x510F, 1, 1, .u8, .rw, .rw, .none, .ro, 0x0, .mask 1, .plain⟩,
  ⟨0x5100, 0x510F, 2, 2, .enum8, .wo, .wo, .none, .none, 0x0, .between 1 3, .plain⟩,
  ⟨0x5200, 0x521F, 1, 1, .enum8, .ro, .ro, .none, .ro, 0x0, .any, .plain⟩,
  ⟨0x5200, 0x521F, 2, 2, .u8, .ro, .ro, .none, .ro, 0x0, .any, .plain⟩,
  ⟨0x5200, 0x521F, 3, 3, .enum8, .ro, .ro, .none, .ro, 0x0, .any, .plain⟩,
  ⟨0x5200, 0x521F, 4, 4, .enum8, .ro, .ro, .none, .ro, 0x0, .any, .plain⟩,
  ⟨0x5200, 0x521F, 5, 5, .u32, .ro, .ro, .none, .ro, 0x0, .any, .plain⟩,
  ⟨0x5200, 0x521F, 6, 6, .u64, .ro, .ro, .none, .ro, 0x0, .any, .plain⟩,
  ⟨0x5200, 0x521F, 7, 7, .enum8, .ro, .ro, .none, .ro, 0x0, .any, .plain⟩,
  ⟨0x5200, 0x521F, 8, 8, .u32, .rc, .rc, .none, .ro, 0x0, .any, .counter⟩,
  ⟨0x5200, 0x521F, 9, 9, .u32, .rc, .rc, .none, .ro, 0x0, .any, .counter⟩,
  ⟨0x5200, 0x521F, 10, 10, .u32, .rc, .rc, .none, .ro, 0x0, .any, .counter⟩,
  ⟨0x5200, 0x521F, 11, 11, .u32, .rc, .rc, .none, .ro, 0x0, .any, .counter⟩,
  ⟨0x5200, 0x521F, 12, 12, .u32, .rc, .rc, .none, .ro, 0x0, .any, .counter⟩,
  ⟨0x5200, 0x521F, 13, 13, .u32, .rc, .rc, .none, .ro, 0x0, .any, .counter⟩,
  ⟨0x5200, 0x521F, 14, 14, .u32, .rc, .rc, .none, .ro, 0x0, .any, .counter⟩,
  ⟨0x5200, 0x521F, 15, 15, .u32, .rc, .rc, .none, .ro, 0x0, .any, .counter⟩,
  ⟨0x5200, 0x521F, 16, 16, .u32, .rc, .rc, .none, .ro, 0x0, .any, .counter⟩,
  ⟨0x5200, 0x521F, 17, 17, .u32, .rc, .rc, .none, .ro, 0x0, .any, .counter⟩,
  ⟨0x5200, 0x521F, 18, 18, .u32, .rc, .rc, .none, .ro, 0x0, .any, .counter⟩,
  ⟨0x5300, 0x5303, 1, 16, .u32, .rw, .rw, .none, .rw, 0x0, .quota, .plain⟩]

/-- Objects of area 0x6 (Table 11.3). -/
def catalogue6 : List ObjRow := [
  ⟨0x6000, 0x6000, 1, 1, .enum8, .rw, .ro, .none, .ro, 0x0, .between 0 2, .plain⟩,
  ⟨0x6000, 0x6000, 2, 2, .u8, .rw, .ro, .none, .ro, 0x0, .between 1 2, .plain⟩,
  ⟨0x6000, 0x6000, 3, 3, .u8, .rw, .ro, .none, .ro, 0x0, .between 1 2, .plain⟩,
  ⟨0x6000, 0x6000, 4, 4, .enum8, .rw, .ro, .none, .ro, 0x0, .between 1 2, .plain⟩,
  ⟨0x6000, 0x6000, 5, 5, .enum8, .rw, .ro, .none, .ro, 0x0, .between 1 3, .plain⟩,
  ⟨0x6000, 0x6000, 6, 6, .bool, .rw, .ro, .none, .ro, 0x0, .between 0 1, .plain⟩,
  ⟨0x6000, 0x6000, 7, 7, .enum8, .ro, .ro, .none, .ro, 0x0, .any, .plain⟩,
  ⟨0x6000, 0x6000, 8, 8, .u64, .ro, .ro, .ro, .ro, 0x0, .any, .plain⟩,
  ⟨0x6000, 0x6000, 9, 9, .u8, .rw, .rw, .none, .rw, 0x4, .between 1 255, .plain⟩,
  ⟨0x6000, 0x6000, 10, 10, .u16, .ro, .ro, .none, .ro, 0x0, .any, .plain⟩,
  ⟨0x6010, 0x601B, 1, 1, .enum8, .ro, .ro, .none, .ro, 0x0, .any, .plain⟩,
  ⟨0x6010, 0x601B, 2, 2, .u16, .ro, .ro, .none, .ro, 0x0, .any, .plain⟩,
  ⟨0x6010, 0x601B, 3, 3, .u16, .rc, .rc, .none, .ro, 0x0, .any, .peak⟩,
  ⟨0x6010, 0x601B, 4, 4, .u32, .rc, .rc, .none, .ro, 0x0, .any, .counter⟩,
  ⟨0x6010, 0x601B, 5, 5, .bool, .ro, .ro, .none, .ro, 0x0, .any, .plain⟩,
  ⟨0x6010, 0x601B, 6, 6, .u32, .rc, .rc, .none, .ro, 0x0, .any, .counter⟩,
  ⟨0x6100, 0x6100, 1, 18, .enum8, .ro, .ro, .none, .ro, 0x0, .any, .plain⟩,
  ⟨0x6101, 0x6101, 1, 1, .u16, .ro, .ro, .none, .ro, 0x0, .any, .plain⟩,
  ⟨0x6101, 0x6101, 2, 2, .u8, .ro, .ro, .none, .ro, 0x0, .any, .plain⟩,
  ⟨0x6200, 0x6200, 1, 1, .u8, .rw, .rw, .none, .rw, 0x0, .between 0 17, .plain⟩,
  ⟨0x6200, 0x6200, 2, 2, .enum8, .wo, .wo, .none, .wo, 0x0, .between 1 2, .plain⟩,
  ⟨0x6200, 0x6200, 3, 3, .enum8, .ro, .ro, .none, .ro, 0x0, .any, .plain⟩,
  ⟨0x6200, 0x6200, 4, 4, .u32, .ro, .ro, .none, .ro, 0x0, .any, .plain⟩,
  ⟨0x6200, 0x6200, 5, 5, .u32, .rc, .rc, .none, .ro, 0x0, .any, .counter⟩]

/-- Objects of area 0x7 (Table 11.3). -/
def catalogue7 : List ObjRow := [
  ⟨0x7000, 0x7000, 1, 4, .u16, .rw, .rw, .none, .rw, 0x100, .between 0 0xFFFF, .plain⟩,
  ⟨0x7000, 0x7000, 5, 5, .u16, .rw, .rw, .none, .rw, 0x10, .between 2 4096, .plain⟩,
  ⟨0x7000, 0x7000, 6, 6, .u32, .rw, .rw, .none, .rw, 0x1000, .between 1 0xFFFFFFFF, .plain⟩,
  ⟨0x7001, 0x7001, 1, 4, .u32, .ro, .ro, .none, .ro, 0x0, .any, .counter⟩,
  ⟨0x7001, 0x7001, 5, 5, .u32, .rc, .rc, .none, .ro, 0x0, .any, .counter⟩,
  ⟨0x7002, 0x7002, 1, 18, .u32, .ro, .ro, .none, .ro, 0x0, .any, .plain⟩,
  ⟨0x7003, 0x7003, 1, 12, .u32, .rw, .ro, .none, .ro, 0x0, .marks, .plain⟩,
  ⟨0x7003, 0x7003, 13, 13, .u32, .rc, .rc, .none, .ro, 0x0, .any, .counter⟩,
  ⟨0x7100, 0x7100, 1, 64, .u16, .ro, .ro, .none, .ro, 0x0, .any, .plain⟩,
  ⟨0x7101, 0x7101, 1, 64, .u16, .rw, .rw, .none, .rw, 0x0, .between 1 65535, .plain⟩,
  ⟨0x7102, 0x7102, 1, 64, .u32, .rw, .rw, .none, .rw, 0x0, .between 1 0xFFFFFFFF, .plain⟩,
  ⟨0x7103, 0x7103, 1, 64, .u32, .rc, .rc, .none, .ro, 0x0, .any, .counter⟩,
  ⟨0x7104, 0x7104, 1, 64, .u32, .rc, .rc, .none, .ro, 0x0, .any, .counter⟩,
  ⟨0x7200, 0x7200, 1, 64, .u8, .ro, .ro, .none, .ro, 0x0, .any, .plain⟩,
  ⟨0x7201, 0x7201, 1, 1, .enum8, .ro, .ro, .none, .ro, 0x0, .any, .plain⟩,
  ⟨0x7201, 0x7201, 2, 2, .u8, .ro, .ro, .none, .ro, 0x0, .any, .plain⟩,
  ⟨0x7201, 0x7201, 3, 3, .u32, .rc, .rc, .none, .ro, 0x0, .any, .counter⟩,
  ⟨0x7201, 0x7201, 4, 4, .u32, .ro, .ro, .none, .ro, 0x0, .any, .plain⟩,
  ⟨0x7201, 0x7201, 5, 5, .u16, .ro, .ro, .none, .ro, 0x0, .any, .plain⟩,
  ⟨0x7300, 0x7300, 1, 1, .u32, .ro, .ro, .ro, .ro, 0x180000, .any, .plain⟩,
  ⟨0x7300, 0x7300, 2, 2, .u32, .ro, .ro, .ro, .ro, 0x800000, .any, .plain⟩,
  ⟨0x7300, 0x7300, 3, 3, .u32, .ro, .ro, .ro, .ro, 0x400000, .any, .plain⟩,
  ⟨0x7300, 0x7300, 4, 4, .bool, .ro, .ro, .none, .ro, 0x0, .any, .plain⟩,
  ⟨0x7400, 0x7400, 1, 1, .u32, .ro, .ro, .none, .ro, 0x0, .any, .plain⟩,
  ⟨0x7400, 0x7400, 2, 2, .u16, .ro, .ro, .none, .ro, 0x0, .any, .plain⟩,
  ⟨0x7400, 0x7400, 3, 3, .u32, .ro, .ro, .none, .ro, 0x0, .any, .plain⟩,
  ⟨0x7400, 0x7400, 4, 4, .enum8, .ro, .ro, .none, .ro, 0x0, .any, .plain⟩,
  ⟨0x7400, 0x7400, 5, 5, .u32, .rc, .rc, .none, .ro, 0x0, .any, .counter⟩,
  ⟨0x7400, 0x7400, 6, 6, .u32, .rc, .rc, .none, .ro, 0x0, .any, .counter⟩,
  ⟨0x7500, 0x7500, 1, 1, .u32, .rc, .rc, .none, .ro, 0x0, .any, .counter⟩,
  ⟨0x7500, 0x7500, 2, 2, .u32, .rc, .rc, .none, .ro, 0x0, .any, .counter⟩,
  ⟨0x7500, 0x7500, 3, 3, .u8, .ro, .ro, .none, .ro, 0x0, .any, .plain⟩]

/-- Objects of area 0x8 (Table 11.3). -/
def catalogue8 : List ObjRow := [
  ⟨0x8000, 0x803F, 1, 16, .u32, .rw, .rw, .none, .rw, 0x0, .any, .plain⟩,
  ⟨0x8040, 0x807F, 1, 16, .u8, .ro, .ro, .none, .ro, 0x0, .any, .plain⟩,
  ⟨0x8080, 0x8080, 1, 16, .u64, .w1c, .w1c, .none, .ro, 0x0, .any, .plain⟩,
  ⟨0x8100, 0x813F, 1, 16, .u16, .rw, .rw, .none, .rw, 0x0, .mask 0xBEFF, .plain⟩,
  ⟨0x8200, 0x8201, 1, 16, .u16, .rw, .rw, .none, .rw, 0x0, .mask 0x80FF, .plain⟩,
  ⟨0x8202, 0x8203, 1, 16, .u8, .ro, .ro, .none, .ro, 0x0, .any, .plain⟩,
  ⟨0x8300, 0x833F, 1, 1, .u64, .rc, .rc, .none, .ro, 0x0, .any, .ring⟩,
  ⟨0x8300, 0x833F, 2, 2, .u16, .ro, .ro, .none, .ro, 0x0, .any, .plain⟩,
  ⟨0x8300, 0x833F, 3, 3, .u16, .ro, .ro, .none, .ro, 0x0, .any, .plain⟩,
  ⟨0x8300, 0x833F, 4, 4, .u16, .ro, .ro, .none, .ro, 0x0, .any, .plain⟩,
  ⟨0x8300, 0x833F, 5, 5, .u16, .rw, .rw, .none, .rw, 0x800, .between 1 4096, .plain⟩,
  ⟨0x8300, 0x833F, 6, 6, .u32, .rc, .rc, .none, .ro, 0x0, .any, .counter⟩,
  ⟨0x8300, 0x833F, 7, 7, .u32, .rc, .rc, .none, .ro, 0x0, .any, .counter⟩,
  ⟨0x8300, 0x833F, 8, 8, .u32, .rc, .rc, .none, .ro, 0x0, .any, .counter⟩,
  ⟨0x8300, 0x833F, 9, 9, .u32, .rc, .rc, .none, .ro, 0x0, .any, .counter⟩,
  ⟨0x8400, 0x8400, 2, 2, .u32, .rc, .rc, .none, .ro, 0x0, .any, .counter⟩,
  ⟨0x8400, 0x8400, 3, 3, .u32, .rc, .rc, .none, .ro, 0x0, .any, .counter⟩,
  ⟨0x8400, 0x8400, 4, 4, .u32, .rc, .rc, .none, .ro, 0x0, .any, .counter⟩,
  ⟨0x8400, 0x8400, 5, 5, .u32, .rc, .rc, .none, .ro, 0x0, .any, .counter⟩,
  ⟨0x8400, 0x8400, 6, 6, .u32, .rc, .rc, .none, .ro, 0x0, .any, .counter⟩,
  ⟨0x8400, 0x8400, 7, 7, .u32, .rc, .rc, .none, .ro, 0x0, .any, .counter⟩,
  ⟨0x8400, 0x8400, 8, 8, .u16, .ro, .ro, .none, .ro, 0x0, .any, .plain⟩,
  ⟨0x8410, 0x8410, 1, 16, .u8, .rw, .rw, .none, .ro, 0x10, .between 1 255, .plain⟩,
  ⟨0x8411, 0x8411, 1, 1, .u16, .rw, .rw, .none, .ro, 0x0, .any, .plain⟩,
  ⟨0x8420, 0x8420, 1, 1, .u64, .wo, .wo, .none, .wo, 0x0, .mask 0xFFFFFFFFFFFF03FF, .plain⟩]

/-- Objects of area 0x9 (Table 11.3). -/
def catalogue9 : List ObjRow := [
  ⟨0x9100, 0x910F, 1, 16, .u64, .rw, .rw, .none, .ro, 0x0, .between 0 (2 ^ 48 - 1), .counter⟩,
  ⟨0x9110, 0x911F, 1, 16, .u32, .rw, .rw, .none, .ro, 0x0, .mask 0xE0000FFF, .plain⟩,
  ⟨0x9120, 0x912F, 1, 16, .u64, .rw, .rw, .none, .ro, 0xFFE0000000000000, .mask 0xFFFFFFFFFC000000, .plain⟩,
  ⟨0x9130, 0x913F, 1, 16, .u16, .rw, .rw, .none, .ro, 0x0, .mask 0x83FF, .plain⟩,
  ⟨0x9140, 0x9141, 1, 16, .u64, .rw, .rw, .none, .ro, 0x0, .between 0 (2 ^ 48 - 1), .counter⟩,
  ⟨0x9142, 0x9142, 1, 1, .u32, .rw, .rw, .none, .ro, 0xFFFFFFFF, .any, .plain⟩,
  ⟨0x9150, 0x9150, 1, 8, .u64, .rw, .rw, .none, .ro, 0x0, .pa4k, .plain⟩,
  ⟨0x9151, 0x9151, 1, 8, .u64, .rw, .rw, .none, .ro, 0x0, .pa4k, .plain⟩,
  ⟨0x9200, 0x9200, 1, 8, .u64, .rw, .rw, .none, .rw, 0x10000, .between 1 (2 ^ 47), .plain⟩,
  ⟨0x9201, 0x9201, 1, 8, .u8, .rw, .rw, .none, .rw, 0xC, .between 0 24, .plain⟩,
  ⟨0x9202, 0x9202, 1, 1, .u32, .rc, .rc, .none, .ro, 0x0, .any, .counter⟩,
  ⟨0x9202, 0x9202, 2, 2, .u32, .rc, .rc, .none, .ro, 0x0, .any, .counter⟩,
  ⟨0x9202, 0x9202, 3, 3, .u32, .rc, .rc, .none, .ro, 0x0, .any, .counter⟩,
  ⟨0x9300, 0x931F, 1, 16, .u32, .ro, .ro, .none, .ro, 0x0, .any, .plain⟩,
  ⟨0x9320, 0x933F, 1, 16, .u32, .ro, .ro, .none, .ro, 0x0, .any, .plain⟩,
  ⟨0x9340, 0x935F, 1, 1, .u32, .ro, .ro, .none, .ro, 0x0, .any, .plain⟩,
  ⟨0x9340, 0x935F, 2, 2, .u32, .ro, .ro, .none, .ro, 0x0, .any, .plain⟩,
  ⟨0x9340, 0x935F, 3, 3, .u64, .ro, .ro, .none, .ro, 0x0, .any, .plain⟩,
  ⟨0x9340, 0x935F, 4, 4, .u64, .ro, .ro, .none, .ro, 0x0, .any, .plain⟩,
  ⟨0x9340, 0x935F, 5, 5, .u16, .ro, .ro, .none, .ro, 0x0, .any, .plain⟩,
  ⟨0x9340, 0x935F, 6, 6, .u32, .ro, .ro, .none, .ro, 0x0, .any, .plain⟩,
  ⟨0x9340, 0x935F, 7, 7, .u64, .ro, .ro, .none, .ro, 0x0, .any, .plain⟩,
  ⟨0x9400, 0x9400, 1, 1, .u32, .rw, .rw, .none, .rw, 0x1, .between 1 65536, .plain⟩,
  ⟨0x9400, 0x9400, 2, 2, .u32, .rw, .rw, .none, .rw, 0xFFFFFFFF, .any, .plain⟩,
  ⟨0x9500, 0x9500, 1, 16, .u64, .none, .none, .rw, .none, 0x0, .between 0 (2 ^ 48 - 1), .plain⟩,
  ⟨0x9501, 0x9501, 1, 16, .u32, .none, .none, .rw, .none, 0x0, .mask 0x80000FFF, .plain⟩,
  ⟨0x9502, 0x9502, 1, 16, .u64, .none, .none, .ro, .none, 0x0, .any, .plain⟩]

/-- Objects of area 0xA (Table 11.3). -/
def catalogueA : List ObjRow := [
  ⟨0xA000, 0xA000, 1, 1, .enum8, .ro, .ro, .none, .ro, 0x0, .any, .plain⟩,
  ⟨0xA000, 0xA000, 2, 2, .enum8, .wo, .wo, .none, .none, 0x0, .between 1 2, .plain⟩,
  ⟨0xA000, 0xA000, 3, 3, .enum8, .rw, .ro, .none, .ro, 0x0, .between 0 1, .plain⟩,
  ⟨0xA000, 0xA000, 4, 4, .enum8, .ro, .ro, .none, .ro, 0x0, .any, .plain⟩,
  ⟨0xA000, 0xA000, 5, 5, .u32, .ro, .ro, .none, .ro, 0x0, .any, .plain⟩,
  ⟨0xA000, 0xA000, 6, 6, .enum8, .ro, .ro, .none, .ro, 0x0, .any, .plain⟩,
  ⟨0xA000, 0xA000, 7, 7, .u32, .ro, .ro, .none, .ro, 0x0, .any, .plain⟩,
  ⟨0xA010, 0xA010, 1, 1, .u32, .rc, .rc, .none, .ro, 0x0, .any, .counter⟩,
  ⟨0xA010, 0xA010, 2, 2, .u32, .rc, .rc, .none, .ro, 0x0, .any, .counter⟩,
  ⟨0xA010, 0xA010, 3, 6, .u32, .ro, .ro, .none, .ro, 0x0, .any, .counter⟩,
  ⟨0xA010, 0xA010, 7, 7, .u32, .rc, .rc, .none, .ro, 0x0, .any, .counter⟩,
  ⟨0xA020, 0xA020, 1, 1, .u16, .rw, .rw, .none, .ro, 0x40, .between 2 4096, .plain⟩,
  ⟨0xA020, 0xA020, 2, 2, .u16, .rw, .ro, .none, .ro, 0xFFFF, .any, .plain⟩,
  ⟨0xA020, 0xA020, 3, 3, .bool, .rw, .ro, .none, .ro, 0x0, .between 0 1, .plain⟩,
  ⟨0xA100, 0xA100, 1, 1, .enum8, .wo, .none, .none, .none, 0x0, .between 1 3, .plain⟩,
  ⟨0xA100, 0xA100, 2, 2, .blob, .wo, .none, .none, .none, 0x0, .any, .plain⟩,
  ⟨0xA100, 0xA100, 3, 3, .u32, .ro, .ro, .none, .ro, 0x0, .any, .plain⟩,
  ⟨0xA100, 0xA100, 4, 4, .enum8, .ro, .ro, .none, .ro, 0x0, .any, .plain⟩,
  ⟨0xA200, 0xA200, 1, 32, .u32, .rw, .rw, .none, .ro, 0x0, .any, .plain⟩]

/-- Objects of area 0xB (Table 11.3). -/
def catalogueB : List ObjRow := [
  ⟨0xB000, 0xB000, 1, 1, .enum8, .ro, .ro, .ro, .ro, 0x3, .any, .plain⟩,
  ⟨0xB000, 0xB000, 2, 2, .enum8, .rw, .rw, .none, .rw, 0x0, .oneOf [1, 4, 5, 6, 7, 8, 9, 11], .plain⟩,
  ⟨0xB000, 0xB000, 3, 3, .enum8, .ro, .ro, .none, .ro, 0x0, .any, .plain⟩,
  ⟨0xB000, 0xB000, 4, 4, .enum8, .ro, .ro, .none, .ro, 0x3, .any, .plain⟩,
  ⟨0xB000, 0xB000, 5, 5, .u64, .ro, .ro, .none, .ro, 0x0, .any, .plain⟩,
  ⟨0xB000, 0xB000, 6, 6, .enum8, .rw, .rw, .none, .none, 0x5, .between 4 6, .plain⟩,
  ⟨0xB000, 0xB000, 7, 7, .bool, .ro, .ro, .none, .ro, 0x0, .any, .plain⟩,
  ⟨0xB000, 0xB000, 8, 8, .u32, .ro, .ro, .none, .ro, 0x0, .any, .plain⟩,
  ⟨0xB000, 0xB000, 9, 9, .bool, .rw, .rw, .none, .rw, 0x1, .between 0 1, .plain⟩,
  ⟨0xB000, 0xB000, 10, 10, .u16, .rw, .rw, .none, .ro, 0x2000, .between 256 65535, .plain⟩,
  ⟨0xB000, 0xB000, 11, 11, .bool, .ro, .ro, .ro, .ro, 0x0, .any, .plain⟩,
  ⟨0xB000, 0xB000, 12, 12, .u32, .rc, .rc, .none, .ro, 0x0, .any, .counter⟩,
  ⟨0xB001, 0xB001, 1, 1, .enum8, .wo, .wo, .none, .none, 0x0, .between 1 1, .plain⟩,
  ⟨0xB001, 0xB001, 2, 2, .enum8, .ro, .ro, .none, .ro, 0x1, .any, .plain⟩,
  ⟨0xB001, 0xB001, 3, 3, .u32, .ro, .ro, .none, .ro, 0x0, .any, .plain⟩,
  ⟨0xB001, 0xB001, 4, 4, .enum8, .ro, .ro, .none, .ro, 0x1, .any, .plain⟩,
  ⟨0xB001, 0xB001, 5, 5, .u32, .ro, .ro, .none, .ro, 0x0, .any, .plain⟩,
  ⟨0xB001, 0xB001, 6, 6, .bool, .rw, .rw, .none, .none, 0x0, .between 0 1, .plain⟩,
  ⟨0xB001, 0xB001, 7, 7, .enum8, .ro, .ro, .none, .ro, 0x0, .any, .plain⟩,
  ⟨0xB001, 0xB001, 8, 8, .u32, .rc, .rc, .none, .ro, 0x0, .any, .counter⟩,
  ⟨0xB001, 0xB001, 9, 9, .u32, .rc, .rc, .none, .ro, 0x0, .any, .counter⟩,
  ⟨0xB100, 0xB100, 1, 4, .u64, .rw, .ro, .none, .ro, 0x0, .any, .plain⟩,
  ⟨0xB200, 0xB200, 1, 1, .u8, .ro, .ro, .none, .ro, 0x0, .any, .plain⟩,
  ⟨0xB200, 0xB200, 2, 2, .u8, .ro, .ro, .none, .ro, 0x0, .any, .plain⟩,
  ⟨0xB200, 0xB200, 3, 3, .u8, .rc, .rc, .none, .ro, 0x0, .any, .peak⟩,
  ⟨0xB200, 0xB200, 4, 4, .u32, .ro, .ro, .none, .ro, 0x0, .any, .plain⟩,
  ⟨0xB200, 0xB200, 5, 5, .bool, .ro, .ro, .none, .ro, 0x0, .any, .plain⟩]

/-- Objects of area 0xC (Table 11.3). -/
def catalogueC : List ObjRow := [
  ⟨0xC000, 0xC000, 1, 1, .u16, .rw, .rw, .none, .none, 0x0, .between 0 1023, .plain⟩,
  ⟨0xC000, 0xC000, 2, 2, .blob, .wo, .wo, .none, .none, 0x0, .any, .plain⟩,
  ⟨0xC000, 0xC000, 3, 3, .enum8, .wo, .wo, .none, .none, 0x0, .between 1 2, .plain⟩,
  ⟨0xC000, 0xC000, 4, 4, .enum8, .ro, .ro, .none, .none, 0x0, .any, .plain⟩,
  ⟨0xC000, 0xC000, 5, 5, .u32, .rc, .rc, .none, .none, 0x0, .any, .counter⟩,
  ⟨0xC001, 0xC001, 1, 16, .u64, .ro, .ro, .none, .none, 0x0, .any, .plain⟩]

/-- The row of the object `index.sub`, if one exists (R426). -/
def findRow (index sub : Nat) : List ObjRow → Option ObjRow
  | [] => none
  | r :: rs =>
    if r.i0 ≤ index ∧ index ≤ r.i1 ∧ r.s0 ≤ sub ∧ sub ≤ r.s1 then some r else findRow index sub rs

/-- The object tables of an area (Table 11.3). -/
def areaRows (area : Nat) : List ObjRow :=
  match area with
  | 0x1 => catalogue1
  | 0x2 => catalogue2
  | 0x3 => catalogue3
  | 0x4 => catalogue4
  | 0x5 => catalogue5
  | 0x6 => catalogue6
  | 0x7 => catalogue7
  | 0x8 => catalogue8
  | 0x9 => catalogue9
  | 0xA => catalogueA
  | 0xB => catalogueB
  | 0xC => catalogueC
  | _ => []

/-- The catalogue row of a key. -/
def objRow (key : Nat) : Option ObjRow := findRow (key / 256) (key % 256) (areaRows (key / 0x100000))

/-- Capacity default of bucket `b` (Table 9.3). -/
def bucketCap (b : Nat) : Nat := if b < 32 then 16 else if b < 62 then 64 else if b = 62 then 16 else 8

/-- Leak default of bucket `b` (Table 9.3). -/
def bucketLeakDefault (b : Nat) : Nat :=
  if b < 32 then 31250 else if b < 62 then 3125 else if b = 62 then 31250 else 312500

/-- Sources of kind Alarm (Table 12.1). -/
def alarmSource (n : Nat) : Bool :=
  n < 0x40 || n == 0xB0 || n == 0xB2 || n == 0xB9 || n == 0xBA || (0xBC ≤ n && n ≤ 0xBF) || n == 0xC2 || n == 0xC3 ||
    n == 0xC4

/-- Default of POLICY_PARAM `n` (Table 14.7). -/
def policyDefault (n : Nat) : Nat :=
  if n = 2 then 13 else if n = 3 then 4 else if n = 4 then 9 else if n = 7 then 1 else 0

/-- The default of an object (the Default column; Tables 9.3, 12.2, 12.8, 14.7 for the rows that name them). -/
def objDefault (key : Nat) : Reg :=
  match objRow key with
  | none => 0
  | some r =>
    let i := key / 256
    let sub := key % 256
    if i = 0x7101 then BitVec.ofNat 64 (bucketCap (sub - 1))
    else if i = 0x7102 then BitVec.ofNat 64 (bucketLeakDefault (sub - 1))
    else if 0x8000 ≤ i ∧ i ≤ 0x803F then
      if alarmSource ((i - 0x8000) * 16 + sub - 1) then 0x40 else 0x04
    else if 0x8300 ≤ i ∧ i ≤ 0x8303 ∧ sub = 5 then 1
    else if key = Obj.gaitBankState then 0x04
    else if i = 0xA200 then BitVec.ofNat 64 (policyDefault sub)
    else if key = Obj.groomImageVersion then Config.groomRomVersion.setWidth 64
    else BitVec.ofNat 64 r.dflt

/-- Key of element `n` of an array of sixteen sub-indices per index (R512 and the like). -/
abbrev arr16 (base n : Nat) : Nat := base + n / 16 * 256 + n % 16

/-- Key of element `n` of an array of one index per element. -/
abbrev arrIx (base n : Nat) : Nat := base + n * 256

end Sys2Proof.Machine
end

