-- ==== Sys2Proof/Machine/Ops.lean ====
section
/-!
DEFINITION. The named operations over the state that every family uses: reading and setting objects, counters and
peaks with their fall-back copies (R439 to R441), drawing a free value, sending a message, the modes' codes, and
byte memory in one canonical form for Groom's SRAMs.
-/
namespace Sys2Proof.Machine

/-! ### The state with one group replaced -/

/-- The state with `free` replaced. -/
def State.withFree (s : State) (x : Nat) : State := { s with free := x }

/-- The state with `time` replaced. -/
def State.withTime (s : State) (x : Time) : State := { s with time := x }

/-- The state with `dict` replaced. -/
def State.withDict (s : State) (x : Dict) : State := { s with dict := x }

/-- The state with `gait` replaced. -/
def State.withGait (s : State) (x : Gait) : State := { s with gait := x }

/-- The state with `tiers` replaced. -/
def State.withTiers (s : State) (x : Tiers) : State := { s with tiers := x }

/-- The state with `home` replaced. -/
def State.withHome (s : State) (x : Home) : State := { s with home := x }

/-- The state with `ports` replaced. -/
def State.withPorts (s : State) (x : Ports) : State := { s with ports := x }

/-- The state with `mem` replaced. -/
def State.withMem (s : State) (x : Mem) : State := { s with mem := x }

/-- The state with `rel` replaced. -/
def State.withRel (s : State) (x : Rel) : State := { s with rel := x }

/-- The state with `modes` replaced. -/
def State.withModes (s : State) (x : Modes) : State := { s with modes := x }

/-- The state with `bridle` replaced. -/
def State.withBridle (s : State) (x : Bridle) : State := { s with bridle := x }

/-- The state with `irq` replaced. -/
def State.withIrq (s : State) (x : Irq) : State := { s with irq := x }

/-- The state with `pmu` replaced. -/
def State.withPmu (s : State) (x : Pmu) : State := { s with pmu := x }

/-- The state with `groom` replaced. -/
def State.withGroom (s : State) (x : Groom) : State := { s with groom := x }

/-- The state with `pkg` replaced. -/
def State.withPkg (s : State) (x : Pkg) : State := { s with pkg := x }

/-- The state with `fuse` replaced. -/
def State.withFuse (s : State) (x : Fuse) : State := { s with fuse := x }

/-- The state with `sent` replaced. -/
def State.withSent (s : State) (x : List OutMsg) : State := { s with sent := x }

/-- The state with `pending` replaced. -/
def State.withPending (s : State) (x : List Instr) : State := { s with pending := x }

/-- Set element `n` of a list. -/
def setAt {β : Type} : List β → Nat → β → List β
  | [], _, _ => []
  | _ :: l, 0, v => v :: l
  | a :: l, n + 1, v => a :: setAt l n v

/-- Apply `f` to the first element that satisfies `p`. -/
def updFirst {β : Type} (p : β → Bool) (f : β → β) : List β → List β
  | [] => []
  | a :: l => if p a then f a :: l else a :: updFirst p f l

/-- Remove the first element that satisfies `p`. -/
def dropFirst {β : Type} (p : β → Bool) : List β → List β
  | [] => []
  | a :: l => if p a then l else a :: dropFirst p l

/-- STRIDE_COUNT as a number. -/
def State.now (s : State) : Nat := s.time.stride.toNat

/-- EPOCH_PHASE: STRIDE_COUNT[9:0] (Table 2.14). -/
def State.epochPhase (s : State) : Nat := s.now % 1024

/-- Value that a read of the stored object `k` returns. -/
def State.obj (s : State) (k : Nat) : Reg := Assoc.getD s.dict.vals k (objDefault k)

/-- Value of object `k` in force (R431). -/
def State.effObj (s : State) (k : Nat) : Reg := Assoc.getD s.dict.eff k (objDefault k)

/-- The value in force, as a number. -/
def State.eff (s : State) (k : Nat) : Nat := (s.effObj k).toNat

/-- Set the value that reads return. -/
def State.setObj (s : State) (k : Nat) (v : Reg) : State :=
  s.withDict { s.dict with vals := Assoc.putD s.dict.vals k (objDefault k) v }

/-- Set the value that reads return, from a number. -/
def State.setNat (s : State) (k v : Nat) : State := s.setObj k (BitVec.ofNat 64 v)

/-- Set the value in force. -/
def State.setEff (s : State) (k : Nat) (v : Reg) : State :=
  s.withDict { s.dict with eff := Assoc.putD s.dict.eff k (objDefault k) v }

/-- Set the fall-back copy. -/
def State.setFallback (s : State) (k : Nat) (v : Reg) : State :=
  s.withDict { s.dict with fallback := Assoc.putD s.dict.fallback k 0 v }

/-- Add `n` to a saturating counter and to its fall-back copy (R440, R441). -/
def State.bumpN (s : State) (k n : Nat) : State :=
  (s.setObj k (satAdd32 (s.obj k) n)).setFallback k (satAdd32 (Assoc.getD s.dict.fallback k 0) n)

/-- Count one event in a saturating counter. -/
def State.bump (s : State) (k : Nat) : State := s.bumpN k 1

/-- The fall-back copy of a wrapping counter of 32 bits counts one event (R441). -/
def State.fallWrap (s : State) (k : Nat) : State :=
  s.setFallback k (BitVec.ofNat 64 (((Assoc.getD s.dict.fallback k 0).toNat + 1) % 2 ^ 32))

/-- Count one event in a wrapping counter of 32 bits and in its fall-back copy (R440, R441). -/
def State.bumpWrap (s : State) (k : Nat) : State := (s.setNat k (((s.obj k).toNat + 1) % 2 ^ 32)).fallWrap k

/-- A sensor reads `temp` degrees: at 120 or more THERMTRIP_N goes low while VDD is in range (R554). -/
def State.tripAt (s : State) (temp : Nat) : State :=
  if 120 ≤ temp ∧ s.modes.rails.getLsbD 0 then s.withPkg { s.pkg with thermtrip := true } else s

/-- Record occupancy `v` in a peak and its fall-back copy (R441). -/
def State.peak (s : State) (k v : Nat) : State :=
  let s := if (s.obj k).toNat < v then s.setNat k v else s
  if (Assoc.getD s.dict.fallback k 0).toNat < v then s.setFallback k (BitVec.ofNat 64 v) else s

/-- Draw a free value of `w` bits: a value nothing constrains (log entry 3). -/
def State.draw (w : Nat) (s : State) : BitVec w × State :=
  (Config.freeBits w s.free, s.withFree (s.free + 1))

/-- Drive a message on a port (log entry 14). -/
def State.emit (s : State) (m : OutMsg) : State := s.withSent (s.sent ++ [m])

/-- Codes of Table 0.8. -/
def Mode.code : Mode → Nat
  | .off => 0 | .keep => 1 | .reset => 2 | .bringup => 3 | .passThrough => 4 | .normal => 5 | .partitioned => 6
  | .rest => 7 | .drain => 8 | .degraded => 9 | .contained => 10 | .test => 11

/-- The mode of a code. -/
def Mode.ofCode : Nat → Option Mode
  | 0 => some .off | 1 => some .keep | 2 => some .reset | 3 => some .bringup | 4 => some .passThrough
  | 5 => some .normal | 6 => some .partitioned | 7 => some .rest | 8 => some .drain | 9 => some .degraded
  | 10 => some .contained | 11 => some .test | _ => none

/-- The service modes (10). -/
def Mode.service : Mode → Bool
  | .passThrough | .normal | .partitioned | .drain | .degraded => true
  | _ => false

/-- Bit of MODE_MASK (Table 2.6) of a service mode. -/
def Mode.maskBit : Mode → Nat
  | .passThrough => 0 | .normal => 1 | .partitioned => 2 | .drain => 3 | .degraded => 4 | _ => 5

/-- Whether neither tier allocates (R106). -/
def Mode.noAlloc : Mode → Bool
  | .passThrough | .drain | .contained => true
  | _ => false

/-- The configuration (0x1000.04 FUSED_CONFIG): 0 Full, 1 Kernel-only by fuse, 2 Kernel-only, no Husk fitted. -/
def State.fusedConfig (s : State) : Nat := if s.fuse.huskOff then 1 else (s.obj Obj.fusedConfig).toNat

/-- Kernel-only configuration (R10, R131). -/
def State.kernelOnly (s : State) : Bool := s.fusedConfig != 0

/-- Domain size N (R29). -/
def State.domainSize (s : State) : Nat := bitsOf s.pkg.sampled.toNat 7 6 + 1

/-- This device's index (R29). -/
def State.domainIndex (s : State) : Nat := bitsOf s.pkg.sampled.toNat 9 8

/-- The leader of the domain (R37). -/
def State.leader (s : State) : Bool := s.domainIndex == 0

/-! ### Byte memory of the Groom SRAMs (R516): cells strictly rising, none zero -/

/-- The byte at `a`; an unlisted byte reads zero (R515). -/
def memByte (a : Nat) : List Host.Cell → BitVec 8
  | [] => 0
  | (b, v) :: m => if b = a then v else memByte a m

/-- Remove the cell at `a`. -/
def memDrop (a : Nat) : List Host.Cell → List Host.Cell
  | [] => []
  | (b, v) :: m => if b = a then m else (b, v) :: memDrop a m

/-- Insert a cell, keeping the addresses rising. -/
def memInsert (a : Nat) (v : BitVec 8) : List Host.Cell → List Host.Cell
  | [] => [(a, v)]
  | (b, w) :: m =>
    if a < b then (a, v) :: (b, w) :: m
    else if a = b then (a, v) :: m
    else (b, w) :: memInsert a v m

/-- Write the byte at `a`; writing zero removes the cell. -/
def memSet (a : Nat) (v : BitVec 8) (m : List Host.Cell) : List Host.Cell :=
  if v = 0 then memDrop a m else memInsert a v m

/-- Write `n` bytes, little-endian, from `a`. -/
def memWrite (a : Nat) (v : Nat) : Nat → List Host.Cell → List Host.Cell
  | 0, m => m
  | n + 1, m => memWrite (a + 1) (v / 256) n (memSet a (BitVec.ofNat 8 v) m)

/-- Read `n` bytes, little-endian, from `a`. -/
def memRead (a : Nat) : Nat → List Host.Cell → Nat
  | 0, _ => 0
  | n + 1, m => (memByte a m).toNat + 256 * memRead (a + 1) n m

/-- The canonical form: addresses strictly rising above `lo`, no zero byte. -/
def memAbove : Nat → List Host.Cell → Bool
  | _, [] => true
  | lo, (a, v) :: m => decide (lo ≤ a) && decide (v ≠ 0) && memAbove (a + 1) m

/-- The memory's form holds. -/
def Memory.wf (m : List Host.Cell) : Bool := memAbove 0 m

end Sys2Proof.Machine
end

