-- ==== Sys2Proof/Machine/Events.lean ====
section
/-!
DEFINITION. Events of the device: counting them (13, R491 to R495), and raising interrupt sources: delivery state
(R468, R477), IRQ_STATUS (R479), records in the event rings (R481 to R487) and alarms for Bridle (R461, R486).
-/
namespace Sys2Proof.Machine

/-! ### Counters -/

/-- Add `n` to the accumulator of counter `i` (general 0 to 255, fixed 256 to 287). -/
def State.acc (s : State) (i n : Nat) : State :=
  if n = 0 then s
  else s.withPmu { s.pmu with acc := Assoc.putD s.pmu.acc i 0 (Assoc.getD s.pmu.acc i 0 + n) }

/-- CLASS bit of a request (Table 13.4). -/
def reqClassBit (op : Nat) : Nat :=
  if op ≤ 0x03 then 0 else if op ≤ 0x05 then 1 else if op ≤ 0x09 then 2 else if op = 0x0C then 3
  else if op ≤ 0x0E then 4 else if op ≤ 0x14 then 5 else 6

/-- Address range `k` of the counters matches `a` (R495). -/
def State.pmuRange (s : State) (k a : Nat) : Bool :=
  decide (s.eff (Obj.pmuRangeBase + k) ≤ a) && decide (a < s.eff (Obj.pmuRangeLimit + k))

/-- Counter `n`'s filter lets the event of request `q` at slice `unit` through (R494, R510). -/
def State.filterReq (s : State) (n unit half : Nat) (q : Req) : Bool :=
  let f := s.eff (arr16 Obj.ctrFilter n)
  let o := s.eff (arr16 Obj.ctrOwner n)
  let alloc := o.testBit 15
  let priv := if alloc then bitsOf f 61 60 else bitsOf f 63 60
  priv.testBit q.priv.toNat
    && (bitsOf f 59 53).testBit (reqClassBit q.opcode.toNat)
    && (!f.testBit 52 || bitsOf f 51 47 == half)
    && (!f.testBit 46 || (q.opcode.toNat != 0x18 && s.pmuRange (bitsOf f 45 43) q.addr.toNat))
    && (if alloc then bitsOf o 9 0 == q.partid.toNat
        else !f.testBit 42 || bitsOf f 41 32 == q.partid.toNat)
    && (!f.testBit 31 || bitsOf f 30 26 == unit)

/-- Counter `n`'s filter lets a unit event through (R494, R510). -/
def State.filterUnit (s : State) (n unit : Nat) : Bool :=
  let f := s.eff (arr16 Obj.ctrFilter n)
  !(s.eff (arr16 Obj.ctrOwner n)).testBit 15 && (!f.testBit 31 || bitsOf f 30 26 == unit)

/-- The general counters that are enabled on event `code`: CTR_EVENT objects in force that differ from their
default (whose ENABLE is clear), by counter number. -/
def State.countersOn (s : State) (code : Nat) : List Nat :=
  s.dict.eff.filterMap fun (k, v) =>
    if Obj.ctrEvent ≤ k ∧ k < Obj.ctrEvent + 0x1000 ∧ v.toNat.testBit 31 ∧ v.toNat.testBit 30 = false
        ∧ v.toNat % 4096 = code
    then some ((k - Obj.ctrEvent) / 256 * 16 + (k - Obj.ctrEvent) % 256)
    else none

/-- `n` events of attribution U of `unit` (R491). -/
def State.countU (s : State) (code unit n : Nat) : State :=
  (s.countersOn code).foldl (fun s i => if s.filterUnit i unit then s.acc i n else s) s

/-- `n` events of attribution R of a request at its home slice (R491). -/
def State.countR (s : State) (code slice half : Nat) (q : Req) (n : Nat) : State :=
  (s.countersOn code).foldl (fun s i => if s.filterReq i slice half q then s.acc i n else s) s

/-- `n` events of fixed counter `i` (R492). -/
def State.fixed (s : State) (i n : Nat) : State :=
  if (s.eff Obj.fixedEnable).testBit i then s.acc (256 + i) n else s

/-- An event of a cycle of a later stride is counted there (R491, R496). -/
def State.countLater (s : State) (c : Nat) (e : PmuEvent) : State := s.withPmu { s.pmu with later := s.pmu.later ++ [(c, e)] }

/-- `n` events of attribution U in stride `t`. -/
def State.countUAt (s : State) (t code unit n : Nat) : State :=
  if t ≤ s.now then s.countU code unit n else s.countLater (t * 64) (.unit code unit n)

/-- `n` events of fixed counter `i` in stride `t`. -/
def State.fixedAt (s : State) (t i n : Nat) : State := if t ≤ s.now then s.fixed i n else s.countLater (t * 64) (.fixed i n)

/-! ### Interrupt sources -/

/-- SOURCE_CONFIG of a source, in force (Table 12.2). -/
def State.srcConfig (s : State) (n : Nat) : Nat := s.eff (arr16 Obj.sourceConfig n)

/-- Sources whose kind is Interrupt only (Table 12.1). -/
def interruptOnly (n : Nat) : Bool := 0x50 ≤ n && n ≤ 0x8F

/-- State of a source. -/
def State.source (s : State) (n : Nat) : Source := Assoc.getD s.irq.sources n {}

/-- Write the state of a source. -/
def State.setSource (s : State) (n : Nat) (x : Source) : State :=
  s.withIrq { s.irq with sources := Assoc.putD s.irq.sources n {} x }

/-- Set a bit of IRQ_STATUS (R479). -/
def State.setIrqStatus (s : State) (n : Nat) : State :=
  let k := Obj.irqStatus + n / 64
  s.setObj k (s.obj k ||| BitVec.ofNat 64 (1 <<< (n % 64)))

/-- An event of a source moves its delivery state (R468, R477) and sets IRQ_STATUS (R479). -/
def State.deliver (s : State) (n : Nat) : State :=
  let c := s.srcConfig n
  let s := if c.testBit 9 then s.setIrqStatus n else s
  if c.testBit 30 then
    let k := bitsOf c 28 24
    let old := Assoc.getD s.irq.fast k 0
    (s.withIrq { s.irq with fast := Assoc.putD s.irq.fast k 0 (if old.testBit 0 then old else old + 1) })
  else
    let x := s.source n
    match x.st with
    | .idle => s.setSource n { x with st := .pending, counted := false }
    | .active => s.setSource n { x with rearm := true }
    | .pending => s

/-! ### Event rings -/

/-- A ring. -/
def State.ring (s : State) (r : Nat) : Ring := Assoc.getD s.irq.rings r {}

/-- Write a ring. -/
def State.setRing (s : State) (r : Nat) (x : Ring) : State :=
  s.withIrq { s.irq with rings := Assoc.putD s.irq.rings r {} x }

/-- Words of a record (R481). -/
def Record.len (x : Record) : Nat := 2 + x.words.length

/-- Committed words not read (RING_FILL). -/
def Ring.fill (x : Ring) : Nat := x.records.foldl (fun n y => n + (y.len - y.read)) 0

/-- Room of a ring: 4,096 words (R481). -/
def Ring.room (x : Ring) : Nat := 4096 - x.fill

/-- RING_FILL reaches its threshold (R487): the ring's source has an event. -/
def State.ringThreshold (s : State) (r before : Nat) : State :=
  let th := s.eff (arrIx Obj.ringThreshold r)
  if before < th && decide (th ≤ (s.ring r).fill) then s.deliver (0x50 + r) else s

/-- Append a record whose room is there. -/
def State.putRecord (s : State) (r : Nat) (rec_ : Record) : State :=
  let x := s.ring r
  let s' := s.setRing r { x with records := x.records ++ [rec_], wptr := (x.wptr + rec_.len) % 4096 }
  s'.ringThreshold r x.fill

/-- Take the next ALARM_SEQ (R486). -/
def State.nextAlarm (s : State) (rec_ : Record) : Record × State :=
  let q := s.bridle.alarmSeq
  let a : Alarm := { seq := q, source := rec_.source, count := rec_.count, stride := rec_.stride, words := rec_.words }
  ({ rec_ with seq := q },
    s.withBridle { s.bridle with alarmSeq := q + 1, alarms := s.bridle.alarms ++ [a] })

/-- First record word 2 of a record, for coalescing (R484). -/
def Record.word2 (x : Record) : Option Reg := x.words.head?

/-- Write a record to an alarm ring that has the room: it takes an ALARM_SEQ and is pushed over Bridle (R486). -/
def State.putAlarm (s : State) (r : Nat) (rec_ : Record) : State :=
  let (rec', s) := s.nextAlarm rec_
  s.putRecord r rec'

/-- COUNT, saturating at 65,535 (Table 12.5). -/
def satCount (n : Nat) : Nat := min n 65535

/-- An occurrence for an alarm ring (R484): coalesced, written, or latched. One coalesced after its alarm was acknowledged asks for a
new push (R486). -/
def State.recordAlarm (s : State) (r : Nat) (rec_ : Record) : State :=
  let x := s.ring r
  let same : Record → Bool := fun y =>
    y.source == rec_.source && y.word2 == rec_.word2 && y.read == 0
  match x.records.find? same with
  | some y =>
    let s := s.setRing r { x with records := updFirst same (fun y => { y with count := satCount (y.count + 1) }) x.records }
    let s := s.bump (arrIx Obj.ringCoalesced r)
    let more : Alarm → Alarm := fun a => { a with count := satCount (a.count + 1), dirty := a.dirty || a.acked }
    (s.withBridle { s.bridle with alarms := updFirst (fun a => a.seq == y.seq) more s.bridle.alarms })
  | none =>
    if s.irq.latches.any (fun y => y.source == rec_.source) then
      let more : Record → Record := fun y =>
        { y with count := satCount (y.count + 1), merged := y.merged || y.word2 != rec_.word2 }
      let l := updFirst (fun y => y.source == rec_.source) more s.irq.latches
      (s.withIrq { s.irq with latches := l })
    else if rec_.len ≤ x.room then s.putAlarm r rec_
    else s.withIrq { s.irq with latches := s.irq.latches ++ [rec_] }

/-- An occurrence for a log ring (R485). -/
def State.recordLog (s : State) (r : Nat) (rec_ : Record) : State :=
  let x := s.ring r
  if x.summarising then
    let c := match Assoc.find? rec_.source x.counts with
      | some (n, first, _) => (n + rec_.count, first, rec_.stride)
      | none => (rec_.count, rec_.stride, rec_.stride)
    (s.setRing r { x with counts := Assoc.put rec_.source c x.counts }).bump (arrIx Obj.ringSummarised r)
  else
    let s := s.putRecord r rec_
    let y := s.ring r
    if 3072 ≤ y.fill then s.setRing r { y with summarising := true } else s

/-- An occurrence for a trace ring (R483); a marker's STRIDE is that of the first drop it counts (Table 12.5). -/
def State.recordTrace (s : State) (r : Nat) (rec_ : Record) : State :=
  let x := s.ring r
  let marker := if x.drops = 0 then 0 else 3
  if rec_.len + marker ≤ x.room then
    let s := if x.drops = 0 then s else
      (s.setRing r { x with drops := 0 }).putRecord r
        { source := 0x3FF, kind := 2, count := satCount x.drops, stride := x.dropFirst, words := [BitVec.ofNat 64 x.dropAt] }
    s.putRecord r rec_
  else
    (s.setRing r { x with drops := x.drops + 1, dropFirst := if x.drops = 0 then s.now else x.dropFirst, dropAt := s.now }).bump
      (arrIx Obj.ringDropped r)

/-- Write the record of one occurrence where the source is configured to record (R465, R466). -/
def State.record (s : State) (n : Nat) (rec_ : Record) : State :=
  let c := s.srcConfig n
  if interruptOnly n then s
  else if alarmSource n || c.testBit 6 then
    let r := bitsOf c 5 0
    if r < 4 then s.recordAlarm r rec_
    else if r < 16 then s.recordLog r rec_
    else s.recordTrace r rec_
  else s

/-- Records are written and interrupts delivered from step 1 of Bring-up onwards (R488). -/
def State.eventsOn (s : State) : Bool :=
  match s.modes.mode with
  | .off | .keep | .reset => false
  | _ => true

/-- A source has an event, with the data of its record (R465, R468; in Reset, R488). -/
def State.raise (s : State) (n : Nat) (data : List Reg) : State :=
  let rec_ : Record := { source := n, count := 1, stride := s.now, words := data.take 6 }
  if s.eventsOn then (s.record n rec_).deliver n
  else if s.modes.mode == .reset && (n == 0xBE || n == 0xBD) then (s.nextAlarm rec_).2
  else s

/-- A number as a record word. -/
abbrev w64 (n : Nat) : Reg := BitVec.ofNat 64 n

/-- Write a ring's oldest latch if the ring has room for it (R484). -/
def State.flushLatch (s : State) (r : Nat) : State :=
  let mine : Record → Bool := fun y => bitsOf (s.srcConfig y.source) 5 0 == r
  match s.irq.latches.find? mine with
  | none => s
  | some y =>
    if y.len ≤ (s.ring r).room then
      (s.withIrq { s.irq with latches := dropFirst mine s.irq.latches }).putAlarm r y
    else s

/-- Write a ring's latches, oldest first, as far as it has room (R484). -/
def State.flushLatches (s : State) (r : Nat) : State := s.irq.latches.foldl (fun s _ => s.flushLatch r) s

/-- A log ring that falls below 2,048 words leaves summarising and writes one summary record per source; where these fill it to
3,072 words it enters summarising again (R485, SUMMARY_RECORD). -/
def State.leaveSummary (s : State) (r : Nat) : State :=
  let x := s.ring r
  if x.summarising && decide (x.fill < 2048) then
    let s := s.setRing r { x with summarising := false, counts := [] }
    let s := x.counts.foldl (fun s (src, n, first, last) =>
      s.putRecord r { source := src, kind := 1, count := satCount n, stride := first, words := [w64 last] }) s
    let y := s.ring r
    if 3072 ≤ y.fill then s.setRing r { y with summarising := true } else s
  else s

/-- Word `i` of a record (Table 12.5). -/
def Record.word (x : Record) (i : Nat) : Reg :=
  match i with
  | 0 => BitVec.ofNat 64 (1 <<< 63 + (x.len - 1) <<< 60 + x.kind <<< 58 + x.source <<< 48 + x.count <<< 32
           + x.seq.toNat <<< 16 + (if x.merged then 1 else 0))
  | 1 => BitVec.ofNat 64 x.stride
  | i + 2 => x.words.getD i 0

end Sys2Proof.Machine
end

