-- ==== Sys2Proof/Machine/Operands.lean ====
section
/-!
DEFINITION. Operand forms of the H2C: the address splits (R30, R109, R168, R335, R336) and their inverses, the
replacement LFSR and way choices (R139, R142, R174), the checksums (R55, R288, R294, R414) and the outcome of the
error codes (Table 9.1, R365).
-/
namespace Sys2Proof.Machine

/-! ### Addresses -/

/-- Bits `[hi:lo]` of an address, as the manual writes them. -/
abbrev ab (a hi lo : Nat) : Nat := bitsOf a hi lo

/-- `home_of` (R30): home device and local address of `pa` in a domain of `n` devices. -/
def homeOf (pa n : Nat) : Nat × Nat :=
  let g := ab pa 51 12
  if n = 3 then (g % 3, (g / 3) <<< 12 + pa % 4096)
  else
    let b := if n = 1 then 0 else if n = 2 then 1 else 2
    let f := (ab g 1 0) ^^^ (ab g 9 8) ^^^ (ab g 17 16)
    (f % 2 ^ b, (g >>> b) <<< 12 + pa % 4096)

/-- The slice of a local address (R109). -/
def sliceOf (la : Nat) : Nat :=
  ab la 15 12 ^^^ ab la 19 16 ^^^ ab la 23 20 ^^^ ab la 27 24 ^^^ ab la 31 28 ^^^ ab la 35 32 ^^^ ab la 39 36
    ^^^ ab la 41 40

/-- Line within its 4 KiB sector (R109). -/
def lineIn (la : Nat) : Nat := ab la 11 7

/-- Kernel set within the slice (R109). -/
def kiOf (la : Nat) : Nat := (ab la 23 16 ^^^ ab la 31 24 ^^^ ab la 39 32 ^^^ ab la 41 40) * 32 + lineIn la

/-- Kernel set (R109). -/
def ksetOf (la : Nat) : Nat := sliceOf la * 8192 + kiOf la

/-- Kernel tag (R109). -/
def ktagOf (la : Nat) : Nat := ab la 41 24

/-- Husk set within the slice (R109). -/
def hiOf (la : Nat) : Nat := ab la 30 16 ^^^ ab la 41 31

/-- Husk set (R109). -/
def hsetOf (la : Nat) : Nat := sliceOf la * 32768 + hiOf la

/-- Husk tag (R109). -/
def htagOf (la : Nat) : Nat := ab la 41 31

/-- LA[15:12] from the slice and the address bits above it (R109, "recovered from the slice"). -/
def low4Of (slice la16 : Nat) : Nat :=
  slice ^^^ ab la16 19 16 ^^^ ab la16 23 20 ^^^ ab la16 27 24 ^^^ ab la16 31 28 ^^^ ab la16 35 32 ^^^ ab la16 39 36
    ^^^ ab la16 41 40

/-- LA[41:7] · 128 of a Kernel set and tag (R109). -/
def laOfK (kset tag : Nat) : Nat :=
  let hi := tag <<< 24
  let kfold := kset % 8192 / 32
  let la16 := hi + ((kfold ^^^ ab hi 31 24 ^^^ ab hi 39 32 ^^^ ab hi 41 40) <<< 16)
  la16 + (low4Of (kset / 8192) la16) <<< 12 + (kset % 32) <<< 7

/-- LA of line `line` of a Husk set and tag (R109). -/
def laOfH (hset tag line : Nat) : Nat :=
  let la16 := tag <<< 31 + (((hset % 32768) ^^^ tag) % 32768) <<< 16
  la16 + (low4Of (hset / 32768) la16) <<< 12 + line <<< 7

/-- Directory set (R168). -/
def dsetOf (la : Nat) : Nat :=
  sliceOf la * 16384 + (ab la 24 16 ^^^ ab la 33 25 ^^^ ab la 41 34) * 32 + lineIn la

/-- Directory tag (R168). -/
def dtagOf (la : Nat) : Nat := ab la 41 25

/-- LA of a directory set and tag (R168). -/
def laOfD (dset tag : Nat) : Nat :=
  let hi := tag <<< 25
  let dfold := dset % 16384 / 32
  let la16 := hi + ((dfold ^^^ ab hi 33 25 ^^^ ab hi 41 34) <<< 16)
  la16 + (low4Of (dset / 16384) la16) <<< 12 + (dset % 32) <<< 7

/-- `home_channel` (R335). -/
def chanOf (la : Nat) : Nat := ab la 41 9 % 12

/-- Address within the channel (R335). -/
def caOf (la : Nat) : Nat := (ab la 41 9 / 12) * 512 + la % 512

/-- LA of a channel address, inverting R335 (R373). -/
def laOfC (ch ca : Nat) : Nat := ((ca / 512) * 12 + ch) * 512 + ca % 512

/-- `dram_decode` (R336): rank, bank group, bank, row, burst column. -/
structure DramAddr where
  rank : Nat
  bg : Nat
  bank : Nat
  row : Nat
  col : Nat
deriving DecidableEq, Repr

/-- R336, with `r` rank bits and `n` row bits. -/
def dramDecode (ca r n : Nat) : DramAddr :=
  let row := bitsOf ca (18 + r + n) (19 + r)
  { rank := if r = 0 then 0 else bitsOf ca (18 + r) 19
    bg := bitsOf ca 9 7 ^^^ row % 8
    bank := bitsOf ca 18 17 ^^^ bitsOf row 4 3
    row := row
    col := bitsOf ca 16 10 }

/-- Data port and frame of way `w` of Husk set `hset` (R110, R350). -/
def portOfWay (hset w : Nat) : Nat := (w + hset % 16) % 16

/-- Way of Husk set `hset` that lies on data port `j` (R350). -/
def wayOnPort (hset j : Nat) : Nat := (j + 16 - hset % 16) % 16

/-- Check port of a data port (Table 2.1). -/
def checkPort (j : Nat) : Nat := if j < 8 then 16 else 17

/-- Base of the register window of device `d` (R434). -/
def windowBase (d : Nat) : Nat := 0xFFFFFFC000000 + d * 0x1000000

/-- An address of the top 64 MiB, not interleaved (R434). -/
def inWindow (pa : Nat) : Bool := decide (0xFFFFFFC000000 ≤ pa)

/-! ### Replacement -/

/-- `lfsr_step` (R139). -/
def lfsrStep (x : BitVec 32) : BitVec 32 :=
  if x.getLsbD 0 then (x >>> 1) ^^^ 0x80200003 else x >>> 1

/-- `n` steps. -/
def lfsrSteps : Nat → BitVec 32 → BitVec 32
  | 0, x => x
  | n + 1, x => lfsrSteps n (lfsrStep x)

/-- Slice `i`'s LFSR in cycle `cyc` of the stride. -/
def State.lfsrAt (s : State) (i cyc : Nat) : BitVec 32 := lfsrSteps cyc (s.tiers.lfsr.getD i 1)

/-- The `j`-th set bit of a mask, ascending. -/
def nthWay (mask n j : Nat) : Option Nat := (setBits mask n)[j]?

/-- `choose_way` (R142): among `ways` ways, `allowed` by mask, `free` those that are Invalid (or SV = 0). -/
def chooseWay (ways allowed free : Nat) (r : Nat) : Option Nat :=
  if allowed = 0 then none
  else if allowed &&& free ≠ 0 then nthWay (allowed &&& free) ways 0
  else nthWay allowed ways ((r * popN allowed ways) >>> 16)

/-! ### Checksums -/

/-- One byte of a reflected CRC-32C (Castagnoli). -/
def crc32cByte (c b : Nat) : Nat :=
  (List.range 8).foldl (fun c _ => if c % 2 = 1 then (c / 2) ^^^ 0x82F63B78 else c / 2) (c ^^^ b)

/-- CRC-32C of a list of bytes (Table 2.6, CRC). -/
def crc32c (bs : List Nat) : Nat := (bs.foldl crc32cByte 0xFFFFFFFF) ^^^ 0xFFFFFFFF

/-- One byte of a CRC of `w` bits, most significant bit first. -/
def crcByte (w poly : Nat) (c b : Nat) : Nat :=
  (List.range 8).foldl
    (fun c i =>
      let top := (c / 2 ^ (w - 1)) % 2
      let bit := (b / 2 ^ (7 - i)) % 2
      let c' := (c * 2) % 2 ^ w
      if top = bit then c' else c' ^^^ poly) c

/-- CRC-64 of a flit (Table 7.7). -/
def crc64 (bs : List Nat) : Nat :=
  (bs.foldl (crcByte 64 0x42F0E1EBA9EA3693) 0xFFFFFFFFFFFFFFFF) ^^^ 0xFFFFFFFFFFFFFFFF

/-- CRC-16-CCITT of a training block (Table 7.4): polynomial 0x1021, initial value all ones, most significant bit
first (PRESUMED, log entry 22). -/
def crc16 (bs : List Nat) : Nat := bs.foldl (crcByte 16 0x1021) 0xFFFF

/-- CRC-8 of the Paddock (R414): polynomial x^8 + x^2 + x + 1 from 0xFF, bits [255:8] with bit 255 first. -/
def crc8 (bs : List Nat) : Nat := bs.foldl (crcByte 8 0x07) 0xFF

/-! ### Error codes (Table 9.1) -/

/-- What a code makes of an error pattern. -/
inductive Decoded where
  | clean
  /-- Corrected; how many symbols or bits. -/
  | corrected (n : Nat)
  | uncorrectable
  /-- More errors than the code detects: the outcome is not stated (a free value). -/
  | beyond
deriving DecidableEq, Repr

/-- SECDED words: each (word, flipped bits); one flip is corrected, two are found (Table 9.1). -/
def secded (e : ErrPattern) : Decoded :=
  let flips := (e.map Prod.fst).eraseDups.map fun w => (e.filter (fun (p : Nat × Nat) => p.1 == w)).length
  if flips.any (· == 2) then .uncorrectable
  else if flips.any (fun n => decide (3 ≤ n)) then .beyond
  else if flips.isEmpty then .clean
  else .corrected flips.length

/-- The Husk code: three symbols corrected, five detected (Table 9.1); positions 136 to 170 are the ADDR bits of the check
entry, of which one wrong bit makes the line uncorrectable (R347, R364). -/
def rsHusk (e : ErrPattern) : Decoded :=
  let n := (e.filter (fun (p : Nat × Nat) => p.1 < 136 && p.2 % 256 != 0)).length
  if e.any (fun (p : Nat × Nat) => 136 ≤ p.1 && p.1 < 171) then .uncorrectable
  else if n = 0 then .clean else if n ≤ 3 then .corrected n else if n ≤ 5 then .uncorrectable else .beyond

/-- Multiplication by α in the field of Table 9.1's codes over GF(2^8). -/
def timesAlpha (x : Nat) : Nat := if x < 128 then 2 * x else (2 * x) ^^^ 0x11D

/-- Multiplication by α^n. -/
def timesAlphaPow : Nat → Nat → Nat
  | 0, x => x
  | n + 1, x => timesAlpha (timesAlphaPow n x)

/-- Error of symbol *s*(d, k) of subchannel `sub` (R365): the values that a DDR5 pattern packs as 80 · sub + 8 · d + k, and the poison
pattern where it is stored (Table 9.4). -/
def ddrError (e : ErrPattern) (poison : Bool) (sub k d : Nat) : Nat :=
  let mark := if !poison then 0 else if d = 8 then 0x5A else if d = 9 then 0xA5 else 0
  e.foldl (fun x (p : Nat × Nat) => if p.1 = 80 * sub + 8 * d + k then x ^^^ (p.2 % 256) else x) mark

/-- Syndromes of codeword `k` of a burst, of the roots α^0 and α^1 (R365). DEDUCED (log entry 139): the symbols are the coefficients of
the codeword from the highest power down, *s*(9, k) that of x^0. -/
def ddrSyndrome (e : ErrPattern) (poison : Bool) (sub k : Nat) : Nat × Nat :=
  (List.range 10).foldl (fun s d => (s.1 ^^^ ddrError e poison sub k d, timesAlpha s.2 ^^^ ddrError e poison sub k d)) (0, 0)

/-- The device at which a single error has a codeword's syndromes, if any. -/
def ddrLocate (s : Nat × Nat) : Option Nat :=
  if s.1 = 0 then none else (List.range 10).find? fun d => timesAlphaPow (9 - d) s.1 == s.2

/-- One subchannel's burst (R365), `marked` the device that is marked for the rank: the outcome, the device that a correction names, and
the values by which it changes symbols, packed as those of a pattern. -/
def ddrBurst (marked : Option Nat) (e : ErrPattern) (poison : Bool) (sub : Nat) : Decoded × Option Nat × ErrPattern :=
  let bad := ((List.range 8).map fun k => (k, ddrSyndrome e poison sub k)).filter fun x => x.2 != (0, 0)
  match bad with
  | [] => (.clean, none, [])
  | x :: _ =>
    match marked.or (ddrLocate x.2) with
    | none => (.uncorrectable, none, [])
    | some p =>
      if bad.all fun y => ddrLocate y.2 == some p then
        (.corrected bad.length, some p, bad.map fun y => (80 * sub + 8 * p + y.1, y.2.1))
      else (.uncorrectable, none, [])

/-- All sixteen codewords of a read show the syndrome of the poison pattern (Table 9.4). -/
def ddrPoisoned (e : ErrPattern) (poison : Bool) : Bool :=
  (List.range 16).all fun n => ddrSyndrome e poison (n / 8) (n % 8) == ddrSyndrome [] true 0 0

/-- Resolve an outcome the manual does not state with a free bit: found uncorrectable or not. -/
def State.settle (s : State) (d : Decoded) : Decoded × State :=
  match d with
  | .beyond =>
    let (b, s) := s.draw 1
    (if b = 1 then .uncorrectable else .beyond, s)
  | d => (d, s)

end Sys2Proof.Machine
end

