-- ==== Sys2Proof/Machine/GaitImage.lean ====
section
/-!
DEFINITION. Gait images: the slot entry of any row of a bank, its spill chains, owner groups, mode mask and
horizons, for the ROM gaits (R76, R334) and for received images (R54 to R60, R558), and the acceptance checks
0x01 to 0x14 (Table 2.9, R68, R69).
-/
namespace Sys2Proof.Machine

/-! Slot classes (Table 2.3). -/

namespace Cls
abbrev idle : Nat := 0
abbrev dr : Nat := 1
abbrev dw : Nat := 2
abbrev sf : Nat := 3
abbrev wb : Nat := 4
abbrev ev : Nat := 5
abbrev fl : Nat := 6
abbrev sp : Nat := 7
abbrev sc : Nat := 8
abbrev mt : Nat := 9
abbrev rf : Nat := 10
end Cls

/-- A slot entry (Table 2.2). -/
structure SlotEntry where
  cls : Nat
  owner : Nat
  spill : Nat
deriving DecidableEq, Repr

/-- Slots per stride of a kind (Table 2.1). -/
def slotsOf : Nat → Nat
  | 0 => 64 | 1 => 64 | 2 => 32 | 3 => 16 | _ => 28

/-- Rows of a kind (Table 2.1). -/
def rowsOf : Nat → Nat
  | 0 => 16 | 1 => 16 | 2 => 18 | 3 => 24 | _ => 16

/-- First FCLK cycle of a slot (R45; on egress rows the first cycle at or after its payload slot 8k, R46). -/
def slotCycle (kind k : Nat) : Nat :=
  match kind with
  | 0 | 1 => k
  | 2 => 2 * k
  | 3 => 4 * k
  | _ => (k * 64 + 27) / 28

/-- Byte bases of the kinds' slot maps (R56). -/
def kindBase : Nat → Nat
  | 0 => 0x40 | 1 => 0x840 | 2 => 0x1040 | 3 => 0x14C0 | _ => 0x17C0

/-! ### The ROM gaits -/

/-- Class at cycle `c` of a ROM tag-slice row (Table 2.10). -/
def romTagClass (c : Nat) : Nat :=
  let g := c / 8
  match c % 8 with
  | 0 | 2 | 4 => Cls.dr
  | 1 => Cls.sf
  | 3 | 6 => Cls.dw
  | 5 => [Cls.wb, Cls.fl, Cls.wb, Cls.ev, Cls.wb, Cls.fl, Cls.wb, Cls.mt].getD g 0
  | _ => [Cls.sp, Cls.ev, Cls.fl, Cls.sc, Cls.sp, Cls.ev, Cls.fl, Cls.idle].getD g 0

/-- Owner at cycle `c` of slice `i` (R76, owners in the default gait). -/
def romTagOwner (i c : Nat) : Nat :=
  let cls := romTagClass c
  if cls = Cls.dr then 0x10 + (3 * (c / 8) + c % 8 / 2 + i) % 8
  else if cls = Cls.dw then 0x10 + (2 * (c / 8) + (if c % 8 = 3 then 0 else 1) + i) % 8
  else if cls = Cls.idle then 0
  else if cls = Cls.sp then 0xFE
  else if cls = Cls.sc ∨ cls = Cls.mt then 2
  else 1

/-- Owner of a class on the rows other than tag slices (R76). -/
def romOwner (cls : Nat) : Nat :=
  if cls = Cls.idle ∨ cls = Cls.rf then 0 else if cls = Cls.sc ∨ cls = Cls.mt then 2 else 1

/-- The Husk row of the ROM gait (R76). -/
def romHusk : List Nat :=
  [1, 6, 1, 4, 1, 5, 1, 6, 1, 4, 1, 2, 1, 6, 1, 8, 1, 4, 1, 5, 1, 6, 1, 4, 1, 5, 1, 2, 1, 9, 1, 10]

/-- The DDR5 row at DDR5-8800 (R76). -/
def romDdr : List Nat := [1, 2, 1, 4, 1, 2, 1, 8, 1, 2, 1, 4, 1, 2, 10, 9]

/-- The egress classes by `k mod 8` (R76). -/
def romEgress : List Nat := [3, 1, 1, 3, 2, 1, 1, 2]

/-- Spill rank of a class on a kind (R76). -/
def romSpill (kind speed cls : Nat) : Nat :=
  if cls = Cls.idle then 0
  else if cls = Cls.rf then (if kind = 3 ∧ speed ≠ 3 then 0 else 3)
  else if (kind = 2 ∨ kind = 3) ∧ (cls = Cls.dw ∨ cls = Cls.wb ∨ cls = Cls.fl ∨ cls = Cls.mt) then 2
  else 1

/-- The slot entry of a ROM gait (R76, R334). -/
def romEntry (kernelOnly : Bool) (speed kind row k : Nat) : SlotEntry :=
  match kind with
  | 0 => ⟨romTagClass k, romTagOwner row k, romSpill 0 speed (romTagClass k)⟩
  | 1 =>
    let c := (k + 60) % 64
    let cls := romTagClass c
    let cls' := if cls = Cls.sp then Cls.dr else if cls = Cls.sf then Cls.idle else cls
    ⟨cls', if cls' = Cls.idle then 0 else romTagOwner row c, romSpill 1 speed cls'⟩
  | 2 =>
    if kernelOnly then
      if k = 15 then ⟨Cls.sc, 2, 0⟩ else if k = 29 then ⟨Cls.mt, 2, 0⟩ else ⟨0, 0, 0⟩
    else let cls := romHusk.getD k 0; ⟨cls, romOwner cls, romSpill 2 speed cls⟩
  | 3 =>
    let off := (speed ≠ 3 ∧ (k = 3 ∨ k = 6 ∨ k = 13)) ∨ (speed = 1 ∧ k = 5)
    let cls := if off then 0 else romDdr.getD k 0
    ⟨cls, if cls = Cls.dr ∧ k = 12 then 0xFE else romOwner cls, romSpill 3 speed cls⟩
  | _ => let cls := romEgress.getD (k % 8) 0; ⟨cls, 1, 1⟩

/-- Spill chains of the ROM gaits, as (class, owner) (R76). -/
def romChain (kind rank : Nat) : List (Nat × Nat) :=
  let l := match kind, rank with
    | 0, 1 => [1, 2, 4, 6, 5, 3, 8]
    | 1, 1 => [1, 2, 4, 6, 5, 8, 9]
    | 4, 1 => [1, 2, 3]
    | 2, 1 => [1, 5, 8]
    | 2, 2 => [2, 4, 6, 9]
    | 3, 1 => [1, 8]
    | 3, 2 => [2, 4, 9]
    | 2, 3 => [1]
    | 3, 3 => [1]
    | _, _ => []
  l.map fun c => (c, romOwner c)

/-- The horizons that R76 states for the ROM gaits, in FCLK cycles (0.5 ns). -/
def romStated (kind cls : Nat) : Option Nat :=
  match kind, cls with
  | 0, 1 => some 32 | 0, 2 => some 32 | 0, 7 => some 32 | 1, 1 => some 0 | 2, 1 => some 32 | 3, 1 => some 128
  | 4, 1 => some 32 | 4, 3 => some 32
  | _, _ => none

/-- Recomputed gaps of the ROM gaits (R69), in whole FCLK cycles rounded up, for the classes that have no stated
horizon: a HORIZON is no less (check 0x12). -/
def romGap (speed kind cls : Nat) : Nat :=
  match kind, cls with
  | 0, 4 => 16 | 0, 5 => 32 | 0, 6 => 22 | 0, 3 => 8 | 0, 0 => 64 | 0, 8 => 64 | 0, 9 => 64
  | 1, 2 => 32 | 1, 4 => 16 | 1, 5 => 32 | 1, 6 => 22 | 1, 0 => 8 | 1, 8 => 64 | 1, 9 => 64
  | 2, 6 => 24 | 2, 4 => 24 | 2, 2 => 32 | 2, 5 => 28 | 2, 0 => 4 | 2, 8 => 64 | 2, 9 => 64 | 2, 10 => 64
  | 3, 2 => if speed = 3 then 16 else 32
  | 3, 4 => if speed = 3 then 32 else 64
  | 3, 0 => if speed = 3 then 0 else 28
  | 3, 8 => 64 | 3, 9 => 64 | 3, 10 => 64
  | 4, 2 => 28 | _, _ => 0

/-- Gaps of the Husk rows of a Kernel-only ROM gait, which hold one Scrub, one Maintenance and Idle slots (R334). -/
def romHuskGap (cls : Nat) : Nat := if cls = Cls.sc ∨ cls = Cls.mt then 64 else if cls = Cls.idle then 4 else 0

/-! ### Received images -/

/-- Byte `o` of an image. -/
def imgByte (segs : List (BitVec 64)) (o : Nat) : Nat := ((segs.getD (o / 8) 0).toNat >>> (o % 8 * 8)) % 256

/-- Little-endian number of `n` bytes at `o`. -/
def imgNum (segs : List (BitVec 64)) (o : Nat) : Nat → Nat
  | 0 => 0
  | n + 1 => imgByte segs o + 256 * imgNum segs (o + 1) n

/-- Offset of a slot entry (R56). -/
def entryOffset (kind row k : Nat) : Nat := kindBase kind + (row * slotsOf kind + k) * 2

/-- A slot entry of an image (Table 2.2). -/
def imgEntry (segs : List (BitVec 64)) (kind row k : Nat) : SlotEntry :=
  let w := imgNum segs (entryOffset kind row k) 2
  ⟨w / 4096, w / 16 % 256, w % 16⟩

/-- Step `j` of chain `n` of kind `t` (R57). -/
def imgStep (segs : List (BitVec 64)) (t n j : Nat) : Nat := imgNum segs (0x1B40 + (t * 16 + n) * 16 + 2 * j) 2

/-- A spill chain up to its first Idle step (R57). -/
def imgChain (segs : List (BitVec 64)) (t n : Nat) : List (Nat × Nat) :=
  (((List.range 8).map (imgStep segs t n)).takeWhile (fun w => w / 4096 != 0)).map fun w => (w / 4096, w / 16 % 256)

/-! ### Any source -/

/-- The slot entry. -/
def GaitSrc.entry : GaitSrc → Nat → Nat → Nat → SlotEntry
  | .rom ko sp, kind, row, k => romEntry ko sp kind row k
  | .image segs, kind, row, k => imgEntry segs kind row k

/-- The spill chain of a rank (rank 0: empty, R51). -/
def GaitSrc.chain : GaitSrc → Nat → Nat → List (Nat × Nat)
  | _, _, 0 => []
  | .rom _ _, kind, rank => romChain kind rank
  | .image segs, kind, rank => imgChain segs kind rank

/-- MODE_MASK (Table 2.6); the ROM gaits list all five modes (R96). -/
def GaitSrc.modeMask : GaitSrc → Nat
  | .rom _ _ => 0x1F
  | .image segs => imgByte segs 0x17

/-- HUSK_PORTS (Table 2.6); a Full ROM gait uses every port, a Kernel-only one none (R334). -/
def GaitSrc.huskPorts : GaitSrc → Nat
  | .rom ko _ => if ko then 0 else 0x3FFFF
  | .image segs => imgNum segs 0x18 4

/-- SCOPE is domain-wide. -/
def GaitSrc.domainWide : GaitSrc → Bool
  | .rom _ _ => false
  | .image segs => imgByte segs 0x1C == 1

/-- DOMAIN_SIZE (Table 2.6). -/
def GaitSrc.domainSize : GaitSrc → Nat
  | .rom _ _ => 0
  | .image segs => imgByte segs 0x1D

/-- PARTCLASSES (Table 2.6). -/
def GaitSrc.partClasses : GaitSrc → Nat
  | .rom _ _ => 2 ^ 64 - 1
  | .image segs => imgNum segs 0x20 8

/-- GAIT_ID (R334 for the ROM gaits). -/
def GaitSrc.gaitId : GaitSrc → Nat
  | .rom ko sp => 0x4B440000 + (if ko then 0x100 else 0) + sp
  | .image segs => imgNum segs 0x28 4

/-- COMPILER (Table 2.6; R334 for the ROM gaits). -/
def GaitSrc.compiler : GaitSrc → Nat
  | .rom _ _ => 0x00010000
  | .image segs => imgNum segs 0x2C 4

/-- CONFIG (Table 2.6; R334 for the ROM gaits): 0 Full, 1 Kernel-only. -/
def GaitSrc.config : GaitSrc → Nat
  | .rom ko _ => if ko then 1 else 0
  | .image segs => imgByte segs 0x16

/-- Group descriptor: DEFINED, HALVES, PARTCLASSES (Table 2.7; R76 for the ROM gaits). -/
def GaitSrc.group : GaitSrc → Nat → Option (Nat × Nat)
  | .rom _ _, g => if 0x10 ≤ g ∧ g < 0x18 then some (0xF <<< (4 * (g - 0x10)), 2 ^ 64 - 1) else none
  | .image segs, g =>
    let o := 0x2040 + g * 16
    if 0x10 ≤ g ∧ g ≤ 0xFD ∧ imgByte segs (o + 12) % 2 = 1 then some (imgNum segs o 4, imgNum segs (o + 4) 8) else none

/-- Certified HORIZON of an image, in FCLK cycles (Table 2.8: units of 0.5 ns). -/
def imgHorizon (segs : List (BitVec 64)) (kind cls : Nat) : Nat := imgByte segs (0x3040 + 0x560 + 16 * kind + cls)

/-- A wait of `d` cycles is within the class's HORIZON (R70, R71). Where the manual states no figure for a ROM gait,
the horizon is the opaque constant, no less than the recomputed gap (log entry 11). -/
def GaitSrc.within : GaitSrc → Nat → Nat → Nat → Bool
  | .rom ko sp, kind, cls, d =>
    if ko && kind == 2 then decide (d ≤ romHuskGap cls) || (romHuskGap cls != 0 && decide (d ≤ Config.romHorizon ko sp kind cls))
    else
      match romStated kind cls with
      | some h => decide (d ≤ h)
      | none => decide (d ≤ romGap sp kind cls) || decide (d ≤ Config.romHorizon ko sp kind cls)
  | .image segs, kind, cls, d => decide (d ≤ imgHorizon segs kind cls)

/-- Largest horizon that a search of the ledger covers: 4 strides (R70, "the next four strides"). -/
abbrev ledgerReach : Nat := 256

/-- The row's slots of a class, ascending. -/
def GaitSrc.slotsWith (g : GaitSrc) (kind row : Nat) (p : SlotEntry → Bool) : List Nat :=
  (List.range (slotsOf kind)).filter fun k => p (g.entry kind row k)

/-- Scrub slots per stride of the sparsest row of a kind (R80). -/
def GaitSrc.scrubSlots (g : GaitSrc) (kind : Nat) : Nat :=
  ((List.range (rowsOf kind)).map fun r => (g.slotsWith kind r (·.cls == Cls.sc)).length).foldl min 64

/-- Refresh slots per stride of a row. -/
def GaitSrc.refreshSlots (g : GaitSrc) (kind row : Nat) : Nat := (g.slotsWith kind row (·.cls == Cls.rf)).length

/-- Data-moving slots per stride of a DDR5 row (R331). -/
def GaitSrc.dataSlots (g : GaitSrc) (row : Nat) : Nat :=
  (g.slotsWith 3 row fun e => e.cls != 0 && (e.cls != Cls.rf || !(g.chain 3 e.spill).isEmpty)).length

/-! ### Recomputation (R69) -/

/-- Width of a slot in units of 1/28 FCLK cycle, so that egress slots are whole (64/28 cycles). -/
def slotUnits : Nat → Nat
  | 0 => 28 | 1 => 28 | 2 => 56 | 3 => 112 | _ => 64

/-- Largest distance between consecutive positions, modulo `S`; none where the list is empty (max_gap, R69). -/
def maxGapOf (S : Nat) (p : List Nat) : Option Nat :=
  match p with
  | [] => none
  | a :: _ =>
    let next := p.drop 1 ++ [a]
    some ((p.zip next).foldl (fun g (x, y) => max g (let d := (y + S - x) % S; if d = 0 then S else d)) 0)

/-- Units of 1/28 cycle to 0.1 ns, rounded up: 0.5 ns per cycle is 5 tenths (R69). -/
def toTenths (u : Nat) : Nat := (u * 5 + 27) / 28

/-- Recomputed GAP of a class on a kind, in 0.1 ns; none where the class is absent (R69). DESIGN CHOICE (log entry 117): a
Demand read or Spur slot of a tag-slice row that no Demand read slot of its bank row matches has no wait, and leaves the
gap as it is. -/
def GaitSrc.gap (g : GaitSrc) (kind cls : Nat) : Option Nat :=
  let merge : Option Nat → Option Nat → Option Nat := fun a b =>
    match a, b with
    | none, b => b
    | a, none => a
    | some a, some b => some (max a b)
  if kind = 1 ∧ cls = Cls.dr then
    (List.range 16).foldl (fun acc i =>
      let bank := (List.range 64).map (g.entry 1 i)
      (g.slotsWith 0 i (fun e => e.cls == Cls.dr || e.cls == Cls.sp)).foldl (fun acc k =>
        let own := (g.entry 0 i k).owner
        let w := (List.range 64).find? fun d =>
          let e := bank.getD ((k + 4 + d) % 64) ⟨0, 0, 0⟩
          e.cls == Cls.dr && (e.owner == own || e.owner == 1)
        merge acc (w.map (· * 5))) acc) none
  else
    (List.range (rowsOf kind)).foldl (fun acc r =>
      let es := (List.range (slotsOf kind)).map fun k => (k, g.entry kind r k)
      let owners := ((es.filter (·.2.cls == cls)).map (·.2.owner)).eraseDups
      owners.foldl (fun acc o =>
        let p := (es.filter fun x => x.2.cls == cls && x.2.owner == o).map (·.1)
        let all := maxGapOf (slotsOf kind) p
        let all := if kind = 4 then
            merge all (merge (maxGapOf 28 (p.filter (· % 2 == 0))) (maxGapOf 28 (p.filter (· % 2 == 1))))
          else all
        merge acc (all.map fun d => toTenths (d * slotUnits kind))) acc) none

/-- Recomputed SHARE of a group: kind 0 tag slice, 1 egress (Table 2.8). -/
def GaitSrc.share (g : GaitSrc) (grp k : Nat) : Nat :=
  let kind := if k = 0 then 0 else 4
  ((List.range 16).map fun r => (g.slotsWith kind r (·.owner == grp)).length).foldl min 64

/-! ### Acceptance checks (Table 2.9) -/

/-- Classes allowed on a kind (Table 2.3). -/
def classAllowed (kind cls : Nat) : Bool :=
  match kind with
  | 0 => decide (cls ≤ 9)
  | 1 => [0, 1, 2, 4, 5, 6, 8, 9].contains cls
  | 2 => [0, 1, 2, 4, 5, 6, 8, 9, 10].contains cls
  | 3 => [0, 1, 2, 4, 8, 9, 10].contains cls
  | _ => [0, 1, 2, 3, 9].contains cls

/-- Direction on Husk and DDR5 rows (Table 2.3): 1 read, 2 write, 0 neither. -/
def classDir (cls : Nat) : Nat :=
  if cls = Cls.dr ∨ cls = Cls.ev ∨ cls = Cls.sc then 1
  else if cls = Cls.dw ∨ cls = Cls.wb ∨ cls = Cls.fl ∨ cls = Cls.mt then 2 else 0

/-- Where a check fails: byte offset, row and slot (R68). -/
abbrev Detail := Nat × Nat × Nat

/-- A field outside the slot map: its offset, with row and slot 0xFF (R68). -/
def fieldAt (o : Nat) : Option Detail := some (o, 0xFF, 0xFF)

/-- First element that satisfies `p`, mapped. -/
def firstThat {β : Type} (l : List β) (p : β → Bool) (f : β → Detail) : Option Detail := (l.find? p).map f

/-- All slots, in image order. -/
def allSlots : List (Nat × Nat × Nat) :=
  (List.range 5).flatMap fun t => (List.range (rowsOf t)).flatMap fun r => (List.range (slotsOf t)).map fun k => (t, r, k)

/-- The detail of a slot. -/
def slotAt (x : Nat × Nat × Nat) : Detail := (entryOffset x.1 x.2.1 x.2.2, x.2.1, x.2.2)

/-- The detail of a row that lacks a class. -/
def rowAt (t r : Nat) : Detail := (entryOffset t r 0, r, 0xFF)

/-- Rows of a kind where `p` fails. -/
def rowFails (t : Nat) (p : Nat → Bool) : Option Detail := firstThat (List.range (rowsOf t)) (fun r => !p r) (rowAt t)

/-- The failure of a list of checks that lies first in the image: least offset (R68). -/
def orElseL (l : List (Option Detail)) : Option Detail :=
  l.foldl (fun m x =>
    match m, x with
    | some a, some b => if b.1 < a.1 then some b else some a
    | none, x => x
    | m, none => m) none

/-- The zero fields of Tables 2.6 to 2.8 as (offset, bytes); bits of partly zero fields are checked beside them. In a Kernel-only
image path 1's STEP entries and its TOTAL are zero (R558). -/
def zeroFields (full : Bool) : List (Nat × Nat) :=
  [(0x1E, 2), (0x38, 4), (0x3042, 14), (0x3040 + 0x158, 8), (0x3040 + 0x5B0, 80)]
    ++ if full then [] else ((List.range 20).map fun i => (0x3040 + 0xB0 + 40 + 2 * i, 2)) ++ [(0x3040 + 0x152, 2)]

/-- Zero bytes from `o`. -/
def firstNonZero (segs : List (BitVec 64)) (o n : Nat) : Option Detail :=
  if (List.range n).all (fun i => imgByte segs (o + i) == 0) then none else fieldAt o

/-- Step durations of the fixed steps, in 0.1 ns; none marks a wait, with the (kind, class) it waits on (R558). -/
def pathSteps (speed path : Nat) : List (Nat ⊕ (Nat × Nat)) :=
  let burst := if speed = 3 then 18 else if speed = 2 then 25 else 29
  match path with
  | 0 => [.inl 38, .inl 25, .inl 20, .inr (0, 1), .inl 20, .inr (1, 1), .inl 25, .inl 20, .inr (4, 1), .inl 20, .inl 38]
  | 1 => [.inl 38, .inl 25, .inl 20, .inr (0, 1), .inl 20, .inl 20, .inr (2, 1), .inl 20, .inl 220, .inl 5, .inl 20,
      .inl 45, .inl 40, .inr (4, 1), .inl 20, .inl 38]
  | 2 => [.inl 38, .inl 25, .inl 20, .inr (0, 1), .inl 20, .inl 20, .inr (3, 1), .inl 160, .inl 25, .inl 160, .inl 160,
      .inl burst, .inl 25, .inl 45, .inl 40, .inr (4, 1), .inl 20, .inl 38]
  | _ => [.inl 83, .inr (0, 1), .inl 20, .inr (4, 3), .inl 58, .inl 38, .inl 40, .inr (4, 3), .inl 58]

/-- Worst case of a path (Table 0.3), in 0.1 ns. -/
def pathCap (path : Nat) : Nat := [580, 1300, 2400, 960].getD path 0

/-- Worst column of Table 1.4, steps 1 to 18, at a speed (Table 8.3), in 0.1 ns. -/
def worstSteps (speed : Nat) : List Nat :=
  [38, 25, 20, 320, 20, 20, 960, 160, 25, 160, 160, (if speed = 3 then 18 else if speed = 2 then 25 else 29), 25, 45, 40,
    280, 20, 38]

/-- STEP entry `s` (from 1) of path `p` (Table 2.8). -/
def imgStepEntry (segs : List (BitVec 64)) (p s : Nat) : Nat := imgNum segs (0x3040 + 0xB0 + (20 * p + s - 1) * 2) 2

/-- STEP entry `s` of path `p` of a ROM gait's certificate (R558): its fixed steps, the stated horizons of its waits (R76) and the
margin; path 1 of a Kernel-only gait is zero (R334). -/
def romStepEntry (kernelOnly : Bool) (speed p s : Nat) : Nat :=
  if kernelOnly && p == 1 then 0
  else
    let l := (pathSteps speed p).map fun x =>
      match x with
      | .inl d => d
      | .inr (t, c) => (romStated t c).getD 0 * 5
    (l ++ [pathCap p - l.foldl (· + ·) 0]).getD (s - 1) 0

/-- STEP entry `s` of path `p` of a gait's certificate. -/
def GaitSrc.stepEntry : GaitSrc → Nat → Nat → Nat
  | .rom ko sp, p, s => romStepEntry ko sp p s
  | .image segs, p, s => imgStepEntry segs p s

/-- TOTAL of path `p` of a gait's certificate (Table 2.8). -/
def GaitSrc.total : GaitSrc → Nat → Nat
  | .rom ko sp, p => if ko && p == 1 then 0 else pathCap p - romStepEntry ko sp p ((pathSteps sp p).length + 1)
  | .image segs, p => imgNum segs (0x3040 + 0x150 + 2 * p) 2

/-- Offset of a STEP entry. -/
def stepOffset (p s : Nat) : Nat := 0x3040 + 0xB0 + (20 * p + s - 1) * 2

/-- The image's speed, as MEM_SPEED codes it: that whose step 12 equals path 2 step 12 (R332); 0 for none. -/
def imgSpeed (segs : List (BitVec 64)) : Nat :=
  match imgStepEntry segs 2 12 with
  | 18 => 3 | 25 => 2 | 29 => 1 | _ => 0

/-- Speed of a source. -/
def GaitSrc.speed : GaitSrc → Nat
  | .rom _ sp => sp
  | .image segs => imgSpeed segs

/-- Check 0x10: a partition class is covered on a tag-slice row by Demand read and Demand write slots of 0x01 or of a
contract group that holds it (and, where `half` is given, that half). -/
def GaitSrc.covers (g : GaitSrc) (row : Nat) (cls pc : Nat) (half : Option Nat) : Bool :=
  !(g.slotsWith 0 row fun e => e.cls == cls && (e.owner == 1 ||
      match g.group e.owner with
      | some (halves, parts) => parts.testBit pc && (match half with | some h => halves.testBit h | none => true)
      | none => false)).isEmpty

/-- Check code `c` of Table 2.9 on an image; `fused` is FUSED_CONFIG. None: passed. DESIGN CHOICE (log entry 117): which code
refuses a non-zero unused STEP entry (here 0x13; 0x06 for path 1 of a Kernel-only image), a GAP other than 0xFFFF of an absent
class (0x11), a HORIZON other than 0 of one (0x12), and a chain step's non-zero bits [3:0], a non-zero chain 0 and a non-zero step
after the Idle step (0x06) is the model's choice, and so is the refusal with 0x09 of an Idle slot of a Husk or DDR5 row whose rank is
not 0: an Idle slot has no direction that R53 could match. -/
def gaitCheck (segs : List (BitVec 64)) (fused c : Nat) : Option Detail :=
  let g := GaitSrc.image segs
  let full := imgByte segs 0x16 == 0
  match c with
  | 1 =>
    if 8 * segs.length ≠ 13888 then some (8 * segs.length, 0xFF, 0xFF)
    else if imgNum segs 0 4 ≠ 0x54494147 then fieldAt 0
    else if imgNum segs 6 2 ≠ 64 then fieldAt 6
    else if imgNum segs 8 4 ≠ 13888 then fieldAt 8 else none
  | 2 => if imgByte segs 5 ≠ 1 then fieldAt 4 else if imgNum segs 0x3040 2 ≠ 0x0100 then fieldAt 0x3040 else none
  | 3 =>
    let bytes := (List.range 13888).map fun o => if 0x3C ≤ o ∧ o < 0x40 then 0 else imgByte segs o
    if crc32c bytes = imgNum segs 0x3C 4 then none else fieldAt 0x3C
  | 4 =>
    orElseL ((List.range 5).map (fun t => if imgByte segs (0x0C + t) = rowsOf t then none else fieldAt (0x0C + t)) ++
      (List.range 5).map fun t => if imgByte segs (0x11 + t) = slotsOf t then none else fieldAt (0x11 + t))
  | 5 => if imgByte segs 0x16 = (if fused = 0 then 0 else 1) then none else fieldAt 0x16
  | 6 =>
    orElseL (
      [ if imgByte segs 0x17 < 32 then none else fieldAt 0x17,
        if imgNum segs 0x18 4 < 2 ^ 18 then none else fieldAt 0x18,
        if imgByte segs 0x1C < 2 then none else fieldAt 0x1C,
        if imgByte segs 0x1D < 5 then none else fieldAt 0x1D ] ++
      (zeroFields full).map (fun f => firstNonZero segs f.1 f.2) ++
      (List.range 5).flatMap (fun t => (List.range 16).flatMap fun n =>
        let ws := (List.range 8).map (imgStep segs t n)
        let idle := (ws.takeWhile (fun w => w / 4096 != 0)).length
        (List.range 8).map fun j =>
          let w := ws.getD j 0
          if w % 16 ≠ 0 ∨ (n = 0 ∧ w ≠ 0) ∨ (idle < j ∧ w ≠ 0)
          then fieldAt (0x1B40 + (t * 16 + n) * 16 + 2 * j) else none) ++
      (List.range 256).map (fun d =>
        let o := 0x2040 + d * 16
        if d < 0x10 ∨ d ≥ 0xFE then
          orElseL [firstNonZero segs o 4, firstNonZero segs (o + 4) 8, firstNonZero segs (o + 12) 1, firstNonZero segs (o + 13) 3]
        else if imgByte segs (o + 12) ≥ 2 then fieldAt (o + 12) else firstNonZero segs (o + 13) 3))
  | 7 => firstThat allSlots (fun x => !classAllowed x.1 (imgEntry segs x.1 x.2.1 x.2.2).cls) slotAt
  | 8 => firstThat allSlots (fun x =>
      let e := imgEntry segs x.1 x.2.1 x.2.2
      !(if e.cls = 0 ∨ e.cls = Cls.rf then e.owner == 0
        else if e.cls = Cls.sp then e.owner == 0xFE
        else e.owner == 1 || e.owner == 2 || e.owner == 0xFE || (g.group e.owner).isSome)) slotAt
  | 9 =>
    orElseL [
      firstThat ((List.range 5).flatMap fun t => (List.range 16).flatMap fun n => (List.range 8).map fun j => (t, n, j))
        (fun (t, n, j) =>
          match (imgChain segs t n)[j]? with
          | some (c, _) => !classAllowed t c || c == Cls.rf || j == 7
          | none => false)
        (fun (t, n, j) => (0x1B40 + (t * 16 + n) * 16 + 2 * j, 0xFF, 0xFF)),
      firstThat allSlots (fun x =>
        let e := imgEntry segs x.1 x.2.1 x.2.2
        let ch := imgChain segs x.1 e.spill
        e.spill != 0 && (ch.isEmpty || decide (ch.eraseDups.length < ch.length) || ((x.1 == 2 || x.1 == 3) &&
          !(if e.cls = Cls.rf then (ch.map fun c => classDir c.1).eraseDups.length == 1
            else ch.all fun c => classDir c.1 == classDir e.cls)))) slotAt ]
  | 10 => rowFails 0 fun r => !(g.slotsWith 0 r (·.cls == Cls.sp)).isEmpty
  | 11 => orElseL ((List.range 4).map fun t => rowFails t fun r =>
      !(g.slotsWith t r (·.cls == Cls.mt)).isEmpty && !(g.slotsWith t r (·.cls == Cls.sc)).isEmpty)
  | 12 => orElseL [
      rowFails 3 fun r => [Cls.rf, Cls.dw, Cls.wb].all fun c => !(g.slotsWith 3 r (·.cls == c)).isEmpty,
      if full then rowFails 2 fun r => !(g.slotsWith 2 r (·.cls == Cls.rf)).isEmpty else none ]
  | 13 => firstThat ((List.range 12).flatMap fun ch => (List.range 16).map fun k => (3, 2 * ch + 1, k))
      (fun x => imgEntry segs 3 x.2.1 x.2.2 != imgEntry segs 3 (x.2.1 - 1) x.2.2)
      (fun x => (entryOffset 3 (x.2.1 - 1) x.2.2, x.2.1 - 1, x.2.2))
  | 14 => firstThat ((List.range 16).flatMap fun j => (List.range 32).map fun k => (2, j, k))
      (fun x => (imgEntry segs 2 x.2.1 x.2.2).cls != (imgEntry segs 2 (checkPort x.2.1) x.2.2).cls) slotAt
  | 15 => orElseL [
      rowFails 0 fun r => !(g.slotsWith 0 r fun e => e.cls == Cls.sf && e.owner == 1).isEmpty,
      rowFails 4 fun r => !(g.slotsWith 4 r (·.cls == Cls.sf)).isEmpty ]
  | 16 => rowFails 0 fun r => (setBits g.partClasses 64).all fun pc => g.covers r Cls.dr pc none && g.covers r Cls.dw pc none
  | 17 =>
    orElseL ((List.range 5).flatMap (fun t => (List.range 16).map fun c =>
        let cert := imgNum segs (0x3040 + 0x10 + (16 * t + c) * 2) 2
        let o := 0x3040 + 0x10 + (16 * t + c) * 2
        match g.gap t c with
        | none => if cert = 0xFFFF then none else fieldAt o
        | some v => if cert < v then fieldAt o else none) ++
      (List.range 256).flatMap fun grp => (List.range 2).map fun k =>
        let o := 0x3040 + 0x160 + (2 * grp + k) * 2
        if g.share grp k < imgNum segs o 2 then fieldAt o else none)
  | 18 =>
    orElseL ((List.range 5).flatMap fun t => (List.range 16).map fun c =>
      let o := 0x3040 + 0x560 + 16 * t + c
      match g.gap t c with
      | none => if imgByte segs o = 0 then none else fieldAt o
      | some v => if (v = 0 ∧ imgByte segs o ≠ 0) ∨ imgByte segs o * 5 < v then fieldAt o else none)
  | 19 =>
    let sp := imgSpeed segs
    if sp = 0 then fieldAt (stepOffset 2 12)
    else orElseL ((List.range 4).flatMap fun p =>
      if p = 1 ∧ !full then []
      else
        let n := (pathSteps sp p).length
        let total := ((List.range n).map fun i => imgStepEntry segs p (i + 1)).foldl (· + ·) 0
        let cert := g.total p
        [ if total = cert then none else fieldAt (0x3040 + 0x150 + 2 * p),
          if cert ≤ pathCap p then none else fieldAt (0x3040 + 0x150 + 2 * p),
          if imgStepEntry segs p (n + 1) = pathCap p - cert then none else fieldAt (stepOffset p (n + 1)) ] ++
        (List.range (20 - (n + 1))).map (fun i =>
          if imgStepEntry segs p (n + 2 + i) = 0 then none else fieldAt (stepOffset p (n + 2 + i))) ++
        (if p = 2 then (List.range 18).map fun i =>
            if imgStepEntry segs 2 (i + 1) ≤ (worstSteps sp).getD i 0 then none else fieldAt (stepOffset 2 (i + 1))
          else []))
  | 20 =>
    let sp := imgSpeed segs
    orElseL ((List.range 4).flatMap fun p =>
      if p = 1 ∧ !full then []
      else (List.range (pathSteps sp p).length).map fun i =>
        let v := imgStepEntry segs p (i + 1)
        match (pathSteps sp p)[i]? with
        | some (.inl f) => if v = f then none else fieldAt (stepOffset p (i + 1))
        | some (.inr (t, c)) =>
          if v ≠ imgHorizon segs t c * 5 ∨ (t = 0 ∧ v < imgHorizon segs 0 Cls.sp * 5)
          then fieldAt (stepOffset p (i + 1)) else none
        | none => none)
  | _ => none

/-- The first check of Table 2.9 that an image fails, in code order (R68). -/
def gaitFirstFail (segs : List (BitVec 64)) (fused : Nat) : Option (Nat × Detail) :=
  ((List.range 20).map (· + 1)).findSome? fun c => (gaitCheck segs fused c).map fun d => (c, d)

end Sys2Proof.Machine
end

