-- ==== Sys2Proof/Machine/Access.lean ====
section
/-!
DEFINITION. Access to the dictionary: the value each object reads as, the checks of Table 11.4 in their order, the
refusal records (R433), the views and read-clearing of R439 to R442, and the storing of accepted writes (R431, R448).
-/
namespace Sys2Proof.Machine

/-! ### Objects whose home is a structured field -/

/-- A link. -/
def State.link (s : State) (h : Nat) : Link := Assoc.getD s.ports.links h {}

/-- Write a link. -/
def State.setLink (s : State) (h : Nat) (l : Link) : State :=
  s.withPorts { s.ports with links := Assoc.putD s.ports.links h {} l }

/-- Codes of Table 7.3. -/
def LinkState.code : LinkState → Nat
  | .disabled => 0 | .detect => 1 | .train => 2 | .capability => 3 | .active => 4 | .retrain => 5
  | .incompatible => 6 | .held => 7 | .quiescing => 8 | .failed => 9

/-- Posted write buffer of a channel. -/
def State.pwb (s : State) (ch : Nat) : List Pwb := Assoc.getD s.mem.pwb ch []

/-- An eviction with data that has joined a transaction and is not yet retired (R215, R316). -/
def Snp.holdsData (x : Snp) : Bool :=
  match x.joined with
  | some j => j.wb && !x.retired
  | none => false

/-- Its data has a staging entry. -/
def Snp.holdsStaging (x : Snp) : Bool := x.holdsData && x.joined.any (·.staging)

/-- An eviction has joined and is not yet completed. -/
def Snp.joinedOpen (x : Snp) : Bool := x.joined.isSome && !x.retired

/-- Posted write buffer reservations held on a channel (R316): by transactions, and by evictions that joined one. -/
def State.pwbReservations (s : State) (ch : Nat) : Nat :=
  s.home.txns.foldl (fun n t =>
    if chanOf (t.line * 128) = ch then n + (if t.pwbReserved then 1 else 0) + (t.snoops.filter Snp.holdsData).length
    else n) 0

/-- Unreserved-pool entries of a channel held by staging entries (R126). -/
def State.pwbVictims (s : State) (ch : Nat) : Nat :=
  (s.tiers.staging.filter fun e => e.pwbReserved && chanOf (e.line * 128) == ch).length

/-- Entries in use or reserved (PWB_OCCUPANCY). -/
def State.pwbOccupancy (s : State) (ch : Nat) : Nat :=
  (s.pwb ch).length + s.pwbReservations ch + s.pwbVictims ch

/-- PWB_PEAK follows PWB_OCCUPANCY (Table 8.9). -/
def State.notePwb (s : State) (ch : Nat) : State := s.peak (Obj.pwbPeak + ch * 256) (s.pwbOccupancy ch)

/-- Lines in the Dirty or Poisoned state. -/
def LState.owed : LState → Bool
  | .dirty | .poisoned => true
  | _ => false

/-- DIRTY_LINES (R407), each copy once: a write that waits for its bank counts in the Kernel, a victim whose sector has its state
already and a Hull entry of a replacement under way count in the Husk. -/
def State.dirtyLines (s : State) : Nat :=
  let inHusk : Staged → Bool := fun e => match e.target with
    | some (h, w) => (Assoc.find? (h * 16 + w) s.tiers.sectors).any fun x => x.tag == htagOf (e.line * 128)
    | none => false
  let inRepl : Hull → Bool := fun e => s.tiers.repl.any fun r => r.hset == e.src.1 && r.way == e.src.2
  (s.tiers.ktags.filter fun x => x.2.st.owed).length
    + s.tiers.sectors.foldl (fun n x => n + x.2.dcnt) 0
    + (s.tiers.staging.filter fun e => e.st.owed && (e.kind == .victim || e.kind == .placement) && !inHusk e).length
    + (s.tiers.hull.filter fun e => !inRepl e).length
    + s.mem.pwb.foldl (fun n x => n + x.2.length) 0

/-- Set groups per slice, sets per group and ways of a tier: 0 Kernel, 1 Husk, 2 directory (Table 9.5). -/
def tierGeom : Nat → Nat × Nat × Nat
  | 0 => (8, 1024, 12) | 1 => (32, 1024, 16) | _ => (16, 1024, 16)

/-- A set group is disabled (R383). -/
def State.groupOff (s : State) (tier slice grp : Nat) : Bool := s.rel.retired.contains (.group tier slice grp)

/-- Ways of a set group retired by the map (R382). -/
def State.retiredWays (s : State) (tier slice grp : Nat) : List Nat :=
  ((s.rel.retired.filterMap fun r =>
    match r with
    | .way t sl g w => if t = tier ∧ sl = slice ∧ g = grp then some w else none
    | _ => none)).eraseDups

/-- Tier of a Farrier fault: 0 Kernel, 1 Husk, 2 directory (Table 9.5); a Husk store fault lies in the Husk. -/
def HardFault.tier (f : HardFault) : Nat := if f.array < 32 then 0 else if f.array < 48 then 1 else if f.array < 64 then 2 else 1

/-- Slice of a fault, and its set in the slice. -/
def HardFault.place (f : HardFault) : Nat × Nat :=
  if f.array < 64 then (f.array % 16, f.set) else (f.set / 32768, f.set % 32768)

/-- Sets that a repair row of an array holds (Table 9.5). -/
def rowSets (array : Nat) : Nat := if 16 ≤ array ∧ array < 32 then 4 else if 48 ≤ array ∧ array < 64 then 2 else 1

/-- Physical row of a fault in its array. -/
def HardFault.row (f : HardFault) : Nat := f.set / rowSets f.array

/-- Farrier keeps new lines out of a way of a set: of a row under repair from the stride boundary after the start on (R380), or of a
way or group that it retires (R382, R383). -/
def State.farrierHolds (s : State) (tier slice set w : Nat) : Bool :=
  match s.rel.work with
  | none => false
  | some (f, step) =>
    f.tier == tier && f.place.1 == slice &&
      match step with
      | .flushing => set / rowSets f.array == f.row && decide (s.rel.workSince < s.now)
      | .programming | .activating => set / rowSets f.array == f.row
      | .retiring => set / 1024 == f.place.2 / 1024 && w == f.way
      | .stage4 => set / 1024 == f.place.2 / 1024 && (tier != 2 || w == f.way)

/-- State of a Husk port (Table 8.8). -/
def State.portState (s : State) (j : Nat) : Nat := (s.obj (Obj.huskPortState + j)).toNat

/-- A port is in service, flushing included (R349, R353). -/
def State.portInService (s : State) (j : Nat) : Bool := s.portState j == 2 || s.portState j == 3

/-- Drained or failed data ports (R355, R382). -/
def State.portsOut (s : State) : Nat :=
  ((List.range 16).filter fun j => s.portState j == 5 || s.portState j == 6).length

/-- Ways lost over all groups of a tier, by the map. -/
def State.lostWays (s : State) (tier : Nat) : Nat :=
  (s.rel.retired.filter fun r =>
    match r with
    | .way t sl g _ => t == tier && !s.groupOff t sl g
    | _ => false).length

/-- Groups disabled in a tier. -/
def State.offGroups (s : State) (tier : Nat) : Nat :=
  (s.rel.retired.filter fun r => match r with | .group t _ _ => t == tier | _ => false).length

/-- Directory retirements past the budget of two per group (R383). -/
def State.dirExtra (s : State) : Nat :=
  ((s.rel.retired.filterMap fun r => match r with | .way 2 sl g _ => some (sl, g) | _ => none).eraseDups.map fun x =>
    (s.retiredWays 2 x.1 x.2).length - 2).foldl (· + ·) 0

/-- KERNEL_LINES_AVAIL (Table 9.12). -/
def State.kernelAvail (s : State) : Nat := 1572864 - s.lostWays 0 * 1024 - s.offGroups 0 * 12288

/-- HUSK_SECTORS_AVAIL (Table 9.12): a retired way and a port that is out share 64 sectors of a set group (R349). -/
def State.huskAvail (s : State) : Nat :=
  if s.kernelOnly then 0
  else 8388608 + s.lostWays 1 * s.portsOut * 64 - s.lostWays 1 * 1024 - s.offGroups 1 * 16384
    - s.portsOut * (524288 - s.offGroups 1 * 1024)

/-- DIR_ENTRIES_AVAIL (Table 9.12). -/
def State.dirAvail (s : State) : Nat := 4194304 - s.lostWays 2 * 1024

/-- WAYS_RETIRED (Table 9.12): over all set groups, drained ports included. -/
def State.waysRetired (s : State) : Nat :=
  (s.rel.retired.filter fun r => match r with | .way _ _ _ _ => true | _ => false).length + s.portsOut * 512

/-- Field-repair entries of an array that are not blank (R380, R381). -/
def State.fieldUsed (s : State) (a : Nat) : Nat :=
  (s.rel.field.filter fun x => x.1 / 64 == a && x.2 != 0).length

/-- BRINGUP_STEP (R413): the lowest-numbered step not yet complete; STRAP and SETTLE_HELD (R29, R412). -/
def State.bringupStep (s : State) : Nat :=
  if s.modes.strapError then 0x0B
  else
    match ((List.range 10).map (· + 1)).find? fun n => !s.modes.steps.toNat.testBit n with
    | some 2 => if s.modes.settleN then 0x0C else 2
    | some n => n
    | none => 0x0A

/-- GROOM_STATE codes (Table 14.10). -/
def GroomRun.code : GroomRun → Nat
  | .reset => 0 | .loading => 1 | .authenticating => 2 | .running => 3 | .waite => 4 | .halted => 5 | .faulted => 6
  | .authFailed => 7 | .stopped => 8

/-- SOURCE_STATE (Table 12.8). -/
def Source.code (x : Source) : Nat :=
  (match x.st with | .idle => 0 | .pending => 1 | .active => 2) + (if x.rearm then 4 else 0) + (if x.level then 8 else 0)

/-- Level numbers of Tables 11.11: Board 1, Host 2, Guest 3, Groom 4. -/
def levelNum : Level → Nat
  | .board => 1 | .host => 2 | .guest => 3 | .groom => 4 | .jtag => 5

/-- DICT_LOCK as it reads (Table 11.11). -/
def Lock.code (l : Lock) : Nat :=
  (match l.holder with | none => 0 | some _ => if l.committing then 2 else 1) <<< 24
    + (match l.holder with | none => 0 | some v => levelNum v) <<< 16 + l.result <<< 8 + l.staged.length

/-- The lock of an area. -/
def State.lock (s : State) (a : Nat) : Lock := Assoc.getD s.dict.locks a {}

/-- Write a lock. -/
def State.setLock (s : State) (a : Nat) (l : Lock) : State :=
  s.withDict { s.dict with locks := Assoc.putD s.dict.locks a {} l }

/-- Alarms pushed and not acknowledged (R461). -/
def State.unacked (s : State) : Nat := (s.bridle.alarms.filter fun a => a.pushed.isSome && !a.acked).length

/-- BUS_STATUS (Table 11.12). -/
def State.busStatus (s : State) : Nat :=
  let en := (s.obj Obj.busEnable).toNat
  let st := fun (b : Bus) (on : Bool) => if on then b.state else 3
  st s.bridle.busA (en.testBit 0) + st s.bridle.busB (en.testBit 1) * 4 + en % 4 * 16

/-- Home slice of a request; none for a Barrier and for a window access. -/
def State.sliceOfReq (s : State) (r : Req) : Option Nat :=
  if r.opcode = 0x18 ∨ inWindow r.addr.toNat then none else some (sliceOf (homeOf r.addr.toNat s.domainSize).2)

/-- General trackers that have passed to promoted requests of a slice and wait for their admission (R227), with their requests. -/
def State.passed (s : State) (sl : Nat) : List (Nat × Req) :=
  (s.ports.queues.flatMap fun (x : Nat × List QReq) =>
      x.2.filterMap fun y => if s.sliceOfReq y.req == some sl then y.tracker.map (·, y.req) else none)
    ++ s.ports.replay.flatMap fun (x : Nat × List Refused) =>
      x.2.filterMap fun y => if s.sliceOfReq y.req == some sl then y.tracker.map (·, y.req) else none

/-- The numbers of those trackers. -/
def State.passedTrackers (s : State) (sl : Nat) : List Nat := (s.passed sl).map (·.1)

/-- Trackers in use in a slice: one that has passed to a promoted request is not free (R222). -/
def State.trackersIn (s : State) (sl : Nat) : Nat :=
  (s.home.txns.filter fun t => t.slice == sl && t.tracker.isSome).length + (s.passedTrackers sl).length

/-- Longest wait list. -/
def State.longestWait (s : State) : Nat :=
  let ws := s.home.txns.filter fun t => t.phase == .waiting || t.phase == .reserved
  ws.foldl (fun m t => max m (ws.filter fun u => u.line == t.line).length) 0

/-- The value object `k` holds, as a LIVE read returns it. -/
def State.live (s : State) (k : Nat) : Reg :=
  let i := k / 256
  let sub := k % 256
  let n : Option Nat :=
    if k = Obj.strideCount then some s.now
    else if k = Obj.epochPhase then some s.epochPhase
    else if k = Obj.domainSize then some s.domainSize
    else if k = Obj.domainIndex then some s.domainIndex
    else if k = Obj.domainLeader then some (if s.leader then 1 else 0)
    else if k = Obj.partCode then some (if s.fuse.huskOff then 0x2C1 else 0x2C0)
    else if k = Obj.fusedConfig then some s.fusedConfig
    else if k = Obj.serial then some s.fuse.serial.toNat
    else if k = Obj.gaitSwapState then
      some (if (s.obj k).toNat = 3 ∧ s.now ≤ s.gait.commitAt then 2 else (s.obj k).toNat)
    else if k = Obj.nodeId then some s.bridle.nodeId
    else if k = Obj.nodeStatus then some (if s.bridle.nodeId = 0 ∨ s.bridle.nodeId = 0x3F then 1 else 0)
    else if k = Obj.windowBase then some (windowBase s.domainIndex)
    else if i = 0x1004 then some (s.lock (sub - 1)).code
    else if k = Obj.busStatus then some s.busStatus
    else if k = Obj.alarmsUnacked then some s.unacked
    else if k = Obj.partHeld then some (s.dict.partHeld.foldl (fun l x => Assoc.put x.1 x.2 l) s.dict.partDue).length
    else if k = Obj.hullOccupancy then some s.tiers.hull.length
    else if k = Obj.dirOccupancy then some s.home.dir.length
    else if k = Obj.trackersInUse then some (((List.range 16).map s.trackersIn).foldl (· + ·) 0)
    else if 0x5200 ≤ i ∧ i ≤ 0x521F ∧ sub ≤ 7 then
      let l := s.link (i - 0x5200)
      some (match sub with
        | 1 => l.state.code | 2 => l.width | 3 => l.rate | 4 => l.revision | 5 => l.features.toNat
        | 6 => l.ident.toNat | _ => l.reason)
    else if 0x6010 ≤ i ∧ i ≤ 0x601B ∧ sub = 2 then some (s.pwbOccupancy (i - 0x6010))
    else if i = 0x7200 then some (s.fieldUsed (sub - 1))
    else if k = Obj.farrierQueue then some s.rel.queue.length
    else if k = Obj.waysRetired then some s.waysRetired
    else if k = Obj.regionsDisabled then some (s.offGroups 0 + s.offGroups 1 + s.dirExtra)
    else if k = Obj.kernelLinesAvail then some s.kernelAvail
    else if k = Obj.huskSectorsAvail then some s.huskAvail
    else if k = Obj.dirEntriesAvail then some s.dirAvail
    else if 0x8040 ≤ i ∧ i ≤ 0x807F then some (s.source ((i - 0x8040) * 16 + sub - 1)).code
    else if 0x8202 ≤ i ∧ i ≤ 0x8203 then some (Assoc.getD s.irq.fast ((i - 0x8202) * 16 + sub - 1) 0)
    else if 0x8300 ≤ i ∧ i ≤ 0x833F ∧ 2 ≤ sub ∧ sub ≤ 4 then
      let r := s.ring (i - 0x8300)
      some (if sub = 2 then r.fill else if sub = 3 then r.wptr else r.rptr)
    else if k = Obj.alarmLatches then some s.irq.latches.length
    else if k = Obj.groomState then some s.groom.run.code
    else if k = Obj.groomPc then some s.groom.pc.toNat
    else if k = Obj.brCount then some s.groom.brCount.toNat
    else if k = Obj.brMiss then some s.groom.brMiss.toNat
    else if k = Obj.retCount then some s.groom.retCount.toNat
    else if k = Obj.retMiss then some s.groom.retMiss.toNat
    else if k = Obj.stageOffset then some (8 * s.groom.stage.length)
    else if k = Obj.modeCurrent then some s.modes.mode.code
    else if k = Obj.dirtyLines then some (min s.dirtyLines 0xFFFFFFFF)
    else if k = Obj.resetCause then some (bitsOf (s.modes.paddock.getD 0 0).toNat 15 8)
    else if k = Obj.bringupStep then some s.bringupStep
    else if k = Obj.settlePhase then some (if s.modes.settle = 1 ∧ s.now ≤ s.modes.settleSince then 0 else s.modes.settle)
    else if i = 0xB100 then some (s.modes.paddock.getD (sub - 1) 0).toNat
    else if k = Obj.railStatus then some s.modes.rails.toNat
    else if k = Obj.strapRaw then some (s.pkg.sampled.toNat + s.bridle.nodeId)
    else if k = Obj.thermtripSeen then some (if s.pkg.thermtrip then 1 else 0)
    else none
  match n with
  | some v => BitVec.ofNat 64 v
  | none => s.obj k

/-! ### Refusals (Table 11.4) -/

/-! Refusal codes. -/

namespace Ref
abbrev noObject : Nat := 1
abbrev access : Nat := 2
abbrev reset : Nat := 3
abbrev readOnly : Nat := 4
abbrev writeOnly : Nat := 5
abbrev locked : Nat := 6
abbrev conflict : Nat := 7
abbrev length : Nat := 8
abbrev sequence : Nat := 9
abbrev range : Nat := 10
abbrev hwOwned : Nat := 11
abbrev state : Nat := 12
abbrev lockFull : Nat := 13
abbrev busy : Nat := 14
abbrev noService : Nat := 15
abbrev view : Nat := 16
end Ref

/-- Count and record a refusal at a level (R433). -/
def State.recordRefusal (s : State) (lvl : Level) (k code : Nat) : State :=
  let n := levelNum lvl - 1
  (s.bump (Obj.dictRefusals + n)).setNat (Obj.lastRefusal + n) ((s.now % 2 ^ 32) <<< 32 + (k % 2 ^ 24) <<< 8 + code)

/-- A refusal that R433 leaves uncounted: at JTAG, and of an in-band access that is answered with Error-Unmapped (R436). -/
def uncounted (lvl : Level) (code : Nat) : Bool :=
  match lvl with
  | .jtag => true
  | .host | .guest => code == Ref.noObject || code == Ref.access
  | _ => false

/-- Count and record a refusal, where R433 says so. -/
def State.refuse (s : State) (lvl : Level) (k code : Nat) : State :=
  if uncounted lvl code then s else s.recordRefusal lvl k code

/-- The access code of an object at a level (R428, R429): JTAG has Host read rights. -/
def ObjRow.acc (r : ObjRow) : Level → Acc
  | .board => r.board
  | .host => r.host
  | .guest => r.guest
  | .groom => r.groom
  | .jtag => match r.host with | .none | .wo => .none | _ => .ro

/-- Area of a key (Table 11.3). -/
abbrev areaOf (k : Nat) : Nat := k / 0x100000

/-- Objects outside every lock (R448). -/
def lockFree (k : Nat) : Bool :=
  let i := k / 256
  (0x1003 ≤ i && i ≤ 0x1005) || (0x1010 ≤ i && i ≤ 0x1012) || i == 0x1020

/-- Objects served in Reset (R409). -/
def servedInReset (k : Nat) : Bool :=
  let i := k / 256
  (0x1000 ≤ i && i ≤ 0x1FFF) || (0xB000 ≤ i && i ≤ 0xB2FF)

/-- Counters allocated to a PARTID, ascending (R511). -/
def State.guestCounters (s : State) (partid : Nat) : List Nat :=
  (s.dict.eff.filterMap fun (k, v) =>
    if Obj.ctrOwner ≤ k ∧ k < Obj.ctrOwner + 0x1000 ∧ v.toNat.testBit 15 ∧ v.toNat % 1024 = partid
    then some ((k - Obj.ctrOwner) / 256 * 16 + (k - Obj.ctrOwner) % 256) else none)

/-- The counter that GUEST_* sub-index `j` names (R511). -/
def State.guestCounter (s : State) (partid k : Nat) : Option Nat := (s.guestCounters partid)[k % 256 - 1]?

/-- The objects of R511. -/
def guestObject (k : Nat) : Bool := 0x9500 ≤ k / 256 && k / 256 ≤ 0x9502

/-- Checks NO_OBJECT to READ_ONLY and LOCKED of a write (Table 11.4, in order); 0: passed. -/
def State.checkWrite (s : State) (lvl : Level) (k : Nat) (v : Nat) (partid : Nat) : Nat :=
  match objRow k with
  | none => Ref.noObject
  | some r =>
    let a := r.acc lvl
    let area := areaOf k
    if guestObject k && a != .none && (s.guestCounter partid k).isNone then Ref.noObject
    else if a = .none then Ref.access
    else if (lvl = .host ∨ lvl = .guest) ∧ !(s.eff Obj.hostAreas).testBit area then Ref.access
    else if lvl = .groom ∧ !(s.eff Obj.groomAreas).testBit area then Ref.access
    else if lvl = .jtag then Ref.access
    else if lvl = .groom ∧ k = Obj.snapshotCommand ∧ v % 256 ≠ 1 then Ref.access
    else if k = Obj.swRaise ∧
        !(if lvl = .groom then 0x240 ≤ v % 1024 && v % 1024 ≤ 0x27F else 0x280 ≤ v % 1024 && v % 1024 ≤ 0x2FF) then
      Ref.access
    else if s.modes.mode = .test ∧ area = 0xC then Ref.access
    else if s.modes.mode = .reset ∧ !servedInReset k then Ref.reset
    else if a = .ro ∨ a = .rc then Ref.readOnly
    else
      match (s.lock area).holder with
      | some h => if h ≠ lvl ∧ !lockFree k then Ref.locked else 0
      | none => 0

/-- Bytes of a type (Table 11.1). -/
def ObjTy.bytes : ObjTy → Nat
  | .u8 | .bool | .enum8 => 1 | .u16 => 2 | .u32 => 4 | .u64 | .blob => 8

/-- The value within its type's size (Table 11.1: bits above the size are ignored; the range of a BOOL is that of its row). -/
def ObjTy.clip : ObjTy → Nat → Nat
  | .u8, v => v % 2 ^ 8
  | .u16, v => v % 2 ^ 16
  | .u32, v => v % 2 ^ 32
  | .bool, v => v % 2 ^ 8
  | .enum8, v => v % 2 ^ 8
  | _, v => v % 2 ^ 64

/-- A clipped value is in the row's range (R427). -/
def Rng.ok : Rng → Nat → Bool
  | .any, _ => true
  | .between lo hi, v => decide (lo ≤ v) && decide (v ≤ hi)
  | .zeroOr lo hi, v => v == 0 || (decide (lo ≤ v) && decide (v ≤ hi))
  | .oneOf l, v => l.contains v
  | .mask _, _ => true
  | .pa4k, v => decide (v < 2 ^ 52) && v % 4096 == 0
  | .quota, v => decide (v / 2 ^ 16 ≤ 24576) && decide (v % 2 ^ 16 ≤ 8192)
  | .marks, v => (List.range 4).all fun r => decide (v / 2 ^ (8 * r) % 16 ≤ 9)

/-- The bits of an accepted value that are stored (R15). -/
def Rng.keep : Rng → Nat → Nat
  | .mask m, v => v &&& m
  | .marks, v => v &&& 0x8F8F8F8F
  | _, v => v

/-- Values outside the row's range that the object's own rule names and refuses with STATE (R432). -/
def ownRange (k v : Nat) : Bool :=
  k == Obj.gaitSwapCommit || (k == Obj.gaitLoadBank && v == 0) ||
    (k == Obj.modeRequest && [0, 2, 3, 10].contains v)

/-- The RANGE check (Table 11.4), with the rows whose range another rule gives: SCRUB_RATE (R80), CTR_EVENT (R493,
R510), SOURCE_CONFIG (R466), MAINT_LIMIT. -/
def State.checkRange (s : State) (k v : Nat) : Nat :=
  match objRow k with
  | none => Ref.noObject
  | some r =>
    let v := r.ty.clip v
    let i := k / 256
    if ownRange k v then 0
    else if !r.rng.ok v then Ref.range
    else if Obj.scrubRate ≤ k ∧ k < Obj.scrubRate + 4 then
      match Assoc.find? (s.obj Obj.gaitActive).toNat s.gait.banks with
      | some g => if v ≤ 256 * g.scrubSlots (k - Obj.scrubRate) then 0 else Ref.range
      | none => 0
    else if k = Obj.maintLimit then (if (s.obj Obj.maintBase).toNat < v then 0 else Ref.range)
    else if 0x8000 ≤ i ∧ i ≤ 0x803F then
      let n := (i - 0x8000) * 16 + k % 256 - 1
      let levelOk := (0x40 ≤ n && n ≤ 0x4F) || (0x280 ≤ n && n ≤ 0x2FF)
      if (v.testBit 29 && !levelOk) || (alarmSource n && (v % 64 ≥ 4 || !v.testBit 6)) then Ref.range else 0
    else if 0x9110 ≤ i ∧ i ≤ 0x911F then
      let n := (i - 0x9110) * 16 + k % 256 - 1
      let ev := v % 4096
      let grp := ev / 256
      let ok := if 2 ≤ grp ∧ grp ≤ 4 then decide (ev / 16 % 16 ≤ 4) && classAllowed (ev / 16 % 16) (ev % 16)
        else match grp with
          | 0 => decide (ev ≤ 6) | 1 => decide (ev % 256 ≤ 8) | 5 => decide (ev % 256 ≤ 7)
          | 6 => decide (ev % 256 ≤ 5) | 7 => decide (ev % 256 ≤ 6) | 8 => decide (ev % 256 ≤ 3)
          | 9 => decide (ev % 256 ≤ 6) | 10 => decide (ev % 256 ≤ 4) | 11 => decide (ev % 256 ≤ 1) | _ => false
      let attrR := grp == 0 || grp == 1 || grp == 10 || [0x500, 0x507, 0x600, 0x601].contains ev
      let owner := s.eff (arr16 Obj.ctrOwner n)
      let alloc := owner.testBit 15
      if !ok || (v.testBit 30 && (n == 0 || s.eff (arr16 Obj.ctrOwner (n - 1)) != owner))
          || (v.testBit 29 && (n ≥ 8 || alloc || !attrR)) || (alloc && !attrR) then Ref.range else 0
    else 0

/-! ### Storing an accepted write -/

/-- Objects whose accepted value does not take effect at the next stride boundary: their rule reads `vals` at its own
time (R43, R141, R281, R358, R453, and command-like objects). -/
def lateObject (k : Nat) : Bool :=
  [Obj.strideSyncDelay, Obj.lfsrSeedMode, Obj.lfsrSeed, Obj.keyIndex, Obj.bridleNominal, Obj.bridleData,
    Obj.gaitBootBank, Obj.bootMode, Obj.bistOnSettle].contains k || (0x5100 ≤ k / 256 && k / 256 ≤ 0x510F)

/-- Store an accepted value: reads return it from now on, and it takes effect at the first stride boundary (R431), an object that no lock
stages at once (R448). -/
def State.store (s : State) (k v : Nat) : State :=
  match objRow k with
  | none => s
  | some r =>
    let v := BitVec.ofNat 64 (r.rng.keep (r.ty.clip v))
    let s := s.setObj k v
    if lateObject k then s
    else if lockFree k then s.setEff k v
    else s.withDict { s.dict with pending := s.dict.pending ++ [(k, v)] }

/-! ### Reading -/

/-- Occupancy that a peak restarts from (R440). -/
def State.peakNow (s : State) (k : Nat) : Nat :=
  if k = Obj.hullPeak then s.tiers.hull.length
  else if k = Obj.dirPeak then s.home.dir.length
  else if k = Obj.trackerPeak then ((List.range 16).map s.trackersIn).foldl max 0
  else if k = Obj.waitlistPeak then s.longestWait
  else if k = Obj.dieTempPeak then (s.obj Obj.dieTemp).toNat
  else if 0x6010 ≤ k / 256 ∧ k / 256 ≤ 0x601B then s.pwbOccupancy (k / 256 - 0x6010)
  else 0

/-- The word at RING_RPTR (R482); zero where none is committed. -/
def Ring.word (x : Ring) : Reg :=
  match x.records with
  | [] => 0
  | y :: _ => y.word y.read

/-- Advance RING_RPTR past the word read (R482). -/
def Ring.advance (x : Ring) : Ring :=
  match x.records with
  | [] => x
  | y :: ys =>
    if y.read + 1 < y.len then { x with records := { y with read := y.read + 1 } :: ys, rptr := (x.rptr + 1) % 4096 }
    else { x with records := ys, rptr := (x.rptr + 1) % 4096 }

/-- What a ring's advance lets happen: latches are written, a log ring leaves summarising, and acknowledged alarms of
records no longer in a ring are forgotten (R484 to R486). -/
def State.afterAdvance (s : State) (r : Nat) : State := (s.leaveSummary r).flushLatches r

/-- Value of a view of an object that exists, with refusal VIEW (R439); `lvl` decides what a Guest's ranks name. -/
def State.viewValue (s : State) (row : ObjRow) (k : Nat) (v : View) (partid : Nat) : Nat × Reg :=
  let k' := match guestObject k, s.guestCounter partid k with
    | true, some n => if k / 256 = 0x9501 then arr16 Obj.ctrEvent n else arr16 Obj.ctrValue n
    | _, _ => k
  let live : Reg :=
    match row.kind with
    | .ring => (s.ring (k / 256 - 0x8300)).word
    | _ =>
      if k / 256 = 0x9501 then s.live k' &&& 0x80000FFF
      else if k / 256 = 0x9502 then Assoc.getD s.dict.holding k' 0
      else s.live k'
  match v with
  | .live | .peek => (0, live)
  | .fallback =>
    match row.kind with
    | .plain => (0, live)
    | .ring => (0, 0)
    | _ => (0, Assoc.getD s.dict.fallback k 0)
  | .snapshot =>
    match row.kind with
    | .plain => (Ref.view, 0)
    | .ring => (0, 0)
    | _ => (0, Assoc.getD s.dict.holding k 0)

/-- Clear what an RC read returned (R440); RING_READ advances instead (R482). -/
def State.readClear (s : State) (row : ObjRow) (k : Nat) : State :=
  match row.kind with
  | .ring =>
    let r := k / 256 - 0x8300
    (s.setRing r (s.ring r).advance).afterAdvance r
  | .peak => s.setNat k (s.peakNow k)
  | _ => s.setObj k 0

/-- A read of an object in a view at a level, through the checks of Table 11.4: the refusal code (0 accepted), the
value, and the state after clearing. Refusals are not yet recorded. -/
def State.readObj (s : State) (lvl : Level) (k : Nat) (view : View) (partid : Nat) : Nat × Reg × State :=
  match objRow k with
  | none => (Ref.noObject, 0, s)
  | some r =>
    let a := r.acc lvl
    if guestObject k && a != .none && (s.guestCounter partid k).isNone then (Ref.noObject, 0, s)
    else if a = .none then (Ref.access, 0, s)
    else if lvl = .jtag ∧ areaOf k = 0xC then (Ref.access, 0, s)
    else if s.modes.mode = .test ∧ areaOf k = 0xC then (Ref.access, 0, s)
    else if s.modes.mode = .reset ∧ !servedInReset k then (Ref.reset, 0, s)
    else if a = .wo then (Ref.writeOnly, 0, s)
    else
      let view := if lvl = .jtag then .peek else view
      let (code, v) := s.viewValue r k view partid
      if code ≠ 0 then (code, 0, s)
      else if a = .rc ∧ view = .live then (0, v, s.readClear r k)
      else (0, v, s)

/-- A read that records its refusal (R433). -/
def State.readRecorded (s : State) (lvl : Level) (k : Nat) (view : View) (partid : Nat) : Nat × Reg × State :=
  let (c, v, s') := s.readObj lvl k view partid
  if c = 0 then (0, v, s') else (c, 0, s'.refuse lvl k c)

/-- A write of the level to the object is staged under its lock (R448): RW objects of the locked area that are not
BLOBs and lie inside the lock. -/
def State.stages (s : State) (lvl : Level) (k : Nat) : Bool :=
  match objRow k with
  | none => false
  | some r => (s.lock (areaOf k)).holder == some lvl && !lockFree k && r.acc lvl == .rw && r.ty != .blob

/-- Stage a write, or refuse it with LOCK_FULL (R448). -/
def State.stage (s : State) (lvl : Level) (k v : Nat) : Nat × State :=
  let l := s.lock (areaOf k)
  if l.staged.length < 64 then
    (0, s.setLock (areaOf k) { l with staged := l.staged ++ [⟨lvl, k, BitVec.ofNat 64 v⟩], at_ := s.now })
  else (Ref.lockFull, s.refuse lvl k Ref.lockFull)

/-- A write of the holder to its locked area restarts LOCK_TIMEOUT (R450). -/
def State.touchLock (s : State) (lvl : Level) (k : Nat) : State :=
  let l := s.lock (areaOf k)
  if l.holder = some lvl then s.setLock (areaOf k) { l with at_ := s.now } else s

/-- Run an object's own rule after the checks of Table 11.4; the rule answers its refusal code (R432). -/
def State.guarded (s : State) (lvl : Level) (k v partid : Nat) (own : State → Nat × State) : Nat × State :=
  let c := s.checkWrite lvl k v partid
  let c := if c ≠ 0 then c else s.checkRange k v
  if c ≠ 0 then (c, s.refuse lvl k c)
  else if s.stages lvl k then s.stage lvl k v
  else
    let (c, s') := own s
    if c = 0 then (0, s'.touchLock lvl k) else (c, s'.refuse lvl k c)

/-- Answer a command that is an access at a level: the refusal code and value go back to it. -/
def State.answer (s : State) (lvl : Level) (k code : Nat) (v : Reg) : State := s.emit (.answer lvl k code v)

/-- The state after a guarded write, answered. -/
def State.writeWith (s : State) (lvl : Level) (k v : Nat) (own : State → Nat × State) : State :=
  let (c, s') := s.guarded lvl k v 0 own
  s'.answer lvl k c 0

end Sys2Proof.Machine
end

