-- ==== Sys2Proof/Machine/Ledger.lean ====
section
/-!
DEFINITION. The slot ledger (R70 to R74, R337, R339): which slots of this stride and the next four are booked, the
search for a slot that a piece of work may book, and the release of bookings. Times are FCLK cycles since the first
stride of Bring-up.
-/
namespace Sys2Proof.Machine

/-! What a booking is for. -/

namespace Leg
abbrev tag : Nat := 0
abbrev bank : Nat := 1
/-- The Husk data port and, in the same slot, its check port (R346). -/
abbrev husk : Nat := 2
/-- A DDR5 slot that moves no line of the DRAM: a posted write buffer entry serves it (R28), or a refresh takes it (R79). -/
abbrev buffer : Nat := 3
abbrev ddr5 : Nat := 4
/-- Egress slots of a read for its three outcomes (R71). -/
abbrev outKernel : Nat := 5
abbrev outHusk : Nat := 6
abbrev outDdr5 : Nat := 7
/-- Egress slot of any other response. -/
abbrev out : Nat := 8
/-- A slot that work has taken without a booking (R51). -/
abbrev taken : Nat := 9
end Leg

/-- The active gait. -/
def State.activeGait (s : State) : Option GaitSrc := Assoc.find? (s.obj Obj.gaitActive).toNat s.gait.banks

/-- The gait that governs stride `t`: the new one from the switch stride of a commit on, which the ledger knows from the stride
after the commit on (R90). -/
def State.gaitAt (s : State) (t : Nat) : Option GaitSrc :=
  match s.gait.switchAt, s.gait.armBank with
  | some sw, some b => if sw ≤ t ∧ s.gait.commitAt < s.now then Assoc.find? b s.gait.banks else s.activeGait
  | _, _ => s.activeGait

/-- A port half is trained and up. -/
def State.halfUp (s : State) (h : Nat) : Bool :=
  match (s.link h).state with
  | .active | .retrain | .quiescing => true
  | _ => false

/-- Partition class of a PARTID (R144, PARTCLASS_MAP in force). -/
def State.partClass (s : State) (partid : Nat) : Nat :=
  (s.eff (arr16 Obj.partclassMap (partid / 8)) >>> (partid % 8 * 8)) % 64

/-- The gaits that govern this stride and the strides that the ledger reaches (R90). -/
def State.gaitsAhead (s : State) : List GaitSrc :=
  (s.gaitAt s.now).toList ++ match s.gait.switchAt with
    | some sw => if s.now < sw ∧ sw ≤ s.now + 4 then (s.gaitAt sw).toList else []
    | none => []

/-- A half and partition class belong to contract group `n` of a gait (R58). -/
def GaitSrc.member (g : GaitSrc) (n half pc : Nat) : Bool :=
  match g.group n with
  | some (halves, parts) => halves.testBit half && parts.testBit pc
  | none => false

/-- The contract groups that a request of a half and PARTID belongs to under a gait that the ledger reaches, ascending; the
common group where it belongs to none (R58, R59, R90). DESIGN CHOICE (log entry 130): membership is read in the gait that governs
each slot's stride (State.canBook). -/
def State.groupsOf (s : State) (half partid : Nat) : List Nat :=
  let gs := s.gaitsAhead
  let l := ((List.range 0xEE).map (· + 0x10)).filter fun n => gs.any fun g => g.member n half (s.partClass partid)
  if l.isEmpty then [1] else l

/-- Work of a group matches a slot's owner (R50). -/
def ownerMatches (owner grp : Nat) (promoted : Bool) : Bool :=
  owner == 1 || owner == grp || (owner == 0xFE && promoted)

/-- A search for a slot. -/
structure Want where
  kind : Nat
  row : Nat
  cls : Nat
  grp : Nat := 1
  promoted : Bool := false
  /-- Cycle at which the work arrives. -/
  arrive : Nat
  half : Nat := 32
  /-- Partition class of the work's PARTID, for its group under the gait that governs a slot (R90). -/
  pc : Nat := 0
  /-- Eighths of the slot that it takes (R20). -/
  size : Nat := 8
  /-- A promoted request may take a Spur slot (R70). -/
  spur : Bool := false
  /-- No horizon applies (R72, R209). -/
  free : Bool := false
  /-- Number of the transaction that it is done for, where older look-ups go before it (R51). -/
  age : Option Nat := none
  /-- DRAM address on a DDR5 row. -/
  dram : Option DramAddr := none
  /-- Frame and line on a Husk data port (R110). -/
  place : Option (Nat × Nat) := none
deriving DecidableEq, Repr

/-- log2 of the ranks per channel, and the row bits (R336). -/
def State.rankBits (s : State) : Nat :=
  let n := s.eff Obj.memDpc * s.eff Obj.memRanks
  if n = 4 then 2 else if n = 2 then 1 else 0

/-- Row bits (R336). -/
def State.rowBits (s : State) : Nat := if s.eff Obj.memDensity = 2 then 17 else 16

/-- `dram_decode` of a local address (R336). -/
def State.dram (s : State) (la : Nat) : DramAddr := dramDecode (caOf la) s.rankBits s.rowBits

/-- A bank's number in a channel: rank · 32 + bank group · 4 + bank. -/
def DramAddr.number (d : DramAddr) : Nat := d.rank * 32 + d.bg * 4 + d.bank

/-- Refresh state of a (channel, rank), or of 64 + a Husk port. -/
def State.refresh (s : State) (k : Nat) : Refresh := Assoc.getD s.mem.refresh k {}

/-- Refreshes of a rank and bank index as the cycles in which they begin: issued, and fixed (R339). -/
def State.refreshTimes (s : State) (ch rank bank : Nat) : List Nat :=
  let r := s.refresh (ch * 4 + rank)
  ((r.busy ++ r.plan).filter fun p => p.2 == bank).map (·.1)

/-- A bank is refresh-busy in a cycle (R339). -/
def State.refreshBusy (s : State) (ch : Nat) (d : DramAddr) (t : Nat) : Bool :=
  (s.refreshTimes ch d.rank d.bank).any fun b => decide (b ≤ t) && decide (t < b + Config.tRfcSb)

/-- Address of line `n` of a Husk set's frame in the device of its data port (R110). -/
def huskAddr (hset n : Nat) : Nat := hset * 4096 + n * 128

/-- Channel and channel offset of the check entry of line `n` of frame `f` of data port `j` on its check port (R345). -/
def checkAddr (j f n : Nat) : Nat × Nat := (j % 8 / 2, ((f * 32 + n) * 2 + j % 2) * 16)

/-- A refresh makes the bank of a Husk port's channel offset busy in a cycle (R339, R348). -/
def State.huskBusy (s : State) (port offset t : Nat) : Bool :=
  let r := s.refresh (64 + port)
  (r.busy ++ r.plan).any fun b => b.2 == Config.huskBank offset % 16 && decide (b.1 ≤ t) && decide (t < b.1 + Config.tRfcPb)

/-- A slot at cycle `t` is free for line `n` of frame `f` of a data port, on it and on its check port (R339, R346, R348). -/
def State.huskLegal (s : State) (port : Nat) (x : Nat × Nat) (t : Nat) : Bool :=
  !s.huskBusy port (huskAddr x.1 x.2 / 4) t && !s.huskBusy (checkPort port) (checkAddr port x.1 x.2).2 t

/-- What the channel's slots of the last strides did and its booked slots will do, with the precharges planned (R337,
R338). -/
def State.channelUses (s : State) (ch : Nat) : List Config.DramUse :=
  ((s.gait.ledger.filter fun b => b.kind == 3 && b.row == 2 * ch && b.purpose != Leg.buffer).map fun b =>
    { cycle := b.stride * 64 + slotCycle 3 b.slot, bank := b.bank, row := b.dramRow, write := b.write })
  ++ (s.mem.precharges.filter fun p => p.1 == ch).map fun p => { cycle := p.2.1, bank := p.2.2, row := 0, precharge := true }

/-- A DDR5 slot at cycle `t` is free for an access in the sense of R337 and R339. -/
def State.ddr5Legal (s : State) (ch : Nat) (d : DramAddr) (write : Bool) (t : Nat) : Bool :=
  let earlier := s.channelUses ch
  (earlier.isEmpty || Config.ddr5SlotLegal earlier { cycle := t, bank := d.number, row := d.row, write := write })
    && !s.refreshBusy ch d t

/-- Duration of a burst in tenths of a nanosecond at a speed (Table 8.3). -/
def burstTenths (speed : Nat) : Nat := if speed = 3 then 18 else if speed = 2 then 25 else 29

/-- A slot entry moves data (R331). -/
def GaitSrc.movesData (g : GaitSrc) (e : SlotEntry) : Bool :=
  e.cls != Cls.idle && (e.cls != Cls.rf || !(g.chain 3 e.spill).isEmpty)

/-- Largest lag of DDR5 slot `k`, in tenths of a nanosecond: every data-moving slot of two strides used (R331). -/
def GaitSrc.lag (g : GaitSrc) (row k speed : Nat) : Nat :=
  if speed = 3 then 0
  else
    let walk := (List.range 32).foldl (fun (acc : Nat × Nat) i =>
      let (done, lag) := acc
      if g.movesData (g.entry 3 row (i % 16)) then
        let start := max (20 * i) done
        (start + burstTenths speed, if i % 16 = k then start - 20 * i else lag)
      else acc) (0, 0)
    walk.2

/-- A slot is booked or taken. -/
def State.booked (s : State) (kind row stride slot : Nat) : Bool :=
  s.gait.ledger.any fun b => b.kind == kind && b.row == row && b.stride == stride && b.slot == slot

/-- A slot has `size` eighths left: short messages share an egress slot of their link (R20). -/
def State.room (s : State) (kind row stride slot size : Nat) : Bool :=
  decide (((s.gait.ledger.filter fun b => b.kind == kind && b.row == row && b.stride == stride && b.slot == slot).foldl
    (fun n b => n + b.size) 0) + size ≤ 8)

/-- Eighths of a slot that a move takes on a row: a check port's slot makes the moves of its eight data ports (R346). -/
def rowShare (kind row size : Nat) : Nat := if kind == 2 && decide (16 ≤ row) then 1 else size

/-- Member halves of a group that are trained and up. -/
def State.activeMembers (s : State) (g : GaitSrc) (grp : Nat) : Nat :=
  match g.group grp with
  | some (halves, _) => max 1 ((setBits halves 32).filter s.halfUp).length
  | none => 1

/-- The member quota of R73 lets `half` book the slot: less than ⌈n/m⌉ of the group's own slots of the class are its in
that stride, or it is the cycle 8 cycles before the slot begins, or a later one. -/
def State.memberQuota (s : State) (g : GaitSrc) (now : Nat) (w : Want) (stride k : Nat) : Bool :=
  let own := g.slotsWith 0 w.row fun e => e.owner == w.grp && e.cls == w.cls
  let mine := (s.gait.ledger.filter fun b =>
    b.kind == 0 && b.row == w.row && b.stride == stride && b.half == w.half && own.contains b.slot).length
  decide (mine < ceilDiv own.length (s.activeMembers g w.grp)) || decide (stride * 64 + k ≤ now + 8)

/-- Spacing `d` of the egress slots that a link carries, 0 where it has not trained (Table 7.1, R284). -/
def Link.spacing (l : Link) : Nat := if l.width = 0 then 0 else 32 / (l.width * (if l.rate = 2 then 2 else 1))

/-- A half's link carries egress slot `k` of stride `t` of its port's row (R284): a resend suspends its slots (R306). -/
def State.carries (s : State) (half t k : Nat) : Bool :=
  let l := s.link half
  let d := l.spacing
  let c := t * 64 + slotCycle 4 k
  !(decide (l.pause.1 ≤ c) && decide (c < l.pause.2)) && d != 0 && k % d == (if s.ports.split.toNat.testBit (half / 2) then half % 2 else 0)

/-- A link is reduced: it carries fewer slots than 28 unsplit, or 14 as a half (R284). -/
def State.reduced (s : State) (half : Nat) : Bool :=
  (s.link half).spacing != (if s.ports.split.toNat.testBit (half / 2) then 2 else 1)

/-- A class moves data towards the device on DDR5 rows (Table 2.3). -/
def writeClass (cls : Nat) : Bool := cls == Cls.dw || cls == Cls.wb || cls == Cls.fl || cls == Cls.mt

/-- Slot `k` of stride `t` may be booked for `w` at cycle `now`: it is of the work's class and matches its group under the gait
that governs the stride (R50, R70, R90), begins within the HORIZON (R70, R71, R331), has room (R20), and on Husk and DDR5 rows
begins more than 16 cycles from now unless the work is at the resource (R74). -/
def State.canBook (s : State) (now : Nat) (w : Want) (t k : Nat) : Bool :=
  match s.gaitAt t with
  | none => false
  | some g =>
    let e := g.entry w.kind w.row k
    let start := t * 64 + slotCycle w.kind k
    let spur := w.spur && w.promoted && e.cls == Cls.sp
    let wait := start - w.arrive
    let d := if w.kind = 3 then ceilDiv (wait * 5 + g.lag w.row k g.speed) 5 else wait
    let anyWork := w.kind == 4 && s.reduced w.half
    decide (w.arrive ≤ start)
      && (anyWork || e.cls == w.cls || spur)
      && (anyWork || ownerMatches e.owner w.grp w.promoted)
      && (anyWork || decide (e.owner ≠ w.grp ∨ w.grp < 0x10) || g.member w.grp w.half w.pc)
      && (w.free || g.within w.kind w.cls d || (w.spur && w.promoted && g.within 0 Cls.sp d))
      && s.room w.kind w.row t k w.size
      && (decide (w.kind ≠ 2 ∧ w.kind ≠ 3) || decide (now + 16 < start) || decide (w.arrive ≤ now))
      && (decide (w.kind ≠ 4) || s.carries w.half t k)
      && (decide (w.kind ≠ 0 ∨ e.owner ≠ w.grp ∨ w.grp < 0x10) || s.memberQuota g now w t k)
      && (match w.dram with | some a => s.ddr5Legal (w.row / 2) a (writeClass w.cls) start | none => true)
      && (match w.place with | some x => s.huskLegal w.row x start | none => true)

/-- The first slot of this stride and the next four that may be booked (R70). -/
def State.findSlot (s : State) (now : Nat) (w : Want) : Option (Nat × Nat) :=
  (List.range 5).findSome? fun i =>
    ((List.range (slotsOf w.kind)).find? fun k => s.canBook now w (s.now + i) k).map fun k => (s.now + i, k)

/-- Write a booking. -/
def State.book (s : State) (b : Booking) : State := s.withGait { s.gait with ledger := s.gait.ledger ++ [b] }

/-- The booking that work `id` makes for a search, of slot `k` of stride `t` of a row. -/
def Want.booking (w : Want) (row t k id purpose : Nat) : Booking :=
  { kind := w.kind, row := row, stride := t, slot := k, work := id, half := w.half, purpose := purpose,
    bank := match w.dram with | some a => a.number | none => 0,
    dramRow := match w.dram with | some a => a.row | none => 0,
    write := writeClass w.cls, size := w.size }

/-- Book the first slot that `w` may have, for work `id`; answers the slot's first cycle. -/
def State.bookFirst (s : State) (now id purpose : Nat) (w : Want) : Option (Nat × State) :=
  (s.findSlot now w).map fun (t, k) =>
    (t * 64 + slotCycle w.kind k, s.book (w.booking w.row t k id purpose))

/-- Release the bookings of work `id` whose purpose is not kept (R72). -/
def State.release (s : State) (id : Nat) (keep : List Nat) : State :=
  s.withGait { s.gait with ledger := s.gait.ledger.filter fun b => b.work != id || keep.contains b.purpose }

/-- Release every booking of work `id`. -/
def State.releaseAll (s : State) (id : Nat) : State := s.release id []

/-- The booking of work `id` for a purpose. -/
def State.bookingOf (s : State) (id purpose : Nat) : Option Booking :=
  s.gait.ledger.find? fun b => b.work == id && b.purpose == purpose

/-- First cycle of a booking. -/
def Booking.cycle (b : Booking) : Nat := b.stride * 64 + slotCycle b.kind b.slot

/-- Strides for which what a DDR5 slot did is kept for the timing constraints of later slots (log entry 118). -/
abbrev dramHistory : Nat := 8

/-- Forget the bookings of strides that are past; what DDR5 slots did counts for later slots (R337), and egress work of a suspended
link has still to move (R306). -/
def State.pruneLedger (s : State) : State :=
  let keep := fun (b : Booking) => decide (s.now ≤ b.stride) || (b.kind == 3 && decide (s.now ≤ b.stride + dramHistory))
    || (b.kind == 4 && (s.link b.half).suspended.isSome)
  let s := s.withGait { s.gait with ledger := s.gait.ledger.filter keep }
  s.withMem { s.mem with precharges := s.mem.precharges.filter fun p => decide (s.now ≤ p.2.1 / 64 + dramHistory) }

/-- Cycles from a DDR5 slot to the line's arrival at the port (steps 8 to 15 of Table 1.4 at the speed, R332), with the
largest lag of the slot (R331). -/
def GaitSrc.ddr5Tail (g : GaitSrc) (row k : Nat) : Nat := ceilDiv (615 + burstTenths g.speed + g.lag row k g.speed) 5

/-- The same for the slot that begins in cycle `b`. -/
def State.ddr5Tail (s : State) (row b : Nat) : Nat :=
  match s.gaitAt (b / 64) with
  | some g => g.ddr5Tail row (b % 64 / 4)
  | none => 127

end Sys2Proof.Machine
end

