-- ==== Sys2Proof/Machine/Shared.lean ====
section
/-!
DEFINITION. Operations that several chapters share: clearing reservation monitors (Table 6.4), held partition values
(R149), and poison that the device creates (R376).
-/
namespace Sys2Proof.Machine

/-! Causes of Table 6.4. -/

namespace Rsv
abbrev write : Nat := 1
abbrev own : Nat := 2
abbrev snoop : Nat := 3
abbrev evict : Nat := 4
abbrev maint : Nat := 5
abbrev gait : Nat := 6
abbrev partition : Nat := 7
abbrev expired : Nat := 8
abbrev intervening : Nat := 9
abbrev replaced : Nat := 10
abbrev mismatch : Nat := 11
abbrev link : Nat := 12
abbrev poison : Nat := 13
abbrev none : Nat := 14
abbrev parity : Nat := 15
end Rsv

/-- Number of a Tether queue. -/
abbrev queueId (half stream : Nat) : Nat := half * 512 + stream

/-- Clear the monitor of one queue for a cause and count it (R269). -/
def State.clearMonitor (s : State) (q cause : Nat) : State :=
  match Assoc.find? q s.ports.monitors with
  | none => s
  | some m =>
    (s.withPorts { s.ports with monitors := Assoc.drop q s.ports.monitors,
                                     cleared := Assoc.put q (cause, m) s.ports.cleared }).bump (Obj.rsvClears + cause - 1)

/-- Clear every Reserved monitor that satisfies `p` (R269). -/
def State.clearMonitors (s : State) (cause : Nat) (p : Nat → Monitor → Bool) : State :=
  (s.ports.monitors.filter fun x => p x.1 x.2).foldl (fun s x => s.clearMonitor x.1 cause) s

/-- Clear every monitor on a line (LA[41:7]). -/
def State.clearLine (s : State) (line cause : Nat) : State := s.clearMonitors cause fun _ m => m.line == line

/-- The partition objects whose writes PART_APPLY can hold (R149): 0x3200 to 0x3207 and 0x3300 to 0x3303. -/
def partitionKey (k : Nat) : Bool :=
  (decide (0x3200 ≤ k / 256) && decide (k / 256 ≤ 0x3207)) || (decide (0x3300 ≤ k / 256) && decide (k / 256 ≤ 0x3303))

/-- Partition values take effect, together (R149). -/
def State.applyParts (s : State) (l : Assoc Reg) : State :=
  if l.isEmpty then s
  else
    let s' := l.foldl (fun s (x : Nat × Reg) => if partitionKey x.1 then (s.setObj x.1 x.2).setEff x.1 x.2 else s) s
    (s'.setNat Obj.partApplyResult 1).clearMonitors Rsv.partition fun _ _ => true

/-- Every held partition value, those that a write of 0x00 to PART_APPLY is about to apply included. -/
def State.heldParts (s : State) : Assoc Reg := s.dict.partHeld.foldl (fun l x => Assoc.put x.1 x.2 l) s.dict.partDue

/-- Apply the held partition values, together (R149). -/
def State.applyHeld (s : State) : State :=
  (s.withDict { s.dict with partHeld := [], partDue := [] }).applyParts s.heldParts

/-- Discard the held partition values (R149). -/
def State.discardHeld (s : State) : State :=
  if s.heldParts.isEmpty then s
  else (s.withDict { s.dict with partHeld := [], partDue := [] }).setNat Obj.partApplyResult 2

/-- The values that stood held at a write of 0x00 to PART_APPLY take effect at the next stride boundary (R149), before the writes
accepted since then (log entry 124). -/
def State.applyDue (s : State) : State := (s.withDict { s.dict with partDue := [] }).applyParts s.dict.partDue

/-- Values held after such a write, while 0x01 was still in force, take effect at the boundary that makes it 0x00, but for the
objects `newer` written since (log entry 124). -/
def State.applyLate (s : State) (newer : List (Nat × Reg)) : State :=
  if s.eff Obj.partApply = 0 then
    (s.withDict { s.dict with partHeld := [] }).applyParts
      (s.dict.partHeld.filter fun x => !(newer.any fun y => y.1 == x.1))
  else s

end Sys2Proof.Machine
end

