-- ==== Sys2Proof/Machine/Slots.lean ====
section
/-!
DEFINITION. Who uses a slot (R51, R52, R79): the classes of requests (Table 4.5), the ready work of each row, a slot's own
work and what it spills to, the slots that work of the tiers, of the engines and of the home takes (R80, R82, R119, R213), and
the earlier slots in which booked work is served.
-/
namespace Sys2Proof

/-- Opcode of a request as a number. -/
def Req.op (r : Req) : Nat := r.opcode.toNat

end Sys2Proof

namespace Sys2Proof.Machine

/-! ### Requests -/

/-! Request opcodes (Table 4.5). -/

namespace Op
abbrev rdShared : Nat := 0x01
abbrev rdOwn : Nat := 0x02
abbrev upgrade : Nat := 0x03
abbrev rdCur : Nat := 0x04
abbrev rdRsv : Nat := 0x05
abbrev wbData : Nat := 0x08
abbrev evictClean : Nat := 0x09
abbrev wrInvAll : Nat := 0x0C
abbrev wrPartial : Nat := 0x0D
abbrev wrCond : Nat := 0x0E
abbrev atomAdd : Nat := 0x10
abbrev atomSwap : Nat := 0x11
abbrev atomCas : Nat := 0x12
abbrev atomAnd : Nat := 0x13
abbrev atomOr : Nat := 0x14
abbrev barrier : Nat := 0x18
/-- Snoops (Table 4.6). -/
abbrev snpFwdShd : Nat := 0x01
abbrev snpFwdOwn : Nat := 0x02
abbrev snpCur : Nat := 0x03
abbrev snpInv : Nat := 0x04
/-- Responses (Table 4.7). -/
abbrev comp : Nat := 0x10
abbrev compE : Nat := 0x11
abbrev invDone : Nat := 0x12
abbrev compFail : Nat := 0x13
abbrev errUnmapped : Nat := 0x20
abbrev errNotHome : Nat := 0x21
abbrev errKey : Nat := 0x22
abbrev errType : Nat := 0x23
abbrev errOpcode : Nat := 0x24
abbrev errState : Nat := 0x25
abbrev errTimeout : Nat := 0x26
end Op

/-- Read-type requests. -/
def isRead (op : Nat) : Bool := 1 ≤ op && op ≤ 5

/-- WbData and EvictClean. -/
def isEvict (op : Nat) : Bool := op == Op.wbData || op == Op.evictClean

/-- Far atomics. -/
def isAtomic (op : Nat) : Bool := Op.atomAdd ≤ op && op ≤ Op.atomOr

/-- Requests that merge at the home. -/
def isMerge (op : Nat) : Bool := op == Op.wrPartial || op == Op.wrCond || isAtomic op

/-- Requests that carry data, and reserve a posted write buffer entry (R178, R316). -/
def hasData (op : Nat) : Bool := op == Op.wbData || op == Op.wrInvAll || isMerge op

/-- Admission class (Table 4.5). -/
def admClass (op : Nat) : Nat := if isRead op then Cls.dr else if isEvict op then Cls.wb else Cls.dw

/-- Class of the egress slot of a request's response: CompData in a Demand read slot, Comp in a Demand write slot (R184). -/
def outClass (op : Nat) : Nat := if isRead op || isAtomic op then Cls.dr else Cls.dw

/-- Class of the egress slot of an error or a Refused message: the request's admission class (R184, R319). DESIGN CHOICE (log entry
140): for an eviction that of its Comp, Demand write, since egress rows carry no Writeback slot (Table 2.3). -/
def failClass (req : Nat) : Nat := if isEvict req then Cls.dw else admClass req

/-- Class of the egress slot of a response: CompE and InvDone take Demand read slots, Comp and CompFail Demand write slots,
errors those of the request's admission class (R184). -/
def rspClass (req op : Nat) : Nat :=
  if op = Op.compE ∨ op = Op.invDone then Cls.dr else if op = Op.comp ∨ op = Op.compFail then Cls.dw else failClass req

/-! ### Ready work -/

/-- An answer or a CompAck of the transaction has arrived and is not retired; a Crossing alone is retired once. -/
def Txn.arrived (t : Txn) : Bool :=
  (t.acked && !t.ackRetired) || t.snoops.any fun x =>
    !x.retired && match x.answer with
      | some .crossing => x.joined.isSome || x.crossedAt.isNone
      | some _ => true
      | none => false

/-- No older unissued entry holds the line. -/
def State.oldestOfLine (s : State) (ch line id : Nat) : Bool :=
  !((s.pwb ch).any fun e => e.line == line && decide (e.id < id))
    && !(s.tiers.hull.any fun e => e.line == line && decide (e.id < id))

/-- An entry's bank meets R337 in a slot and is not refresh-busy (R342). -/
def State.writeLegal (s : State) (ch line slot : Nat) : Bool :=
  s.ddr5Legal ch (s.dram (line * 128)) true (s.now * 64 + 4 * slot)

/-- The oldest demand-class entry that a slot may issue (R342). -/
def State.demandReady (s : State) (ch slot : Nat) : Option Pwb :=
  (s.pwb ch).find? fun e => e.demand && s.oldestOfLine ch e.line e.id && s.writeLegal ch e.line slot

/-- The oldest eviction-class entry that a slot may issue. -/
def State.evictionReady (s : State) (ch slot : Nat) : Option Pwb :=
  (s.pwb ch).find? fun e => !e.demand && s.oldestOfLine ch e.line e.id && s.writeLegal ch e.line slot

/-- The oldest Hull entry of a channel that a slot may issue: its data has been read. -/
def State.hullReady (s : State) (ch slot : Nat) : Option Hull :=
  s.tiers.hull.find? fun e => chanOf (e.line * 128) == ch && e.data.isSome && s.oldestOfLine ch e.line e.id
    && s.writeLegal ch e.line slot

/-- A tracked request may look up at its slice in a cycle (R51, R70, R209). -/
def State.lookReady (s : State) (c : Nat) (t : Txn) : Bool :=
  (t.phase == .admitted || (t.phase == .reserved && (s.bookingOf t.id Leg.tag).isSome)) && decide (t.arrive ≤ c)

/-- A staging entry of the slice is due its bank write: its way is chosen and the victim there has been read out (R125). -/
def State.bankReady (s : State) (sl : Nat) (e : Staged) : Bool :=
  e.slice == sl && (e.kind == .cleanFill || e.kind == .writeData) && e.loc.isSome &&
    !(s.tiers.staging.any fun v => v.kind == .victim && v.data.isNone && v.loc == e.loc)

/-- A victim's sector on the port is chosen and holds none of its former lines any more (R561). -/
def State.huskReady (s : State) (port : Nat) (e : Staged) : Bool :=
  match e.target with
  | some (hset, w) => portOfWay hset w == port && !(s.tiers.repl.any fun r => r.hset == hset && r.way == w)
  | none => false

/-- Ready work of a tag slice other than look-ups, by class. -/
def State.tagWork (s : State) (sl cls : Nat) : Bool :=
  if cls = Cls.sf then
    s.home.txns.any fun t => t.slice == sl && t.phase == .active && (t.arrived || t.needWay || t.waitBack)
  else if cls = Cls.fl then
    s.tiers.staging.any fun e => e.slice == sl && ((e.kind == .cleanFill && e.loc.isNone)
      || (e.kind == .victim && e.st == .clean && e.data.isSome))
  else if cls = Cls.wb then
    s.tiers.staging.any fun e => e.slice == sl && e.kind == .victim && e.st != .clean && e.data.isSome && e.target.isNone
  else if cls = Cls.ev then s.tiers.repl.any fun r => r.hset / 32768 == sl && r.left.isEmpty
  else false

/-- The slice of the maintenance engine's next line or set (R155). -/
def Maint.slice (m : Maint) : Nat :=
  match m.op with
  | .cleanInvRange | .cleanRange => sliceOf (m.next * 128)
  | _ => if m.next < 131072 then m.next / 8192 else (m.next - 131072) / 32768

/-- Sets that a slice's Drain walk covers: its Kernel sets, then its Husk sets (R407). -/
def State.walkSets (s : State) : Nat := 8192 + (if s.kernelOnly then 0 else 32768)

/-- Work of the Maintenance slots of a tag slice is under way (R82): the maintenance engine, the departure sweep, the Husk port
flush, the Drain walk, and Farrier's and the scrubber's home transactions. All of it carries group 0x02, the engines', which owns
these slots in the default gait (R50, R76; log entry 129). -/
def State.maintReady (s : State) (sl : Nat) : Bool :=
  (match s.tiers.maint with | some m => m.slice == sl | none => false)
    || (s.home.sweepLeft.any fun x => x.1 % 16 == sl && decide (0 < x.2))
    || (match s.mem.drain with
      | some d => !d.abort && d.begun.isNone && decide (Assoc.getD d.next sl 0 < 32768)
      | none => false)
    || (s.modes.mode == .drain && s.modes.drainWalk && decide (Assoc.getD s.modes.drainNext sl 0 < s.walkSets))
    || (s.rel.lost.any fun l => sliceOf (l * 128) == sl)
    || match s.rel.work with
      | some (f, .flushing) | some (f, .retiring) | some (f, .stage4) => f.place.1 == sl
      | _ => false

/-- Ready work of a row in cycle `c` for a step of a class and owner (R51): a refresh that is due in a Refresh slot, a
promoted request in a Spur slot, and otherwise work whose data and state stand at the resource. -/
def State.workReady (s : State) (kind row c cls owner : Nat) : Bool :=
  let home := owner == 1
  let engines := owner == 1 || owner == 2
  let scrub := fun k n => decide (256 ≤ Assoc.getD s.rel.credit (k * 32 + n) 0)
  let fix := fun k n => s.rel.corrections.any fun x => x.kind == k && x.row == n
  match kind with
  | 0 =>
    (s.home.txns.any fun t => t.slice == row && s.lookReady c t
        && (admClass t.req.op == cls || (cls == Cls.sp && t.promoted)) && ownerMatches owner t.group t.promoted)
      || (home && s.tagWork row cls)
      || (engines && cls == Cls.mt && s.maintReady row)
      || (engines && ((cls == Cls.sc && scrub 0 row) || (cls == Cls.mt && fix .tagSets row)))
  | 1 =>
    (home && ((cls == Cls.ev && s.tiers.staging.any fun e => e.slice == row && e.kind == .victim && e.data.isNone)
        || s.tiers.staging.any fun e => s.bankReady row e && e.cls == cls))
      || (engines && ((cls == Cls.sc && scrub 1 row) || (cls == Cls.mt && fix .kernelData row)))
  | 2 =>
    (cls == Cls.rf && (s.refresh (64 + row)).plan.any fun p => decide (p.1 ≤ c))
      || (home && ((cls == Cls.wb && s.tiers.staging.any (s.huskReady row))
        || (cls == Cls.ev && s.tiers.repl.any fun r => portOfWay r.hset r.way == row && !r.left.isEmpty)))
      || (engines && ((cls == Cls.sc && scrub 2 row) || (cls == Cls.mt && fix .husk row)))
  | 3 =>
    let ch := row / 2
    let k := c % 64 / 4
    (cls == Cls.rf && (List.range 4).any fun r => (s.refresh (ch * 4 + r)).plan.any fun p => decide (p.1 ≤ c))
      || (home && ((cls == Cls.dw && (s.demandReady ch k).isSome)
        || (cls == Cls.wb && ((s.evictionReady ch k).isSome || (s.hullReady ch k).isSome))))
      || (engines && ((cls == Cls.sc && scrub 3 ch) || (cls == Cls.mt && fix .ddr5 ch)))
  | _ => false

/-! ### The user of a slot -/

/-- Down a spill chain: a step of the work's class and owner, before which no step has ready work (R51). -/
def State.chainServes (s : State) (w : Want) (c : Nat) : List (Nat × Nat) → Bool
  | [] => false
  | (cls, owner) :: rest =>
    (cls == w.cls && ownerMatches owner w.grp w.promoted) || (!s.workReady w.kind w.row c cls owner && s.chainServes w c rest)

/-- Slot `k` of stride `t` passes down its spill chain to work `w` (R51, R79). -/
def State.spillsTo (s : State) (w : Want) (t k : Nat) : Bool :=
  match s.gaitAt t with
  | none => false
  | some g =>
    let e := g.entry w.kind w.row k
    let c := t * 64 + slotCycle w.kind k
    e.cls != Cls.idle && !s.workReady w.kind w.row c e.cls e.owner && s.chainServes w c (g.chain w.kind e.spill)

/-- The slot has room for the work, its link carries it, and its DRAM bank allows it and its Husk bank do (R20, R284, R337, R339, R348). -/
def State.slotOpen (s : State) (w : Want) (t k : Nat) : Bool :=
  s.room w.kind w.row t k w.size
    && (decide (w.kind ≠ 4) || s.carries w.half t k)
    && (match w.dram with
      | some a => s.ddr5Legal (w.row / 2) a (writeClass w.cls) (t * 64 + slotCycle 3 k)
      | none => true)
    && match w.place with
      | some x => s.huskLegal w.row x (t * 64 + slotCycle 2 k)
      | none => true

/-- Slot `k` of stride `t` serves work `w`: its entry matches it, or the slot spills to it (R50, R51); on a reduced link any
carried slot does (R285). -/
def State.slotServes (s : State) (w : Want) (t k : Nat) : Bool :=
  s.slotOpen w t k &&
    ((w.kind == 4 && s.reduced w.half) ||
      (match s.gaitAt t with
        | some g => (g.entry w.kind w.row k).cls == w.cls && ownerMatches (g.entry w.kind w.row k).owner w.grp w.promoted
        | none => false)
      || s.spillsTo w t k)

/-! ### Slots used (Table 13.3, groups 2 and 3) -/

/-- Count slot `k` of stride `t` as used by work of class `cls` and group `grp`, matching or taken by spill (R50, R51), in that stride
(R491): a slot that several moves share counts once, and a refresh moves no data (Table 13.1). -/
def State.countSlot (s : State) (kind row t k cls grp : Nat) (promoted : Bool) : State :=
  match s.gaitAt t with
  | none => s
  | some g =>
    let e := g.entry kind row k
    let spill := !(e.cls == cls && ownerMatches e.owner grp promoted) && !(kind == 0 && e.cls == Cls.sp)
    let here := s.gait.ledger.filter fun b => b.kind == kind && b.row == row && b.stride == t && b.slot == k && b.work == 0
    if (kind == 4 || rowShare kind row 8 == 1) && decide (1 < here.length) then s
    else
      let s := s.countUAt t ((if spill then 0x300 else 0x200) + kind * 16 + e.cls) row 1
      match kind with
      | 0 => s.fixedAt t (if spill then 23 else 22) 1
      | 3 => if cls = Cls.rf then s else s.fixedAt t (if spill then 25 else 24) 1
      | 4 => s.fixedAt t 20 1
      | _ => s

/-- Work of class `cls` uses slot `k` of stride `t`: a slot that nothing has booked is taken, for it serves one piece of work
(R51). -/
def State.useAt (s : State) (kind row t k cls : Nat) (grp : Nat := 1) (promoted : Bool := false) : State :=
  (if kind == 4 || s.booked kind row t k then s
    else s.book { kind := kind, row := row, stride := t, slot := k, work := 0, purpose := Leg.taken }).countSlot kind row t k cls grp
      promoted

/-- Work of class `cls` and group `grp`, at a place of a Husk port where it has one, takes slot `k` of a row in this stride: none where
the slot does not serve it (R51, R80, R82, R119). -/
def State.takeSlot (s : State) (kind row k cls grp : Nat) (place : Option (Nat × Nat) := none) : Option State :=
  if s.slotServes { kind := kind, row := row, cls := cls, grp := grp, arrive := 0, place := place } s.now k then
    some (s.useAt kind row s.now k cls grp)
  else none

/-- A slot of a row takes one more move of its share. -/
def State.shareSlot (s : State) (kind row t k cls grp : Nat) : State :=
  (s.book { kind := kind, row := row, stride := t, slot := k, work := 0, purpose := Leg.taken, size := rowShare kind row 8 }).useAt
    kind row t k cls grp

/-- Work that takes the same slot of two rows: a Husk data port and its check port (R346), or both subchannels of a channel
(R71). -/
def State.takeSlots (s : State) (kind row row' k cls grp : Nat) (place : Option (Nat × Nat) := none) : Option State :=
  (s.takeSlot kind row k cls grp place).bind fun s =>
    if s.room kind row' s.now k (rowShare kind row' 8) then some (s.shareSlot kind row' s.now k cls grp) else none

/-- The first slot from cycle `w.arrive` on that `p` accepts, as (stride, slot); within the ledger's reach. -/
def State.searchSlot (s : State) (w : Want) (p : Nat → Nat → Bool) : Option (Nat × Nat) :=
  (List.range 5).findSome? fun i =>
    ((List.range (slotsOf w.kind)).find? fun k =>
      decide (w.arrive ≤ (s.now + i) * 64 + slotCycle w.kind k) && p (s.now + i) k).map fun k => (s.now + i, k)

/-- A look-up that is ready for a tag-slice slot and older than the work that seeks it: the slot is its own (R51). -/
def State.olderLook (s : State) (w : Want) (t k : Nat) : Bool :=
  w.kind == 0 && w.age.any fun id => s.home.txns.any fun u =>
    u.slice == w.row && decide (u.id < id) && s.lookReady (t * 64 + k) u && admClass u.req.op == w.cls

/-- Work without a booking takes the first unbooked slot of its row that serves it (R51, R72, R213); answers the slot's cycle, and the
work's arrival where the ledger reaches none. -/
def State.freeSlot (s : State) (w : Want) : Nat × State :=
  match s.searchSlot w fun t k => s.slotServes w t k && !s.olderLook w t k with
  | some (t, k) => (t * 64 + slotCycle w.kind k, s.useAt w.kind w.row t k w.cls w.grp w.promoted)
  | none => (w.arrive, s)

/-- Home work takes the first unbooked slot of its class and owner 0x01 from cycle `c` on, or one that spills to it (R72, R213). -/
def State.homeSlot (s : State) (kind row cls c : Nat) : Nat × State :=
  s.freeSlot { kind := kind, row := row, cls := cls, arrive := c }

/-- The same for transaction `id`, where no older look-up is ready for the slot (R51). -/
def State.agedSlot (s : State) (id kind row cls c : Nat) : Nat × State :=
  s.freeSlot { kind := kind, row := row, cls := cls, arrive := c, age := some id }

/-! ### The slots of booked work -/

/-- Keep a booking that the outcome needs (R72): its work is done, and the slot stays taken. -/
def State.claim (s : State) (id purpose : Nat) : State :=
  s.withGait { s.gait with ledger := s.gait.ledger.map fun (b : Booking) =>
      if b.work == id && b.purpose == purpose then { b with work := 0, purpose := Leg.taken } else b }

/-- Release the bookings of work `id` for one purpose. -/
def State.unbook (s : State) (id purpose : Nat) : State :=
  s.withGait { s.gait with ledger := s.gait.ledger.filter fun b => !(b.work == id && b.purpose == purpose) }

/-- A slot of stride `t` taken by work `w` on every row listed. -/
def State.takeRows (s : State) (w : Want) (rows : List Nat) (t k : Nat) : State :=
  rows.foldl (fun s r =>
    (s.book { w.booking r t k 0 Leg.taken with size := rowShare w.kind r w.size }).useAt w.kind r t k w.cls w.grp
      w.promoted) s

/-- Serve the ready work `w` of number `id`, which needs the same slot of `rows`: in its booking for `purpose`, in an earlier
unbooked slot that serves it, its booking then being released (R51, R52), and without a booking in the first slot that serves it
(R72). Answers the slot's cycle, and its arrival where the ledger reaches no slot. -/
def State.serveWork (s : State) (id purpose : Nat) (w : Want) (rows : List Nat) : Nat × State :=
  let open_ := fun t k => rows.all fun r => s.room w.kind r t k (rowShare w.kind r w.size)
  match s.bookingOf id purpose with
  | some b =>
    match s.searchSlot w fun t k =>
        decide (t * 64 + slotCycle w.kind k < b.cycle) && open_ t k && s.slotServes w t k with
    | some (t, k) => (t * 64 + slotCycle w.kind k, (s.unbook id purpose).takeRows w rows t k)
    | none => (b.cycle, rows.foldl (fun s r => s.useAt w.kind r b.stride b.slot w.cls w.grp w.promoted) (s.claim id purpose))
  | none =>
    match s.searchSlot w fun t k => open_ t k && s.slotServes w t k with
    | some (t, k) => (t * 64 + slotCycle w.kind k, s.takeRows w rows t k)
    | none => (w.arrive, s)

end Sys2Proof.Machine
end

