-- ==== Sys2Proof/Machine/GaitCtl.lean ====
section
/-!
DEFINITION. Gait loading (R61 to R68), arming, committing and switching (R83 to R95), with the result codes of
GAIT_SWAP_RESULT (Table 2.14).
-/
namespace Sys2Proof.Machine

/-- GAIT_BANK_STATE of a bank. -/
def State.bankState (s : State) (b : Nat) : Nat := (s.obj (Obj.gaitBankState + b)).toNat

/-- Set GAIT_BANK_STATE. -/
def State.setBankState (s : State) (b v : Nat) : State := s.setNat (Obj.gaitBankState + b) v

/-- Put an image into a bank. -/
def State.setBank (s : State) (b : Nat) (g : GaitSrc) : State :=
  s.withGait { s.gait with banks := Assoc.put b g s.gait.banks }

/-- Make a bank EMPTY (R66): its image, identifier and speed are gone. -/
def State.emptyBank (s : State) (b : Nat) : State :=
  let s := (s.withGait { s.gait with banks := Assoc.drop b s.gait.banks }).setBankState b 0
  (s.setNat (Obj.gaitBankId + b) 0).setNat (Obj.gaitBankSpeed + b) 0

/-- The bank that is LOADING. -/
def State.loadingBank (s : State) : Option Nat := (List.range 16).find? fun b => s.bankState b == 1

/-- The bank that is CHECKING. -/
def State.checkingBank (s : State) : Option Nat := (List.range 16).find? fun b => s.bankState b == 6

/-- A load or check runs. -/
def State.loadRuns (s : State) : Bool := s.loadingBank.isSome || s.checkingBank.isSome

/-- GAIT_LOAD_BANK's own rule (R63, R64). -/
def State.ownGaitLoadBank (v : Nat) (s : State) : Nat × State :=
  let b := v % 256
  if s.loadRuns || b == 0 || s.bankState b == 4 || s.bankState b == 5 then (Ref.state, s.bump Obj.gaitLoadErrors)
  else
    let s := ((s.emptyBank b).setBank b (.image [])).setBankState b 1
    (0, ((s.setNat Obj.gaitLoadBank b).setNat Obj.gaitLoadOffset 0).setNat Obj.gaitLoadStatus 1)

/-- GAIT_LOAD_IMAGE's own rule: eight bytes appended (R63, R65). -/
def State.ownGaitLoadImage (v : Reg) (s : State) : Nat × State :=
  match s.loadingBank with
  | none => (Ref.state, s.bump Obj.gaitLoadErrors)
  | some b =>
    match Assoc.find? b s.gait.banks with
    | some (.image segs) =>
      if 1736 ≤ segs.length then (Ref.length, s.bump Obj.gaitLoadErrors)
      else (0, (s.setBank b (.image (segs ++ [v]))).setNat Obj.gaitLoadOffset (8 * (segs.length + 1)))
    | _ => (Ref.state, s.bump Obj.gaitLoadErrors)

/-- GAIT_REJECT_DETAIL of a failure (Table 2.14). -/
def detailCode (d : Detail) : Nat := d.1 <<< 16 + d.2.1 <<< 8 + d.2.2

/-- A check ends (R68): the bank is ACCEPTED or REJECTED, and source 0x0B4 has its event. -/
def State.endCheck (s : State) (b : Nat) (fail : Option (Nat × Detail)) (segs : List (BitVec 64)) : State :=
  let s := s.withGait { s.gait with loadDue := none }
  let s := match fail with
    | none =>
      let s := (s.setBankState b 2).setNat Obj.gaitLoadStatus 3
      (s.setNat (Obj.gaitBankId + b) (GaitSrc.image segs).gaitId).setNat (Obj.gaitBankSpeed + b) (imgSpeed segs)
    | some (c, d) =>
      ((s.setBankState b 3).setNat Obj.gaitLoadStatus (c <<< 8 + 4)).setNat Obj.gaitRejectDetail (detailCode d)
  s.raise 0xB4 [s.obj Obj.gaitLoadStatus, s.obj Obj.gaitRejectDetail]

/-- CHECK (R63, R65, R68). -/
def State.ownGaitCheck (s : State) : Nat × State :=
  match s.loadingBank with
  | none => (Ref.state, s.bump Obj.gaitLoadErrors)
  | some b =>
    match Assoc.find? b s.gait.banks with
    | some (.image segs) =>
      if segs.length < 1736 then (0, s.endCheck b (some (1, (8 * segs.length, 0xFF, 0xFF))) segs)
      else
        let s := (s.setBankState b 6).setNat Obj.gaitLoadStatus 2
        (0, s.withGait { s.gait with loadDue := some (s.now + 128) })
    | _ => (Ref.state, s.bump Obj.gaitLoadErrors)

/-- ABANDON (R66, R67). -/
def State.ownGaitAbandon (s : State) : Nat × State :=
  if s.checkingBank.isSome then (Ref.state, s)
  else
    match s.loadingBank with
    | none => (0, s)
    | some b => (0, (s.emptyBank b).setNat Obj.gaitLoadStatus 0)

/-- ERASE acts on the bank that GAIT_LOAD_BANK names (R66). -/
def State.ownGaitErase (s : State) : Nat × State :=
  let b := (s.obj Obj.gaitLoadBank).toNat
  (0, if s.bankState b = 2 ∨ s.bankState b = 3 then s.emptyBank b else s)

/-- GAIT_LOAD_COMMAND by its code. -/
def State.ownGaitLoadCommand (v : Nat) (s : State) : Nat × State :=
  match v % 256 with
  | 1 => s.ownGaitCheck
  | 2 => s.ownGaitAbandon
  | _ => s.ownGaitErase

/-! ### Arm and swap -/

/-- Codes of GAIT_SWAP_RESULT. -/
abbrev swapResult (s : State) (v : Nat) : State := s.setNat Obj.gaitSwapResult v

/-- A swap ends with a result: the armed bank returns to ACCEPTED where the switch did not take place, held partition
values are discarded (R149), and source 0x0B3 has its event. -/
def State.endSwap (s : State) (result : Nat) : State :=
  let s := match s.gait.armBank with
    | some b => if s.bankState b = 5 then s.setBankState b 2 else s
    | none => s
  let s := s.withGait { s.gait with armBank := none, switchAt := none, shadow := [] }
  let s := (s.setNat Obj.gaitSwapState 0).setNat Obj.gaitSwapResult result
  let s := if result = 1 then s else s.discardHeld
  s.raise 0xB3 [s.obj Obj.gaitSwapResult, s.obj Obj.gaitActive, s.obj Obj.gaitSwitchStride]

/-- Abort a swap that is pending or armed, and a committed one where `committed` says so (R95). -/
def State.abortSwap (s : State) (result : Nat) (committed : Bool) : State :=
  let st := (s.obj Obj.gaitSwapState).toNat
  if st = 1 ∨ st = 2 ∨ (st = 3 ∧ committed) then s.endSwap result else s

/-- Data-moving slots per stride allowed at a speed (Table 8.3). -/
def maxDataSlots (speed : Nat) : Nat := if speed = 3 then 16 else if speed = 2 then 12 else 11

/-- Husk ports in service, check ports included. -/
def State.servicePorts (s : State) : List Nat := (List.range 18).filter s.portInService

/-- The refresh and data-slot checks of R333 and R348. -/
def State.rowsServe (s : State) (g : GaitSrc) : Bool :=
  ((List.range 24).all fun r =>
    decide (g.dataSlots r ≤ maxDataSlots (s.obj Obj.memSpeed).toNat) &&
      decide ((s.obj Obj.ddr5RefNeed).toNat ≤ 1024 * g.refreshSlots 3 r))
  && s.servicePorts.all fun j => decide ((s.obj Obj.huskRefNeed).toNat ≤ 1024 * g.refreshSlots 2 j)

/-- Partition classes that some PARTID maps to. -/
def State.classesInUse (s : State) : List Nat := ((List.range 1024).map s.partClass).eraseDups

/-- Check 6: every half that is up and every partition class in use is covered on every tag-slice row. -/
def State.coverage (s : State) (g : GaitSrc) : Bool :=
  let pcs := s.classesInUse
  let halves := (List.range 32).filter s.halfUp
  pcs.all fun pc => g.partClasses.testBit pc && (List.range 16).all fun r =>
    if halves.isEmpty then g.covers r Cls.dr pc none && g.covers r Cls.dw pc none
    else halves.all fun h => g.covers r Cls.dr pc (some h) && g.covers r Cls.dw pc (some h)

/-- Checks 4 to 8 of R85: the first failure's result code. -/
def State.armChecks48 (s : State) (b : Nat) (g : GaitSrc) : Option Nat :=
  if !g.modeMask.testBit s.modes.mode.maskBit then some 0x05
  else if !(s.servicePorts.all fun j => g.huskPorts.testBit j)
      || s.obj (Obj.gaitBankSpeed + b) != s.obj Obj.memSpeed || !s.rowsServe g then some 0x06
  else if !s.coverage g then some 0x07
  else if g.domainSize ≠ 0 ∧ g.domainSize ≠ s.domainSize then some 0x08
  else if g.domainWide && (s.obj Obj.strideSyncStatus).toNat.testBit 1 then some 0x09
  else none

/-- Kernel bank Demand reads across the seam: a look-up in one of the old row's last slots reaches its bank in the new
gait, and waits there as R69 computes the class, in lock step: the HORIZON of this class covers that wait and no distance
between slots (R60, R69; log entry 25). Only a pair present in both gaits is checked (R86). -/
def seamBankOk (old new : GaitSrc) : Bool :=
  (List.range 16).all fun i => [60, 61, 62, 63].all fun k =>
    let e := old.entry 0 i k
    let serves := fun (b : SlotEntry) => b.cls == Cls.dr && (b.owner == e.owner || b.owner == 1)
    if (e.cls == Cls.dr || e.cls == Cls.sp) && !(old.slotsWith 1 i serves).isEmpty then
      match (List.range 64).find? fun d => serves (new.entry 1 i ((k + 4 + d) % 64)) with
      | some d => new.within 1 Cls.dr d
      | none => true
    else true

/-- The seam check (R86): for every pair of class and owner in a row of both gaits, Idle and Refresh among them. -/
def seamOk (old new : GaitSrc) : Bool :=
  seamBankOk old new && (List.range 5).all fun t => (List.range (rowsOf t)).all fun r =>
    let os := (List.range (slotsOf t)).map fun k => (k, old.entry t r k)
    let ns := (List.range (slotsOf t)).map fun k => (k, new.entry t r k)
    ((os.map fun x => (x.2.cls, x.2.owner)).eraseDups).all fun (c, o) =>
      let p : Nat × SlotEntry → Bool := fun x => x.2.cls == c && x.2.owner == o
      match os.reverse.find? p, ns.find? p with
      | some (last, _), some (first, _) =>
        (t == 1 && c == Cls.dr) || new.within t c (ceilDiv ((slotsOf t - last + first) * slotUnits t) 28)
      | _, _ => true

/-- The checks of R85 in order: the first failure's result code. -/
def State.armChecks (s : State) (b : Nat) : Option Nat :=
  if s.bankState b = 4 then some 0x03
  else if s.bankState b ≠ 2 then some 0x02
  else
    match Assoc.find? b s.gait.banks with
    | none => some 0x02
    | some g =>
      match s.armChecks48 b g with
      | some e => some e
      | none =>
        match s.activeGait with
        | some old => if seamOk old g then none else some 0x0A
        | none => none

/-- GAIT_SELECT's own rule (R84, R85, R87). DESIGN CHOICE (log entry 137): in a mode outside R84's five a write is answered MODE
even while a swap is under way. -/
def State.ownGaitSelect (v : Nat) (s : State) : Nat × State :=
  if !s.modes.mode.service then (Ref.state, (s.setNat Obj.gaitSwapResult 0x05).bump Obj.gaitSwapRefusals)
  else if s.obj Obj.gaitSwapState ≠ 0 then (Ref.state, (s.setNat Obj.gaitSwapResult 0x04).bump Obj.gaitSwapRefusals)
  else
    let s := (s.setNat Obj.gaitSelect (v % 256)).setNat Obj.gaitSwapState 1
    (0, s.withGait { s.gait with armBank := some (v % 256), armAt := s.now })

/-- ARM_CHECKS_DONE (R85): at the second boundary after the write. DESIGN CHOICE (log entry 119): a check that fails ends the arm
without a count in GAIT_SWAP_REFUSALS, for the write was accepted. -/
def State.armChecksDone (s : State) : State :=
  match s.gait.armBank with
  | some b =>
    if (s.obj Obj.gaitSwapState).toNat = 1 ∧ s.gait.armAt + 2 ≤ s.now then
      match s.armChecks b with
      | some e => s.endSwap e
      | none => ((s.setBankState b 5).setNat Obj.gaitSwapState 2).setNat Obj.gaitArmStride s.now
    else s
  | none => s

/-- First epoch boundary at or after `t`. -/
def epochFrom (t : Nat) : Nat := ceilDiv t 1024 * 1024

/-- Refuse a commit with a result (R88, R93, R101). -/
def State.refuseCommit (s : State) (result : Nat) : Nat × State :=
  (Ref.state, (s.setNat Obj.gaitSwapResult result).bump Obj.gaitSwapRefusals)

/-- GAIT_SWAP_COMMIT's own rule (R88 to R90, R93, R101): a valid commit fixes the switch stride, and its checks run at the next
boundary (Table 2.13). DESIGN CHOICE (log entry 119): a commit written while the arm is pending, or after a valid commit, finds
no arm in place and is answered NO_ARM. -/
def State.ownGaitSwapCommit (v : Nat) (s : State) : Nat × State :=
  match s.gait.armBank with
  | none => s.refuseCommit 0x10
  | some b =>
    if (s.obj Obj.gaitSwapState).toNat ≠ 2 || s.gait.switchAt.isSome then s.refuseCommit 0x10
    else if v % 65536 ≠ 0x5A00 + b then s.refuseCommit 0x0B
    else
      match Assoc.find? b s.gait.banks with
      | none => s.refuseCommit 0x10
      | some g =>
        if g.domainWide ∧ 1020 ≤ s.epochPhase then s.refuseCommit 0x0C
        else
          let sw := if g.domainWide then epochFrom (s.now + 5) else s.now + 5
          (0, s.withGait { s.gait with commitAt := s.now, switchAt := some sw })

/-- At the boundary after a commit the checks of R89 repeat: the swap is COMMITTED, or the arm is dropped with the failure as
its result (Table 2.13). DESIGN CHOICE (log entry 119): the failure is not counted in GAIT_SWAP_REFUSALS, for the write was
accepted. -/
def State.commitTaken (s : State) : State :=
  match s.gait.armBank, s.gait.switchAt with
  | some b, some _ =>
    if (s.obj Obj.gaitSwapState).toNat ≠ 2 then s
    else
      match Assoc.find? b s.gait.banks with
      | none => s
      | some g =>
        match s.armChecks48 b g with
        | some e => s.endSwap e
        | none => s.setNat Obj.gaitSwapState 3
  | _, _ => s

/-- The three copies of the shadow slot-phase registers are loaded in the stride before the switch (R90). -/
def State.shadowLoad (s : State) : State :=
  match s.gait.switchAt, s.gait.armBank with
  | some sw, some b => if sw = s.now + 1 then s.withGait { s.gait with shadow := List.replicate 3 b } else s
  | _, _ => s

/-- What two of three copies agree on (R90, R386). -/
def voted (l : List Nat) : Option Nat :=
  match l with
  | [a, b, c] => if a = b ∨ a = c then some a else if b = c then some b else none
  | _ => none

/-- The effective scrub rate is clipped to the active gait, and the clip is reported (R80). -/
def State.reportClip (s : State) : State :=
  match s.activeGait with
  | none => s
  | some g =>
    let clipped := (List.range 4).any fun k => decide (256 * g.scrubSlots k < s.eff (Obj.scrubRate + k))
    s.setNat Obj.gaitClipStatus (if clipped then 1 else 0)

/-- Every row changes gait (R91). -/
def State.gaitSwitch (s : State) : State :=
  match s.gait.switchAt, s.gait.armBank with
  | some sw, some armed =>
    if sw ≤ s.now ∧ (s.obj Obj.gaitSwapState).toNat = 3 then
      let b := (voted s.gait.shadow).getD armed
      let old := (s.obj Obj.gaitActive).toNat
      let s := (s.setBankState old 2).setBankState b 4
      let s := ((s.setNat Obj.gaitPrevious old).setNat Obj.gaitActive b).setNat Obj.gaitSwitchStride sw
      let s := (s.clearMonitors Rsv.gait fun _ _ => true).applyHeld
      s.reportClip.endSwap 1
    else s
  | _, _ => s

/-- An arm without a valid commit is dropped (R92). -/
def State.armTimeout (s : State) : State :=
  if (s.obj Obj.gaitSwapState).toNat = 2 ∧ s.gait.switchAt = none ∧ (s.obj Obj.gaitArmStride).toNat + 1024 ≤ s.now then
    (s.bump Obj.gaitSwapTimeouts).endSwap 0x0D
  else s

/-- A check completes (R68). -/
def State.gaitCheckDone (s : State) : State :=
  match s.checkingBank with
  | none => s
  | some b =>
    match Assoc.find? b s.gait.banks with
    | some (.image segs) => s.endCheck b (gaitFirstFail segs s.fusedConfig) segs
    | _ => s

/-! ### Meanings -/

/-- GAIT_LOAD_BANK_WRITE (R63, R64). -/
def execGaitLoadBankWrite (lvl : Level) (v : Reg) (s : State) : Host.Outcome State Fault Refusal :=
  .next (s.writeWith lvl Obj.gaitLoadBank v.toNat (State.ownGaitLoadBank v.toNat))

/-- GAIT_LOAD_IMAGE_APPEND (R63, R65). -/
def execGaitLoadImageAppend (lvl : Level) (v : Reg) (s : State) : Host.Outcome State Fault Refusal :=
  .next (s.writeWith lvl Obj.gaitLoadImage v.toNat (State.ownGaitLoadImage v))

/-- GAIT_CHECK (R63, R65, R68). -/
def execGaitCheck (lvl : Level) (s : State) : Host.Outcome State Fault Refusal :=
  .next (s.writeWith lvl Obj.gaitLoadCommand 1 State.ownGaitCheck)

/-- GAIT_ABANDON (R66, R67). -/
def execGaitAbandon (lvl : Level) (s : State) : Host.Outcome State Fault Refusal :=
  .next (s.writeWith lvl Obj.gaitLoadCommand 2 State.ownGaitAbandon)

/-- GAIT_ERASE (R66). -/
def execGaitErase (lvl : Level) (s : State) : Host.Outcome State Fault Refusal :=
  .next (s.writeWith lvl Obj.gaitLoadCommand 3 State.ownGaitErase)

/-- GAIT_CHECK_DONE (R68). -/
def execGaitCheckDone (s : State) : Host.Outcome State Fault Refusal := .next s.gaitCheckDone

/-- GAIT_SELECT_WRITE (R84, R85, R87). -/
def execGaitSelectWrite (lvl : Level) (v : Reg) (s : State) : Host.Outcome State Fault Refusal :=
  .next (s.writeWith lvl Obj.gaitSelect v.toNat (State.ownGaitSelect v.toNat))

/-- ARM_CHECKS_DONE (R85). -/
def execArmChecksDone (s : State) : Host.Outcome State Fault Refusal := .next s.armChecksDone

/-- GAIT_SWAP_COMMIT_WRITE (R88 to R90, R93, R101). -/
def execGaitSwapCommitWrite (lvl : Level) (v : Reg) (s : State) : Host.Outcome State Fault Refusal :=
  .next (s.writeWith lvl Obj.gaitSwapCommit v.toNat (State.ownGaitSwapCommit v.toNat))

/-- SHADOW_LOAD (R90). -/
def execShadowLoad (s : State) : Host.Outcome State Fault Refusal := .next s.shadowLoad

/-- GAIT_SWITCH (R91). -/
def execGaitSwitch (s : State) : Host.Outcome State Fault Refusal := .next s.gaitSwitch

/-- ARM_TIMEOUT (R92). -/
def execArmTimeout (s : State) : Host.Outcome State Fault Refusal := .next s.armTimeout

end Sys2Proof.Machine
end

