-- ==== Sys2Proof/Machine/Tiers.lean ====
section
/-!
DEFINITION. The cache tiers (03): the copies of a line and which one is served (R102), tag and sector entries, the
staging and Hull buffers, the posted write buffers (R341, R258), victims and allocation (R121 to R126), and the
movement of lines between the tiers (R127 to R138).
-/
namespace Sys2Proof.Machine

/-! ### Poison and corrections -/

/-- A line becomes Poisoned (R376; cause codes of Table 12.7, log entry 27 for the record's word 3). -/
def State.notePoison (s : State) (line keyid cause : Nat) : State :=
  ((s.bump Obj.poisonCreated).fixed 27 1).raise 0xC0 [w64 (line * 128), w64 (keyid <<< 8 + cause)]

/-- `n` corrections of bucket `b` (R375): counted now, added to the level at the boundary. -/
def State.noteCorrections (s : State) (b n : Nat) : State :=
  if n = 0 then s
  else
    let s := s.withRel { s.rel with inStride := Assoc.put b (Assoc.getD s.rel.inStride b 0 + n) s.rel.inStride }
    (s.bumpN (Obj.correctedCount + b) n).fixed 26 n

/-- An uncorrectable error of bucket `b`'s structure. -/
def State.noteUncorrectable (s : State) (b : Nat) : State := s.bump (Obj.uncorrectedCount + b)

/-! ### Line states and entries -/

/-- Codes of Table 3.2. -/
def LState.code : LState → Nat
  | .invalid => 0 | .clean => 1 | .dirty => 2 | .poisoned => 3

/-- The line state of a code. -/
def LState.ofCode (n : Nat) : LState :=
  match n % 4 with | 0 => .invalid | 1 => .clean | 2 => .dirty | _ => .poisoned

/-- State of line `n` of a sector (Table 3.4). -/
def Sector.st (x : Sector) (n : Nat) : LState := LState.ofCode ((x.lstate >>> (2 * n)).toNat)

/-- Lines of a sector in the Dirty or Poisoned state. -/
def Sector.owedLines (x : Sector) : List Nat := (List.range 32).filter fun n => (x.st n).owed

/-- Set the state of line `n`, keeping DCNT the number of Dirty and Poisoned lines (R116). -/
def Sector.set (x : Sector) (n : Nat) (st : LState) : Sector :=
  let clear : BitVec 64 := ~~~ ((3 : BitVec 64) <<< (2 * n))
  let x := { x with lstate := (x.lstate &&& clear) ||| (BitVec.ofNat 64 st.code <<< (2 * n)) }
  { x with dcnt := x.owedLines.length }

/-- Kernel tag of a set and way. -/
def State.ktag (s : State) (kset w : Nat) : Option KTag := Assoc.find? (kset * 12 + w) s.tiers.ktags

/-- Husk sector of a set and way. -/
def State.sector (s : State) (hset w : Nat) : Option Sector := Assoc.find? (hset * 16 + w) s.tiers.sectors

/-- Write a Kernel tag entry; none makes it Invalid. -/
def State.setKtag (s : State) (kset w : Nat) (t : Option KTag) : State :=
  s.withTiers { s.tiers with ktags := match t with
      | some t => Assoc.put (kset * 12 + w) t s.tiers.ktags
      | none => Assoc.drop (kset * 12 + w) s.tiers.ktags }

/-- Write a Husk sector entry; none makes it SV = 0. -/
def State.setSector (s : State) (hset w : Nat) (x : Option Sector) : State :=
  s.withTiers { s.tiers with sectors := match x with
      | some x => Assoc.put (hset * 16 + w) x s.tiers.sectors
      | none => Assoc.drop (hset * 16 + w) s.tiers.sectors }

/-- A Kernel way is excluded in its set (R143, R383). -/
def State.kExcluded (s : State) (kset w : Nat) : Bool :=
  let sl := kset / 8192
  let g := kset % 8192 / 1024
  s.groupOff 0 sl g || (s.retiredWays 0 sl g).contains w

/-- A Husk way is excluded in its set: retired, its group disabled, or its port out of service (R143, R349, R352). -/
def State.hExcluded (s : State) (hset w : Nat) : Bool :=
  let sl := hset / 32768
  let g := hset % 32768 / 1024
  s.groupOff 1 sl g || (s.retiredWays 1 sl g).contains w || !s.portInService (portOfWay hset w)

/-- The Kernel way that holds a line. -/
def State.kernelHit (s : State) (line : Nat) : Option (Nat × KTag) :=
  let la := line * 128
  let kset := ksetOf la
  (List.range 12).findSome? fun w =>
    match s.ktag kset w with
    | some t => if t.tag = ktagOf la ∧ s.kExcluded kset w = false then some (w, t) else none
    | none => none

/-- The Husk way whose sector covers a line, in any line state. -/
def State.huskSector (s : State) (line : Nat) : Option (Nat × Sector) :=
  let la := line * 128
  let hset := hsetOf la
  (List.range 16).findSome? fun w =>
    match s.sector hset w with
    | some x => if x.tag = htagOf la ∧ s.hExcluded hset w = false then some (w, x) else none
    | none => none

/-- Husk state of a line. -/
def State.huskState (s : State) (line : Nat) : LState :=
  match s.huskSector line with
  | some (_, x) => x.st (lineIn (line * 128))
  | none => .invalid

/-- Place of a Husk line on its data port (R110, R350). -/
def huskKey (hset w n : Nat) : Nat := portOfWay hset w * 2 ^ 24 + huskAddr hset n / 128

/-- Place of the check entry of a Husk line (R345). -/
def checkKey (hset w n : Nat) : Nat :=
  let j := portOfWay hset w
  let a := checkAddr j hset n
  (checkPort j * 4 + a.1) * 2 ^ 25 + a.2 / 16

/-- A line as it moves on the four channels of a data port (R344). -/
def huskSplit (d : Line) : Vector (BitVec 256) 4 := Vector.ofFn fun c => d.extractLsb' (256 * c.val) 256

/-- The line that the four channels of a data port hold (R344). -/
def HuskLine.data (x : HuskLine) : Line := x.chans[3] ++ x.chans[2] ++ x.chans[1] ++ x.chans[0]

/-- The staging entry of a line that serves look-ups (R102): its newest write, else its victim or placement, else a clean
fill. -/
def State.stagedOf (s : State) (line : Nat) : Option Staged :=
  let l := s.tiers.staging.filter fun e => e.line == line
  match l.find? fun e => e.kind == .writeData with
  | some e => some e
  | none =>
    match l.reverse.find? fun e => e.kind != .cleanFill with
    | some e => some e
    | none => l.head?

/-- A staging entry whose bank write of (set, way) is due. -/
def State.pendingBank (s : State) (kset w : Nat) : Option Staged :=
  s.tiers.staging.find? fun e => e.loc == some (kset, w) && (e.kind == .cleanFill || e.kind == .writeData)

/-- Data of a Kernel line: in its staging entry until the bank write, then in the bank (R125). A line nothing has
written reads zero (log entry 7). -/
def State.kernelData (s : State) (kset w : Nat) : Line :=
  match s.pendingBank kset w with
  | some e => e.data.getD 0
  | none => Assoc.getD s.tiers.kdata (kset * 12 + w) 0

/-- Data of a staging entry: a victim not yet read out is still in its bank (R125). -/
def State.stagedData (s : State) (e : Staged) : Line :=
  match e.data, e.loc with
  | some d, _ => d
  | none, some (kset, w) => Assoc.getD s.tiers.kdata (kset * 12 + w) 0
  | none, none => 0

/-- Data of a Husk line (log entry 7 where none was written). -/
def State.huskData (s : State) (hset w n : Nat) : Line :=
  match Assoc.find? (huskKey hset w n) s.tiers.hdata with
  | some x => x.data
  | none => 0

/-- The newest Hull entry of a line (R138). -/
def State.hullOf (s : State) (line : Nat) : Option Hull := s.tiers.hull.reverse.find? fun e => e.line == line

/-- Data of a Hull entry: still in the Husk before its Eviction slot (R134). -/
def State.hullData (s : State) (e : Hull) : Line :=
  match e.data with
  | some d => d
  | none => s.huskData e.src.1 e.src.2 (lineIn (e.line * 128))

/-- The newest posted write buffer entry of a line (R258). -/
def State.pwbOf (s : State) (line : Nat) : Option Pwb :=
  (s.pwb (chanOf (line * 128))).reverse.find? fun e => e.line == line

/-- The sources of R102. -/
inductive Src where
  | kernel | staging | husk | hull | pwb | dram
deriving DecidableEq, Repr

/-- A copy of a line. -/
structure Copy where
  src : Src
  data : Line
  poison : Bool
  keyid : Nat
deriving DecidableEq, Repr

/-- The first valid copy of a line inside the tiers, staging and Hull buffers, in the order of R102. -/
def State.tierCopy (s : State) (line : Nat) : Option Copy :=
  let la := line * 128
  match s.kernelHit line with
  | some (w, t) => some ⟨.kernel, s.kernelData (ksetOf la) w, t.st == .poisoned, t.keyid.toNat⟩
  | none =>
    match s.stagedOf line with
    | some e => some ⟨.staging, s.stagedData e, e.st == .poisoned, e.keyid.toNat⟩
    | none =>
      match s.huskSector line with
      | some (w, x) =>
        if x.st (lineIn la) ≠ .invalid then
          some ⟨.husk, s.huskData (hsetOf la) w (lineIn la), x.st (lineIn la) == .poisoned, x.keyid.toNat⟩
        else (s.hullOf line).map fun e => ⟨.hull, s.hullData e, e.poison, e.keyid.toNat⟩
      | none => (s.hullOf line).map fun e => ⟨.hull, s.hullData e, e.poison, e.keyid.toNat⟩

/-! ### The DDR5 store -/

/-- Key pair in force for a KEYID (R356, R357). -/
def State.keyOf (s : State) (keyid : Nat) : KeyPair := Assoc.getD s.mem.keys keyid (.random s.mem.keyGen keyid)

/-- Data unit sequence number (R356). -/
def State.dataUnit (s : State) (line : Nat) : Nat := s.domainIndex * 2 ^ 35 + line

/-- Contents of a DDR5 line under a KEYID: data and poison. A line nothing has written is a free value, Poisoned or not
(R560); data written under another key is what the new key makes of the old ciphertext (R117). -/
def State.dramRead (s : State) (line keyid : Nat) : (Line × Bool) × State :=
  match Assoc.find? line s.mem.dram with
  | none =>
    let (b, s) := s.draw 1
    let (d, s) := s.draw 1024
    ((d, b == 1), s)
  | some x =>
    let k := s.keyOf keyid
    ((if x.key = k then x.data else Config.recrypt x.key k (s.dataUnit line) x.data, x.poison), s)

/-- Write a DDR5 line under a KEYID. -/
def State.dramWrite (s : State) (line keyid : Nat) (data : Line) (poison : Bool) : State :=
  s.withMem { s.mem with dram := Assoc.put line ⟨data, poison, s.keyOf keyid⟩ s.mem.dram }

/-! ### Posted write buffers -/

/-- Set a channel's posted write buffer. -/
def State.setPwb (s : State) (ch : Nat) (l : List Pwb) : State :=
  (s.withMem { s.mem with pwb := Assoc.putD s.mem.pwb ch [] l }).notePwb ch

/-- Entries of the 256 for unreserved placements in use or reserved (R341, R126). -/
def State.pwbUnreserved (s : State) (ch : Nat) : Nat :=
  ((s.pwb ch).filter fun e => !e.reserved).length + s.pwbVictims ch

/-- Entries of the 1,792 for reservations in use or reserved (R316, R341). -/
def State.pwbReservedUse (s : State) (ch : Nat) : Nat :=
  ((s.pwb ch).filter fun e => e.reserved).length + s.pwbReservations ch

/-- A full line enters the posted write buffer of its home channel: an unissued Hull entry for it is cancelled (R137),
a Normal entry for it is replaced and counted, and the entry takes its place (R258). -/
def State.enterPwb (s : State) (line keyid : Nat) (data : Line) (poison demand device reserved : Bool) : State :=
  let ch := chanOf (line * 128)
  let spare : Repl → Nat → Bool := fun r n =>
    match s.sector r.hset r.way with
    | some x => laOfH r.hset x.tag n / 128 != line
    | none => true
  let hull := s.tiers.hull.filter fun e => e.line != line
  let repl := s.tiers.repl.map fun r => { r with left := r.left.filter (spare r) }
  let s := s.withTiers { s.tiers with hull := hull, repl := repl }
  let e : Pwb := { line := line, keyid := BitVec.ofNat 10 keyid, data := data, poison := poison, demand := demand,
                   device := device, reserved := reserved, id := s.tiers.nextId }
  let s := s.withTiers { s.tiers with nextId := s.tiers.nextId + 1 }
  let same : Pwb → Bool := fun x => x.line == line && !x.device
  if device then s.setPwb ch (s.pwb ch ++ [e])
  else if (s.pwb ch).any same then
    (s.setPwb ch (((s.pwb ch).filter fun x => !same x) ++ [e])).bump Obj.writeCoalesces
  else s.setPwb ch (s.pwb ch ++ [e])

/-! ### Staging entries -/

/-- Staging entries in use or reserved in a slice: with those of evictions that joined a transaction (R215). -/
def State.stagingUse (s : State) (sl : Nat) : Nat :=
  (s.tiers.staging.filter fun e => e.slice == sl).length
    + (s.home.txns.filter fun t => t.slice == sl && t.stagingReserved).length
    + s.home.txns.foldl (fun n t => if t.slice = sl then n + (t.snoops.filter Snp.holdsStaging).length else n) 0

/-- A staging entry of the slice is free (64 entries), beside `extra` entries that the work under way takes. -/
def State.stagingRoom (s : State) (sl extra : Nat) : Bool := decide (s.stagingUse sl + extra < 64)

/-- A staging entry of the slice is free. -/
def State.stagingFree (s : State) (sl : Nat) : Bool := s.stagingRoom sl 0

/-- Add a staging entry; it takes the next serial number. -/
def State.addStaged (s : State) (e : Staged) : State :=
  s.withTiers { s.tiers with staging := s.tiers.staging ++ [{ e with id := s.tiers.nextId }],
                                   nextId := s.tiers.nextId + 1 }

/-- Remove a staging entry. -/
def State.dropStaged (s : State) (id : Nat) : State :=
  s.withTiers { s.tiers with staging := s.tiers.staging.filter fun e => e.id != id }

/-- Change a staging entry. -/
def State.updStaged (s : State) (id : Nat) (f : Staged → Staged) : State :=
  s.withTiers { s.tiers with staging := updFirst (fun e => e.id == id) f s.tiers.staging }

/-- An unreserved placement enters the posted write buffer, or waits in staging and is counted (R341). -/
def State.placeUnreserved (s : State) (line keyid : Nat) (data : Line) (poison : Bool) : State :=
  let ch := chanOf (line * 128)
  if s.pwbUnreserved ch < 256 then s.enterPwb line keyid data poison false false false
  else
    (s.addStaged { id := 0, slice := sliceOf (line * 128), line := line, kind := .placement,
                   st := if poison then .poisoned else .dirty, keyid := BitVec.ofNat 10 keyid, partid := 0,
                   data := some data }).bump (Obj.unreservedWaits + ch * 256)

/-! ### Invalidating copies -/

/-- Set the Husk state of a line, where its sector is present. -/
def State.setHuskState (s : State) (line : Nat) (st : LState) : State :=
  match s.huskSector line with
  | some (w, x) => s.setSector (hsetOf (line * 128)) w (some (x.set (lineIn (line * 128)) st))
  | none => s

/-- The Kernel copy becomes Invalid; a bank write or clean fill that waits for it is dropped. -/
def State.dropKernel (s : State) (line : Nat) : State :=
  let kset := ksetOf (line * 128)
  let s := match s.kernelHit line with
    | some (w, _) => s.setKtag kset w none
    | none => s
  (s.withTiers { s.tiers with staging := s.tiers.staging.filter fun e =>
      e.line != line || (e.kind != .cleanFill && e.kind != .writeData) })

/-- Clean fills of a line that still wait for their tag write are stale once the line is written. -/
def State.dropFills (s : State) (line : Nat) : State :=
  s.withTiers { s.tiers with staging := s.tiers.staging.filter fun e =>
      e.line != line || e.kind != .cleanFill || e.loc.isSome }

/-- A written line supersedes its older data in staging (R256, R257; DEDUCED, log entry 120): clean fills, and a victim or
placement on its way out; the sector held for a victim, or coming in for it, keeps the line Invalid (R103, R104). -/
def State.supersede (s : State) (line : Nat) : State :=
  let hset := hsetOf (line * 128)
  let old : Staged → Bool := fun e => e.line == line && (e.kind == .victim || e.kind == .placement)
  let clear : Repl → Repl := fun r => match r.incoming with
    | some x => if r.hset == hset && x.tag == htagOf (line * 128) then
        { r with incoming := some (x.set (lineIn (line * 128)) .invalid) } else r
    | none => r
  let s := s.dropFills line
  if s.tiers.staging.any old then
    let s := if s.tiers.staging.any fun e => old e && e.target.isSome then s.setHuskState line .invalid else s
    s.withTiers { s.tiers with staging := s.tiers.staging.filter fun e => !old e, repl := s.tiers.repl.map clear }
  else s

/-- The unissued Hull entry of a line is cancelled (R137). -/
def State.cancelHull (s : State) (line : Nat) : State :=
  s.withTiers { s.tiers with hull := s.tiers.hull.filter fun e => e.line != line }

/-! ### Victims -/

/-- Way mask of a PARTID's class (R145): Kernel, Husk. -/
def State.classMasks (s : State) (partid : Nat) : Nat × Nat :=
  let v := s.eff (arr16 Obj.classWays (s.partClass partid))
  (bitsOf v 27 16, bitsOf v 15 0)

/-- The value of an object that is in force in the slot which begins `cyc` cycles after this stride: that of the next boundary in a
later stride (R147). -/
def State.effIn (s : State) (cyc k : Nat) : Nat :=
  if cyc < 64 then s.eff k
  else match (s.dict.pending.filter fun x => x.1 == k).getLast? with
    | some x => x.2.toNat
    | none => s.eff k

/-- Way mask of a PARTID's class for a victim chosen in that slot (R145, R147): Kernel, Husk. -/
def State.masksIn (s : State) (partid cyc : Nat) : Nat × Nat :=
  let cls := (s.effIn cyc (arr16 Obj.partclassMap (partid / 8)) >>> (partid % 8 * 8)) % 64
  let v := s.effIn cyc (arr16 Obj.classWays cls)
  (bitsOf v 27 16, bitsOf v 15 0)

/-- A mask of the ways below `n` that satisfy `p`. -/
def wayMask (n : Nat) (p : Nat → Bool) : Nat := (List.range n).foldl (fun m w => if p w then m + 2 ^ w else m) 0

/-- The Kernel way that choose_way picks for a PARTID in cycle `cyc` (R142, R146). -/
def State.chooseKernel (s : State) (kset partid cyc : Nat) : Option Nat :=
  let avail := wayMask 12 fun w => !s.kExcluded kset w && !s.farrierHolds 0 (kset / 8192) (kset % 8192) w
  let free := wayMask 12 fun w => (s.ktag kset w).isNone
  chooseWay 12 ((s.masksIn partid cyc).1 &&& avail) free ((s.lfsrAt (kset / 8192) cyc).toNat / 65536)

/-- A Husk way is held by a placement chosen for it (R561). -/
def State.held (s : State) (hset w : Nat) : Bool := s.tiers.staging.any fun e => e.target == some (hset, w)

/-- A replacement runs in a Husk set (R133). -/
def State.replacing (s : State) (hset : Nat) : Bool := s.tiers.repl.any fun r => r.hset == hset

/-- The Husk way that choose_way picks (R142, R352, R561). -/
def State.chooseHusk (s : State) (hset partid cyc : Nat) : Option Nat :=
  let avail := wayMask 16 fun w =>
    !s.hExcluded hset w && s.portState (portOfWay hset w) == 2 && !s.held hset w
      && !s.farrierHolds 1 (hset / 32768) (hset % 32768) w
  let free := wayMask 16 fun w => (s.sector hset w).isNone
  chooseWay 16 ((s.masksIn partid cyc).2 &&& avail) free ((s.lfsrAt (hset / 32768) cyc).toNat / 65536)

/-- Where a Dirty or Poisoned line may go in the Husk (R129): a present sector, a way whose sector may be dropped, or a
way whose sector is replaced. -/
inductive HuskPlace where
  | present (w : Nat) | take (w : Nat) | replace (w : Nat) | bypass
deriving DecidableEq, Repr

/-- The choice among steps 1 to 3 of R129, with R106, R131 and R353. -/
def State.huskPlace (s : State) (line keyid partid cyc : Nat) : HuskPlace :=
  let hset := hsetOf (line * 128)
  if s.kernelOnly then .bypass
  else
    match s.huskSector line with
    | some (w, x) =>
      if x.keyid.toNat = keyid ∧ s.portState (portOfWay hset w) = 2
          ∧ (s.tiers.repl.any fun r => r.hset == hset && r.way == w) = false then .present w
      else .bypass
    | none =>
      if s.modes.mode.noAlloc || s.replacing hset then .bypass
      else
        match s.chooseHusk hset partid cyc with
        | none => .bypass
        | some w =>
          match s.sector hset w with
          | none => .take w
          | some x =>
            if x.dcnt = 0 then .take w
            else if s.tiers.hull.length + x.dcnt ≤ 4096 then .replace w else .bypass

/-- The Kernel entry at (set, way) leaves for a new line (R125, R126): none where it cannot leave; `extra` staging entries are
taken by the allocation itself. The victim's line counts against monitors with EVICT (Table 6.4). -/
def State.evictKernel (s : State) (kset w cyc extra : Nat) : Option State :=
  match s.ktag kset w with
  | none => some s
  | some t =>
    let sl := kset / 8192
    let line := laOfK kset t.tag / 128
    let s' := (s.fixed 18 1).clearLine line Rsv.evict
    let pend := s.pendingBank kset w
    let s' := match pend with
      | some e => s'.dropStaged e.id
      | none => s'
    let entry : Staged :=
      { id := 0, slice := sl, line := line, kind := .victim, st := t.st, keyid := t.keyid, partid := t.partid,
        data := pend.map fun e => e.data.getD 0, loc := if pend.isSome then none else some (kset, w) }
    match t.st with
    | .clean =>
      if s.kernelOnly || !s.stagingRoom sl extra then some s'
      else some (s'.addStaged entry)
    | _ =>
      if !s.stagingRoom sl extra then none
      else if s.huskPlace line t.keyid.toNat t.partid.toNat cyc != .bypass then some (s'.addStaged entry)
      else if s.pwbUnreserved (chanOf (line * 128)) < 256 then
        some ((s'.addStaged { entry with pwbReserved := true }).notePwb (chanOf (line * 128)))
      else none

/-! ### Placing writes -/

/-- Write a line into the Kernel way that holds it; its Husk copy becomes Invalid (R103, Table 3.8). The tag takes the
PARTID of the write (Table 3.3). The bank write takes the bank's first slot of class `cls` from cycle `c` on (R121, Table
3.5), or waits with the line's data that is still to be written there (R125). -/
def State.writeKernel (s : State) (line w : Nat) (t : KTag) (data : Line) (poison : Bool) (partid cls c : Nat) : State :=
  let kset := ksetOf (line * 128)
  let st : LState := if poison then .poisoned else .dirty
  let s := s.setKtag kset w (some { t with st := st, partid := BitVec.ofNat 10 partid })
  let s := match s.pendingBank kset w with
    | some e => s.updStaged e.id fun e => { e with data := some data, st := st, kind := .writeData, cls := cls }
    | none =>
      let (_, s) := s.homeSlot 1 (kset / 8192) cls c
      s.withTiers { s.tiers with kdata := Assoc.put (kset * 12 + w) data s.tiers.kdata }
  s.setHuskState line .invalid

/-- Allocate a written line in the Kernel, its data in a staging entry (R121, R125, R126): none where no way is allowed or
the victim cannot leave. `extra` is 1 where the entry is not reserved, and `cls` the class of the allocating slot. -/
def State.allocWrite (s : State) (line keyid partid : Nat) (data : Line) (poison : Bool) (cls c extra : Nat) : Option State :=
  let kset := ksetOf (line * 128)
  match s.chooseKernel kset partid (c - 64 * s.now) with
  | none => none
  | some w =>
    match s.evictKernel kset w (c - 64 * s.now) extra with
    | none => none
    | some s =>
      let st : LState := if poison then .poisoned else .dirty
      let s := s.setKtag kset w (some { tag := ktagOf (line * 128), st := st, keyid := BitVec.ofNat 10 keyid,
                                        partid := BitVec.ofNat 10 partid })
      let s := s.addStaged { id := 0, slice := kset / 8192, line := line, kind := .writeData, st := st,
                             keyid := BitVec.ofNat 10 keyid, partid := BitVec.ofNat 10 partid, data := some data,
                             loc := some (kset, w), cls := cls, entered := c }
      some (s.setHuskState line .invalid)

/-- A line moves between the die and line `n` of a frame of a data port from cycle `c` on, in the first slot of class `cls` of the port
and of its check port that serves it (R344, R346); a Maintenance slot serves the engines' group (R82). -/
def State.huskMove (s : State) (port hset n cls c : Nat) : State :=
  let grp := if cls = Cls.mt then 2 else 1
  (s.serveWork 0 Leg.husk { kind := 2, row := port, cls := cls, grp := grp, arrive := c, place := some (hset, n) }
    [port, checkPort port]).2

/-- A line read from a data port whose check entry names another line is handled as uncorrectable (R347). -/
def State.checkWrong (s : State) (hset w n line : Nat) : Bool :=
  match Assoc.find? (checkKey hset w n) s.tiers.hchecks with
  | some y => y.addr != line
  | none => false

/-- A line of a Husk sector read out of its data port is uncorrectable where its check entry names another line (R347): counted, and
newly Poisoned where it was not (R376). Answers whether the data is Poisoned. -/
def State.huskChecked (s : State) (hset w n : Nat) (x : Sector) : Bool × State :=
  let line := laOfH hset x.tag n / 128
  let bad := x.st n == .poisoned
  if s.checkWrong hset w n line then
    let s := s.noteUncorrectable (32 + portOfWay hset w)
    (true, if bad then s else s.notePoison line x.keyid.toNat 1)
  else (bad, s)

/-- A line of a Husk sector is read out of its data port outside a look-up, in the port's next slot of class `cls` (R82, R344, R346; log
entry 138): counted and checked. Answers whether its data is Poisoned. -/
def State.huskTake (s : State) (hset w n : Nat) (x : Sector) (cls : Nat) : Bool × State :=
  let port := portOfWay hset w
  (((s.huskMove port hset n cls (s.now * 64)).fixed 15 1).countU 0x800 port 1).huskChecked hset w n x

/-- Write a line into a Husk line and its check entry (R344 to R347). -/
def State.writeHusk (s : State) (hset w n line : Nat) (data : Line) (poison : Bool) : State :=
  let x : HuskLine := { chans := huskSplit data, keyGen := s.mem.huskGen }
  let y : HuskCheck := { addr := line, poison := poison }
  let s := s.withTiers { s.tiers with hdata := Assoc.put (huskKey hset w n) x s.tiers.hdata,
                                      hchecks := Assoc.put (checkKey hset w n) y s.tiers.hchecks }
  (s.fixed 16 1).countU 0x801 (portOfWay hset w) 1

/-- How a write is placed. -/
structure Place where
  line : Nat
  keyid : Nat
  partid : Nat
  data : Line
  poison : Bool
  /-- The write may allocate: a staging entry is reserved (R121), or free for returned data. -/
  staging : Bool
  /-- The staging entry is not reserved but taken at the placement. -/
  extra : Nat := 0
  /-- The placement takes an entry reserved at admission; otherwise it is unreserved (R341). -/
  reserved : Bool
  /-- Streaming write-around (R153). -/
  around : Bool := false
  device : Bool := false
  /-- The mode that governs the write does not allocate (R106, R401). -/
  noAlloc : Bool
  /-- Class of the slots of the placement (Table 3.5). -/
  cls : Nat
  /-- FCLK cycle of its tag-slice slot. -/
  c : Nat
deriving DecidableEq, Repr

/-- A write goes around the tiers: every copy becomes Invalid and the line enters the posted write buffer (R153, R250,
R406). -/
def State.placeAround (s : State) (p : Place) : State :=
  let s := ((s.dropKernel p.line).setHuskState p.line .invalid).cancelHull p.line
  if p.reserved then s.enterPwb p.line p.keyid p.data p.poison true p.device true
  else s.placeUnreserved p.line p.keyid p.data p.poison

/-- Place written data (R121, R122, Table 3.6, R106, R146). DESIGN CHOICE (log entry 138): a write placed in the Husk takes a slot of its
own class on the data port and on the check port, for Table 3.5 has no row for it. -/
def State.placeWrite (s : State) (p : Place) : State :=
  let la := p.line * 128
  let hset := hsetOf la
  let s := s.supersede p.line
  if p.device || p.around then s.placeAround p
  else
    match s.kernelHit p.line with
    | some (w, t) => s.writeKernel p.line w t p.data p.poison p.partid p.cls (p.c + 4)
    | none =>
      let alloc := if p.staging && !p.noAlloc then
          s.allocWrite p.line p.keyid p.partid p.data p.poison p.cls p.c p.extra
        else none
      match alloc with
      | some s => s
      | none =>
        let tried := p.staging && !p.noAlloc && (s.chooseKernel (ksetOf la) p.partid (p.c - 64 * s.now)).isSome
        let s := if tried then s.bump Obj.allocAbandoned else s
        match s.huskSector p.line with
        | some (w, x) =>
          if x.keyid.toNat = p.keyid ∧ s.replacing hset = false then
            let st : LState := if p.poison then .poisoned else .dirty
            let s := s.huskMove (portOfWay hset w) hset (lineIn la) p.cls (p.c + 8)
            (s.setSector hset w (some (x.set (lineIn la) st))).writeHusk hset w (lineIn la) p.line p.data p.poison
          else
            let s := s.setHuskState p.line .invalid
            if p.reserved then s.enterPwb p.line p.keyid p.data p.poison true false true
            else s.placeUnreserved p.line p.keyid p.data p.poison
        | none =>
          if p.reserved then s.enterPwb p.line p.keyid p.data p.poison true false true
          else s.placeUnreserved p.line p.keyid p.data p.poison

/-- A clean fill enters the staging buffer in cycle `c`, or is dropped where the buffer is full (R120); none is made where the class
has no Kernel way (R146), the mode does not allocate (R106), or the data is Poisoned (R124). -/
def State.offerFill (s : State) (line keyid partid : Nat) (data : Line) (origin : Nat × Req) (noAlloc : Bool) (c : Nat) : State :=
  let sl := sliceOf (line * 128)
  if noAlloc || (s.classMasks partid).1 == 0 then s
  else if !s.stagingFree sl then (s.bump Obj.fillDrops).countU 0x501 sl 1
  else s.addStaged { id := 0, slice := sl, line := line, kind := .cleanFill, st := .clean,
                     keyid := BitVec.ofNat 10 keyid, partid := BitVec.ofNat 10 partid, data := some data,
                     origin := some origin, entered := c }

/-! ### Tier work in its slots -/

/-- Drop a clean fill, counted (R120). -/
def State.dropFill (s : State) (e : Staged) : State :=
  let s := match e.loc with
    | some (kset, w) => s.setKtag kset w none
    | none => s
  ((s.dropStaged e.id).bump Obj.fillDrops).countU 0x501 e.slice 1

/-- A clean fill has stood in the buffer for more than 4 strides in cycle `c` (R120). -/
def Staged.stale (e : Staged) (c : Nat) : Bool := decide (e.entered + 256 < c)

/-- KERNEL_FILL: the oldest clean fill takes a Fill slot of its slice: a victim is chosen and the entry is rewritten for
the line (R125, R126); one that the slot finds too late is dropped (R120), and none is made in Contained (R106). -/
def State.kernelFill (s : State) (sl cyc : Nat) : State :=
  match s.tiers.staging.find? fun e => e.slice == sl && e.kind == .cleanFill && e.loc.isNone with
  | none => s
  | some e =>
    match s.takeSlot 0 sl cyc Cls.fl 1 with
    | none => s
    | some s' =>
      let kset := ksetOf (e.line * 128)
      if e.stale (s.now * 64 + cyc) then s.dropFill e
      else
      let s := s'
      if (s.kernelHit e.line).isSome || s.modes.mode == .contained then s.dropStaged e.id
      else
        match s.chooseKernel kset e.partid.toNat cyc with
        | none => s.dropStaged e.id
        | some w =>
          match s.evictKernel kset w cyc 0 with
          | none => (s.dropStaged e.id).bump Obj.allocAbandoned
          | some s =>
            let s := s.setKtag kset w
              (some { tag := ktagOf (e.line * 128), st := .clean, keyid := e.keyid, partid := e.partid })
            let s := (s.updStaged e.id fun e => { e with loc := some (kset, w) }).fixed 17 1
            match e.origin with
            | some (half, q) => s.countR 0x500 sl half q 1
            | none => s

/-- FILL_DROP: a clean fill not served within 4 strides is dropped (R120). -/
def State.fillDrop (s : State) (sl cyc : Nat) : State :=
  match s.tiers.staging.find? fun e => e.slice == sl && e.kind == .cleanFill && e.stale (s.now * 64 + cyc) with
  | none => s
  | some e => s.dropFill e

/-- KERNEL_VICTIM_READOUT: the oldest victim still in its bank is read out in a bank Eviction slot (R119, R125). -/
def State.victimReadout (s : State) (sl cyc : Nat) : State :=
  match s.tiers.staging.find? fun e => e.slice == sl && e.kind == .victim && e.data.isNone with
  | none => s
  | some e =>
    match s.takeSlot 1 sl cyc Cls.ev 1 with
    | none => s
    | some s => s.updStaged e.id fun x => { x with data := some (s.stagedData e), loc := none }

/-- KERNEL_BANK_WRITE: the oldest bank write whose victim has been read out takes place in a bank slot of the class that
allocated the line (R119, R125); a clean fill that the slot finds too late is dropped (R120). -/
def State.bankWrite (s : State) (sl cyc : Nat) : State :=
  let serves : Staged → Bool := fun e => s.bankReady sl e && (s.takeSlot 1 sl cyc e.cls 1).isSome
  match s.tiers.staging.find? serves with
  | none => s
  | some e =>
    match e.loc, s.takeSlot 1 sl cyc e.cls 1 with
    | some (kset, w), some s' =>
      if e.kind == .cleanFill && e.stale (s.now * 64 + cyc) then s.dropFill e
      else
        let s := s'.withTiers { s'.tiers with kdata := Assoc.put (kset * 12 + w) (e.data.getD 0) s'.tiers.kdata }
        s.dropStaged e.id
    | _, _ => s

/-- A victim goes to the posted write buffer, under the entry reserved for it or as an unreserved placement. -/
def State.victimToPwb (s : State) (e : Staged) : State :=
  let s := (s.dropStaged e.id).countU 0x505 e.slice 1
  let poison := e.st == .poisoned
  let data := e.data.getD 0
  if e.pwbReserved then s.enterPwb e.line e.keyid.toNat data poison false false false
  else s.placeUnreserved e.line e.keyid.toNat data poison

/-- Reserve Hull entries for the owed lines of a victim sector (R133). An older entry of the line that has not been issued
holds superseded data and is freed: at most one unissued write to a line is pending below the tiers (after R138; DEDUCED, log
entry 120). -/
def State.reserveHull (s : State) (hset w : Nat) (x : Sector) : State :=
  let s := x.owedLines.foldl (fun s n =>
    let e : Hull := { id := s.tiers.nextId, line := laOfH hset x.tag n / 128, keyid := x.keyid,
                      poison := x.st n == .poisoned, data := none, src := (hset, w) }
    let older := s.tiers.hull.filter fun y => y.line != e.line
    (s.withTiers { s.tiers with hull := older ++ [e], nextId := s.tiers.nextId + 1 })) s
  s.peak Obj.hullPeak s.tiers.hull.length

/-- Start a replacement, or the emptying of a sector (R133, R134). -/
def State.startRepl (s : State) (hset w : Nat) (x : Sector) (incoming : Option Sector) (keep : Bool) : State :=
  let s := s.reserveHull hset w x
  let r : Repl := { hset := hset, way := w, left := x.owedLines, incoming := incoming, keep := keep }
  let s := s.withTiers { s.tiers with repl := s.tiers.repl ++ [r] }
  if incoming.isSome then (s.fixed 19 1).countU 0x506 (hset / 32768) 1 else s

/-- DIRTY_VICTIM_PLACEMENT: the oldest dirty victim's placement is chosen in its Writeback slot (R129, R561). -/
def State.dirtyPlacement (s : State) (sl cyc : Nat) : State :=
  match s.tiers.staging.find? fun e =>
      e.slice == sl && e.kind == .victim && e.st.owed && e.data.isSome && e.target.isNone with
  | none => s
  | some e =>
    match s.takeSlot 0 sl cyc Cls.wb 1 with
    | none => s
    | some s =>
      let hset := hsetOf (e.line * 128)
      let n := lineIn (e.line * 128)
      let aim : State → Nat → State := fun s w =>
        (s.updStaged e.id fun e => { e with target := some (hset, w), pwbReserved := false }).countU 0x504 sl 1
      let fresh : Sector := { tag := htagOf (e.line * 128), keyid := e.keyid, partid := e.partid }
      match s.huskPlace e.line e.keyid.toNat e.partid.toNat cyc with
      | .present w =>
        match s.sector hset w with
        | some x => aim (s.setSector hset w (some (x.set n e.st))) w
        | none => s
      | .take w => aim (s.setSector hset w (some (fresh.set n e.st))) w
      | .replace w =>
        match s.sector hset w with
        | some x => aim (s.startRepl hset w x (some (fresh.set n e.st)) false) w
        | none => s
      | .bypass =>
        let barred := s.modes.mode.noAlloc && (s.huskSector e.line).isNone
        let s := if s.kernelOnly || barred then s else s.bump Obj.huskBypass
        s.victimToPwb e

/-- HUSK_WRITEBACK: a victim is written into the sector chosen for it with the state that it has by then (Table 3.9, R347), with
its check entry, in a Writeback slot of its data port and of the check port (R119, R129, R346). -/
def State.huskWriteback (s : State) (port slot : Nat) : State :=
  match s.tiers.staging.find? (s.huskReady port) with
  | none => s
  | some e =>
    match e.target, s.takeSlots 2 port (checkPort port) slot Cls.wb 1 (some (hsetOf (e.line * 128), lineIn (e.line * 128))) with
    | some (hset, w), some s =>
      let n := lineIn (e.line * 128)
      let s := match s.sector hset w with
        | some x => s.setSector hset w (some (x.set n e.st))
        | none => s
      (s.writeHusk hset w n e.line (e.data.getD 0) (e.st == .poisoned)).dropStaged e.id
    | _, _ => s

/-- Why a clean offer is declined (Table 3.7), or where it is placed. -/
inductive Offer where
  | accepted | declined (reason : Nat) | present (w : Nat) | take (w : Nat)
deriving DecidableEq, Repr

/-- The first reason that applies among those with a flag. -/
def firstReason (l : List (Nat × Bool)) : Option Nat := (l.find? (·.2)).map (·.1)

/-- A Husk Fill slot on the port, and on its check port, can be booked within the Fill HORIZON of the offer (Table 3.7); the
line stands at the port 4 cycles after the end of the tag-slice slot's look-up. -/
def State.fillSlot (s : State) (port line cyc : Nat) : Option State :=
  let now := s.now * 64 + cyc
  let w : Want := { kind := 2, row := port, cls := Cls.fl, arrive := now + 8, place := some (hsetOf (line * 128), lineIn (line * 128)) }
  match s.searchSlot w fun t k => s.canBook now w t k && s.room 2 (checkPort port) t k (rowShare 2 (checkPort port) 8) with
  | some (t, k) => some (s.takeRows w [port, checkPort port] t k)
  | none => none

/-- The outcome of a clean offer (R127, R353). -/
def State.offer (s : State) (e : Staged) (cyc : Nat) : Offer :=
  let la := e.line * 128
  let hset := hsetOf la
  let general := [(6, s.eff Obj.huskCleanOffer == 0), (7, s.modes.mode.noAlloc)]
  match s.huskSector e.line with
  | some (w, x) =>
    let st := x.st (lineIn la)
    if st = .clean ∨ st = .dirty then .accepted
    else
      let port := portOfWay hset w
      match firstReason ([(1, (s.fillSlot port e.line cyc).isNone), (4, s.replacing hset || s.portState port == 3),
          (5, x.keyid != e.keyid)] ++ general) with
      | some r => .declined r
      | none => .present w
  | none =>
    match s.chooseHusk hset e.partid.toNat cyc with
    | none => match firstReason ([(3, true)] ++ general) with
      | some r => .declined r
      | none => .accepted
    | some w =>
      let owed := match s.sector hset w with | some x => x.dcnt != 0 | none => false
      match firstReason ([(1, (s.fillSlot (portOfWay hset w) e.line cyc).isNone), (2, owed), (4, s.replacing hset)] ++ general) with
      | some r => .declined r
      | none => .take w

/-- CLEAN_OFFER: the oldest clean victim is offered to the Husk (R127, R128). -/
def State.cleanOffer (s : State) (sl cyc : Nat) : State :=
  match s.tiers.staging.find? fun e => e.slice == sl && e.kind == .victim && e.st == .clean && e.data.isSome with
  | none => s
  | some e =>
    match s.takeSlot 0 sl cyc Cls.fl 1 with
    | none => s
    | some s =>
      let la := e.line * 128
      let hset := hsetOf la
      let booked : State → Nat → State := fun s port => (s.fillSlot port e.line cyc).getD s
      let write : State → Nat → Sector → State := fun s w x =>
        let st : LState := if x.st (lineIn la) = .poisoned then .dirty else .clean
        let s := booked s (portOfWay hset w)
        let s := (s.setSector hset w (some (x.set (lineIn la) st))).writeHusk hset w (lineIn la) e.line (e.data.getD 0) false
        (s.dropStaged e.id).countU 0x502 sl 1
      match s.offer e cyc with
      | .accepted => s.dropStaged e.id
      | .declined r => ((s.dropStaged e.id).bump (Obj.declineCount + r - 1)).countU 0x503 sl 1
      | .present w => match s.sector hset w with
        | some x => write s w x
        | none => s
      | .take w => write s w { tag := htagOf la, keyid := e.keyid, partid := e.partid }

/-- SECTOR_REPLACEMENT_READ: one owed line of a victim sector on the port is read into its Hull entry, with the mark that the
line carries by then, in an Eviction slot of the data port and of its check port (R119, R134). -/
def State.sectorRead (s : State) (port slot : Nat) : State :=
  match s.tiers.repl.find? fun r => portOfWay r.hset r.way == port && !r.left.isEmpty with
  | none => s
  | some r =>
    match r.left, s.sector r.hset r.way, s.takeSlots 2 port (checkPort port) slot Cls.ev 1 (r.left.head?.map (r.hset, ·)) with
    | n :: rest, some x, some s =>
      let line := laOfH r.hset x.tag n / 128
      let d := s.huskData r.hset r.way n
      let (bad, s) := s.huskChecked r.hset r.way n x
      let hull := updFirst (fun (e : Hull) => e.line == line && e.data.isNone)
        (fun e => { e with data := some d, poison := e.poison || bad }) s.tiers.hull
      let repl := updFirst (fun y => y.hset == r.hset && y.way == r.way) (fun y => { y with left := rest }) s.tiers.repl
      (((s.withTiers { s.tiers with hull := hull, repl := repl }).fixed 15 1).countU 0x800 port 1)
    | _, _, _ => s

/-- A kept sector after a Drain walk has moved the lines `l`: Dirty becomes Clean, Poisoned Invalid (Table 3.9). -/
def Sector.walked (x : Sector) (l : List Nat) : Sector :=
  (x.owedLines.filter l.contains).foldl (fun y n => y.set n (if x.st n = .dirty then .clean else .invalid)) x

/-- SECTOR_TAG_WRITE: after the last read, the new sector takes the way, or the sector is emptied, in a tag-slice Eviction slot
(R119, R134, R352, R407). -/
def State.sectorTagWrite (s : State) (sl cyc : Nat) : State :=
  match (s.tiers.repl.find? fun r => r.hset / 32768 == sl && r.left.isEmpty), s.takeSlot 0 sl cyc Cls.ev 1 with
  | none, _ | _, none => s
  | some r, some s =>
    let s := if r.keep then
        match s.sector r.hset r.way with
        | some x => s.setSector r.hset r.way (some (x.walked r.lines))
        | none => s
      else s.setSector r.hset r.way r.incoming
    (s.withTiers { s.tiers with repl := dropFirst (fun y => y.hset == r.hset && y.way == r.way) s.tiers.repl })

/-- STREAM_EXIT: detectors leave streaming at the gap, or where streaming is disabled (R151, R152). -/
def State.streamExit (s : State) : State :=
  let gap := s.eff Obj.streamGap
  let off := s.eff Obj.streamThreshold == 0
  let f : Stream → Stream := fun d =>
    if d.streaming && (off || decide (d.ascStride + gap ≤ s.now)) then { d with streaming := false, count := 0 } else d
  (s.withTiers { s.tiers with streams := s.tiers.streams.map fun x => (x.1, f x.2) })

/-- The detector of a slice and queue after a counted write (R150); the second part says whether it entered streaming. -/
def streamUpdate (d : Stream) (threshold line now : Nat) : Stream × Bool :=
  let asc := decide (0 < d.count) && decide (d.last < line) && decide (line ≤ d.last + 0x40000 / 128)
  let d' := if asc then { d with count := min (d.count + 1) threshold, ascStride := now } else { d with count := 1 }
  let d' := { d' with last := line }
  if threshold ≠ 0 ∧ threshold ≤ d'.count ∧ d'.streaming = false then
    ({ d' with streaming := true, ascStride := now }, true)
  else (d', false)

/-- A detector. -/
def State.stream (s : State) (sl q : Nat) : Stream := Assoc.getD s.tiers.streams (sl * 16384 + q) {}

/-- STREAM_UPDATE: a counted write reaches its detector (R150). -/
def State.streamWrite (s : State) (sl q line : Nat) : State :=
  let (d, entered) := streamUpdate (s.stream sl q) (s.eff Obj.streamThreshold) line s.now
  let s := s.withTiers { s.tiers with streams := Assoc.putD s.tiers.streams (sl * 16384 + q) {} d }
  if entered then s.bump Obj.streamEntries else s

/-- A link reset resets the detectors of a half's queues (R154). -/
def State.resetStreams (s : State) (half : Nat) : State :=
  s.withTiers { s.tiers with streams := s.tiers.streams.filter fun x => x.1 % 16384 / 512 != half }

/-! ### Meanings -/

/-- KERNEL_FILL (R125). -/
def execKernelFill (slice : Fin 16) (cyc : Fin 64) (s : State) : Host.Outcome State Fault Refusal :=
  .next (s.kernelFill slice.val cyc.val)

/-- FILL_DROP (R120). -/
def execFillDrop (slice : Fin 16) (cyc : Fin 64) (s : State) : Host.Outcome State Fault Refusal :=
  .next (s.fillDrop slice.val cyc.val)

/-- KERNEL_VICTIM_READOUT (R125). -/
def execKernelVictimReadout (slice : Fin 16) (cyc : Fin 64) (s : State) : Host.Outcome State Fault Refusal :=
  .next (s.victimReadout slice.val cyc.val)

/-- KERNEL_BANK_WRITE (R125). -/
def execKernelBankWrite (slice : Fin 16) (cyc : Fin 64) (s : State) : Host.Outcome State Fault Refusal :=
  .next (s.bankWrite slice.val cyc.val)

/-- DIRTY_VICTIM_PLACEMENT (R561). -/
def execDirtyVictimPlacement (slice : Fin 16) (cyc : Fin 64) (s : State) : Host.Outcome State Fault Refusal :=
  .next (s.dirtyPlacement slice.val cyc.val)

/-- HUSK_WRITEBACK (R129). -/
def execHuskWriteback (port : Fin 16) (slot : Fin 32) (s : State) : Host.Outcome State Fault Refusal :=
  .next (s.huskWriteback port.val slot.val)

/-- CLEAN_OFFER (R127). -/
def execCleanOffer (slice : Fin 16) (cyc : Fin 64) (s : State) : Host.Outcome State Fault Refusal :=
  .next (s.cleanOffer slice.val cyc.val)

/-- SECTOR_REPLACEMENT_READ (R134). -/
def execSectorReplacementRead (port : Fin 16) (slot : Fin 32) (s : State) : Host.Outcome State Fault Refusal :=
  .next (s.sectorRead port.val slot.val)

/-- STREAM_EXIT (R151). -/
def execStreamExit (s : State) : Host.Outcome State Fault Refusal := .next s.streamExit

end Sys2Proof.Machine
end

