-- ==== Sys2Proof/Machine/HomeData.lean ====
section
/-!
DEFINITION. What the home reads and sends (04): the classes of requests (Table 4.5), messages to agents with the egress
slots they take (R184, R72), samples and histograms of the reads they end (R503 to R506), directory entries (R168 to
R174), and home data: the first valid copy of a line under R102, as the error code of its unit leaves it (R364 to R367).
-/
namespace Sys2Proof.Machine

/-- The physical address of a local address of this device, inverting R30. -/
def paOf (la n idx : Nat) : Nat :=
  let q := la / 4096
  let g := if n = 1 then q
    else if n = 3 then 3 * q + idx
    else
      let b := if n = 2 then 1 else 2
      let hi := q <<< b
      hi + ((idx ^^^ ab hi 9 8 ^^^ ab hi 17 16) % 2 ^ b)
  (g <<< 12) + la % 4096

/-- The physical address of a line of this device. -/
def State.paLine (s : State) (line : Nat) : Nat := paOf (line * 128) s.domainSize s.domainIndex / 128

/-! ### Transactions -/

/-- A transaction or tracked request. -/
def State.txn (s : State) (id : Nat) : Option Txn := s.home.txns.find? fun t => t.id == id

/-- Change a transaction. -/
def State.updTxn (s : State) (id : Nat) (f : Txn → Txn) : State :=
  s.withHome { s.home with txns := updFirst (fun t => t.id == id) f s.home.txns }

/-- Remove a transaction. -/
def State.dropTxn (s : State) (id : Nat) : State :=
  s.withHome { s.home with txns := s.home.txns.filter fun t => t.id != id }

/-- Add a transaction. -/
def State.addTxn (s : State) (t : Txn) : State := s.withHome { s.home with txns := s.home.txns ++ [t] }

/-- HTID of a transaction (R173). -/
def Txn.htid (t : Txn) : BitVec 13 := BitVec.ofNat 13 (t.slice * 512 + t.tracker.getD 0)

/-- Tether queue of a transaction's request. -/
def Txn.queue (t : Txn) : Nat := queueId (t.half.getD 0) t.req.stream.toNat

/-- The transaction active on a line. -/
def State.activeOn (s : State) (line : Nat) : Option Txn := s.home.txns.find? fun t => t.line == line && t.phase == .active

/-- The line's sector is being emptied, with all its lines blocked (R352). -/
def State.sectorBusy (s : State) (line : Nat) : Bool :=
  match s.huskSector line with
  | some (w, _) => s.tiers.repl.any fun r =>
      r.hset == hsetOf (line * 128) && r.way == w && r.incoming.isNone && !r.keep
  | none => false

/-- A line is blocked, or reserved for a head waiter other than `id` (R207, R209). -/
def State.lineHeld (s : State) (line id : Nat) : Bool :=
  s.sectorBusy line ||
    s.home.txns.any fun t => t.line == line && t.id != id && (t.phase == .active || t.phase == .reserved)

/-! ### Samples and histograms -/

/-- Stages 5 and 6 of a tagged request: its egress slot begins in cycle `c`, and its first bit is at the balls 12 cycles later; `lost` is
what its latency excludes (R503). -/
def State.stampOut (s : State) (id c lost : Nat) : State :=
  s.withPmu { s.pmu with tags := s.pmu.tags.map fun g =>
      if g.id = id then { g with stamps := setAt (setAt g.stamps 4 c) 5 (c + 12), lost := lost } else g }

/-- Timestamp stage `i` of a tagged request (R503). -/
def State.stamp (s : State) (id i cyc : Nat) : State :=
  s.withPmu { s.pmu with tags := s.pmu.tags.map fun g =>
      if g.id = id then { g with stamps := setAt g.stamps (i - 1) cyc } else g }

/-- S3 of a tagged request: its data source starts in the slot of a row kind that begins in cycle `c` (R503). -/
def State.stampSource (s : State) (id kind c : Nat) : State :=
  s.withPmu { s.pmu with tags := s.pmu.tags.map fun g =>
      if g.id = id then { g with stamps := setAt g.stamps 2 c, source := kind } else g }

/-- Note the outcome of a tagged request (Table 13.5). -/
def State.tagOutcome (s : State) (id outcome : Nat) : State :=
  s.withPmu { s.pmu with tags := s.pmu.tags.map fun g => if g.id = id then { g with outcome := outcome } else g }

/-- Offset of a stage from T0 (R503). -/
def Tagged.offset (g : Tagged) (i : Nat) : Nat :=
  let c := g.stamps.getD (i - 1) 0
  if c = 0 then 0xFFFF else min (c - g.t0 - (if i = 5 ∨ i = 6 then g.lost else 0)) 0xFFFE

/-- Slot of a row kind in which an FCLK cycle lies. -/
def slotOfCycle (kind c : Nat) : Nat :=
  match kind with
  | 2 => c % 64 / 2
  | 3 => c % 64 / 4
  | 4 => c % 64 * 28 / 64
  | _ => c % 64

/-- The record of one tag of a request that has ended, counted where its ring writes it (R504, Table 13.5). -/
def State.sampleOne (s : State) (t : Txn) (cyc : Nat) (g0 : Tagged) : State :=
  let g := { g0 with stamps := setAt g0.stamps 6 cyc }
  let r := t.req
  let st := fun i => g.stamps.getD (i - 1) 0
  let src := if st 3 = 0 then 0 else slotOfCycle g.source (st 3)
  let w2 := (g.counter <<< 56) + (g.outcome <<< 52) + r.addr.toNat
  let w3 := (r.op <<< 58) + (t.half.getD 0 <<< 53) + (r.stream.toNat <<< 44) + (r.tag.toNat <<< 32)
    + (r.partid.toNat <<< 22) + (r.keyid.toNat <<< 12)
  let w4 := g.offset 1 + (g.offset 2 <<< 16) + (g.offset 3 <<< 32) + (g.offset 4 <<< 48)
  let w5 := g.offset 5 + (g.offset 6 <<< 16) + (g.offset 7 <<< 32) + (min (st 1 / 64 - t.entered) 0xFFFF <<< 48)
  let w6 := (t.htid.toNat <<< 51) + (t.grant.toNat <<< 48) + ((if t.promoted then 1 else 0) <<< 47)
    + ((if g.poison then 1 else 0) <<< 46) + (min t.refusals 255 <<< 38) + (g.t0 % 64 <<< 32)
    + (slotOfCycle 0 (st 2) <<< 26) + (src <<< 20) + (slotOfCycle 4 (st 5) <<< 15)
  let rec_ : Record := { source := 0x100 + g.counter, count := 1, stride := g.t0 / 64,
                         words := [w64 w2, w64 w3, w64 w4, w64 w5, w64 w6] }
  let s' := s.record (0x100 + g.counter) rec_
  let ring := bitsOf (s.srcConfig (0x100 + g.counter)) 5 0
  if (s'.ring ring).wptr == (s.ring ring).wptr then s' else s'.bump Obj.samplesTaken

/-- The sampling counters of `l` that search tag a request at its acceptance in cycle `c` (R502, R503). -/
def State.tagAccepted (s : State) (id c t0 : Nat) (l : List Nat) : State :=
  let hits := s.pmu.armed.filter l.contains
  let new := hits.map fun n => ({ counter := n, id := id, stamps := [c, 0, 0, 0, 0, 0, 0], t0 := t0 } : Tagged)
  s.withPmu { s.pmu with armed := s.pmu.armed.filter fun n => !hits.contains n, tags := s.pmu.tags ++ new }

/-- The sampling counters that search for a request like this one (R502). -/
def State.searching (s : State) (unit half : Nat) (r : Req) : List Nat := s.pmu.armed.filter fun n => s.filterReq n unit half r

/-- Count an accepted request (Tables 13.1, 13.3). -/
def State.countAccepted (s : State) (unit half : Nat) (r : Req) (replay : Bool) : State :=
  let s := (s.fixed 2 1).countR 0x000 unit half r 1
  let s := if isRead r.op then s.fixed 3 1 else if r.op = Op.barrier ∨ r.op = Op.evictClean then s else s.fixed 4 1
  if replay then s.countR 0x005 unit half r 1 else s

/-- A tracked request is accepted for good: its look-up neither refuses it nor makes it wait (R211, R502; log entry 156). It counts, and
the sampling counters tag it that have searched for it since its admission. -/
def State.accepted (s : State) (t : Txn) : State :=
  if t.counted then s
  else
    let s := (s.countAccepted t.slice (t.half.getD 0) t.req t.replay).tagAccepted t.id t.acceptAt t.crossed t.tagFor
    s.updTxn t.id fun t => { t with counted := true }

/-- SAMPLE_RECORD: the records of a tagged request that has ended (R504). -/
def State.sampleRecord (s : State) (t : Txn) (cyc : Nat) : State :=
  let mine := s.pmu.tags.filter fun g => g.id == t.id
  if mine.isEmpty then s
  else
    let s := s.withPmu { s.pmu with tags := s.pmu.tags.filter fun g => g.id != t.id }
    mine.foldl (fun s g => s.sampleOne t cyc g) s

/-- A tagged request that ends without a record (R504). -/
def State.abandonSample (s : State) (id : Nat) : State :=
  let n := (s.pmu.tags.filter fun g => g.id == id).length
  if n = 0 then s
  else (s.withPmu { s.pmu with tags := s.pmu.tags.filter fun g => g.id != id }).bumpN Obj.samplesAbandoned n

/-- `hist_bin` (R505). -/
def histBin (L : Nat) : Nat :=
  if L < 32 then 0
  else
    let e := Nat.log2 L
    min (4 * (e - 5) + (L >>> (e - 2)) % 4 + 1) 31

/-- Change the live histogram of an enabled half. -/
def State.hist (s : State) (half : Nat) (f : Hist → Hist) : State :=
  if (s.eff Obj.histEnable).testBit half then
    s.withPmu { s.pmu with live := Assoc.put half (f (Assoc.getD s.pmu.live half {})) s.pmu.live }
  else s

/-- A read of latency `L` of a half is counted (R505, R506). -/
def State.histAdd (s : State) (half L : Nat) : State :=
  s.hist half fun h =>
    { h with bins := setAt h.bins (histBin L) (h.bins.getD (histBin L) 0 + 1), reads := h.reads + 1, max := max h.max L,
             overs := h.overs + (if 480 < L then 1 else 0) }

/-- A read-type request's first data flit leaves after egress slot cycle `egress` (R505, R506): `L` runs from T0, 13
cycles before acceptance at the port, to 12 cycles after the egress slot begins (the stages of the example of R508), less the
time for which the link was suspended since the acceptance (R306). It is counted in the stride in which the slot lies (R491). -/
def State.histRead (s : State) (half t0 lost0 egress : Nat) : State :=
  if !s.halfUp half then s
  else if egress / 64 ≤ s.now ∧ (s.link half).suspended.isNone then
    s.histAdd half (egress + 12 - t0 - ((s.link half).lost - lost0))
  else s.countLater egress (.read half t0 lost0)

/-! ### Messages to agents -/

/-- A message leaves a half's port in the egress slot that begins in cycle `c`: it waits for the slot's flits; it is dropped
where the half has departed (R324). -/
def State.toHalf (s : State) (half c : Nat) (m : OutMsg) : State :=
  if s.halfUp half then
    let l := s.link half
    (s.setLink half { l with outbox := l.outbox ++ [(c, m)] }).emit m
  else s

/-- A message that seeks an egress slot of a half's port: of its class, its group or owner 0x01, from cycle `arrive` on;
`size` is the number of 16 B payload slots it fills, 1 or 8 (R20, R72). -/
def outWant (half cls grp arrive size : Nat) : Want :=
  { kind := 4, row := half / 2, cls := cls, grp := grp, arrive := arrive, half := half, size := size }

/-- On a reduced link each carried slot serves the oldest booking first: a booking of work `id` exchanges its slot for the earliest
one from cycle `arrive` on that a newer booking of the half holds, where both fit the other's slot (R20, R285). -/
def State.oldestFirst (s : State) (id purpose half arrive : Nat) : State :=
  let mine : Booking → Bool := fun b => b.work == id && b.purpose == purpose && b.kind == 4
  match s.gait.ledger.find? mine with
  | none => s
  | some b =>
    let used : Booking → Nat := fun y =>
      (s.gait.ledger.filter fun z => z.kind == 4 && z.row == y.row && z.stride == y.stride && z.slot == y.slot).foldl
        (fun n z => n + z.size) 0
    let fits : Booking → Booking → Bool := fun x y => decide (used x - x.size + y.size ≤ 8)
    let newer := (s.gait.ledger.dropWhile fun x => !mine x).filter fun x =>
      x.kind == 4 && x.half == half && x.work != 0 && x.work != id && decide (arrive ≤ x.cycle) && decide (x.cycle < b.cycle)
        && fits x b && fits b x
    match newer.foldl (fun (m : Option Booking) x => match m with
        | none => some x
        | some y => if x.cycle < y.cycle then some x else m) none with
    | none => s
    | some x =>
      let swap : Booking → Booking := fun y =>
        if y == b then { y with stride := x.stride, slot := x.slot } else
        if y == x then { y with stride := b.stride, slot := b.slot } else y
      s.withGait { s.gait with ledger := s.gait.ledger.map swap }

/-- The egress slot of a message of work `id` (R184, R72): its booking for one of `purposes`, an earlier slot that serves it, or
the first slot that does. Answers the slot's first cycle. -/
def State.egress (s : State) (id : Nat) (purposes : List Nat) (w : Want) : Nat × State :=
  if !s.halfUp w.half then (w.arrive, s)
  else
    let purpose := (purposes.find? fun p => (s.bookingOf id p).isSome).getD Leg.out
    let s := if s.reduced w.half then s.oldestFirst id purpose w.half w.arrive else s
    s.serveWork id purpose w [w.row]

/-- A response of a transaction to its requester (R184), sent by its home from cycle `now` on; it reaches the port 8 cycles later
(the rest of the look-up and the wire, R71). It is dropped where the requester has departed (Table 5.6). Answers the first cycle
of its egress slot. -/
def State.respondAt (s : State) (t : Txn) (op : Nat) (htid : BitVec 13) (now : Nat) : Nat × State :=
  match t.half with
  | none => (now, s)
  | some h =>
    if t.gone then (now, s)
    else
      let cls := rspClass t.req.op op
      let booked := if cls = outClass t.req.op then [Leg.out, Leg.outKernel] else []
      let (c, s) := s.egress t.id booked { outWant h cls t.group (now + 8) 1 with promoted := t.promoted }
      let s := s.stampOut t.id c ((s.link h).lost - t.lostAt)
      (c, s.toHalf h c (.rsp h (BitVec.ofNat 6 op) t.req.tag htid))

/-- A response of a transaction to its requester. -/
def State.respond (s : State) (t : Txn) (op : Nat) (htid : BitVec 13) (now : Nat) : State := (s.respondAt t op htid now).2

/-- A DAT message leaves a half's port: counted (Tables 13.1, 13.3; R377, R506). -/
def State.datLeaves (s : State) (half line : Nat) (tag : BitVec 12) (poison : Bool) : State :=
  if !s.halfUp half then s
  else
    let s := (s.countU 0x902 half 1).hist half fun h => { h with bytesOut := h.bytesOut + 128 }
    if poison then
      ((s.bump Obj.poisonServed).fixed 28 1).raise 0xC1 [w64 (line * 128), w64 half, w64 tag.toNat]
    else s

/-- A DAT message leaves a half's port in the egress slot of cycle `c`, in whose stride it is counted (R491). -/
def State.datOut (s : State) (half line : Nat) (tag : BitVec 12) (poison : Bool) (c : Nat) : State :=
  if c / 64 ≤ s.now ∧ (s.link half).suspended.isNone then s.datLeaves half line tag poison
  else s.countLater c (.datOut half line tag poison)

/-- An event waits for the end of its link's suspension (R306). -/
def State.eventHeld (s : State) : PmuEvent → Bool
  | .datOut half _ _ _ | .read half _ _ => (s.link half).suspended.isSome
  | _ => false

/-- An event that work fixed ahead for cycle `c` happens (R491). -/
def State.doEvent (s : State) (c : Nat) : PmuEvent → State
  | .unit code unit n => s.countU code unit n
  | .fixed i n => s.fixed i n
  | .datOut half line tag poison => s.datLeaves half line tag poison
  | .read half t0 lost0 => s.histRead half t0 lost0 c

/-- The events of the strides that have ended happen (R491, R496). -/
def State.dueEvents (s : State) : State :=
  let due : Nat × PmuEvent → Bool := fun x => decide (x.1 / 64 < s.now) && !s.eventHeld x.2
  (s.pmu.later.filter due).foldl (fun s x => s.doEvent x.1 x.2) (s.withPmu { s.pmu with later := s.pmu.later.filter fun x => !due x })

/-- CompData to the requester in an egress Demand read slot (R184): the booked one of one of `purposes`, or the first that serves
it (R72). It is dropped where the requester has departed (Table 5.6). Answers the slot's first cycle. -/
def State.sendData (s : State) (t : Txn) (data : Line) (poison : Bool) (purposes : List Nat) (arrive : Nat) : Nat × State :=
  match t.half with
  | none => (arrive, s)
  | some h =>
    if t.gone then (arrive, s)
    else
      let (c, s) := s.egress t.id purposes { outWant h Cls.dr t.group arrive 8 with promoted := t.promoted }
      let s := (s.stamp t.id 4 arrive).stampOut t.id c ((s.link h).lost - t.lostAt)
      let s := s.withPmu { s.pmu with tags := s.pmu.tags.map fun (g : Tagged) => if g.id = t.id then { g with poison := poison } else g }
      let s := s.toHalf h c (.compData h t.req.tag t.htid t.grant t.pend poison data)
      let s := s.datOut h t.line t.req.tag poison c
      (c, if isRead t.req.op then s.histRead h (t.acceptAt - 13) t.lostAt c else s)

/-- A Refused message in an egress slot of the request's admission class (Table 7.13), counted at the half (R319). RETRY_AT is carried where it is in force (Table 7.6). -/
def State.sendRefused (s : State) (half : Nat) (q : Req) (reason cause wait slice now : Nat) : State :=
  let wait := min 255 (max 1 wait)
  let retryAt := if (s.link half).features.getLsbD 4 then (s.now + wait) % 1024 else 0
  let (c, s) := s.egress 0 [] (outWant half (failClass q.op) 1 (now + 8) 1)
  let s := s.toHalf half c (.refused half q.tag (BitVec.ofNat 8 (reason + (cause <<< 4))) (BitVec.ofNat 8 wait)
    (BitVec.ofNat 10 retryAt))
  let s := s.bump ((if reason = 1 then Obj.retrySlotSent else if reason = 2 then Obj.quotaRefusals
    else Obj.containedRefusals) + half * 256)
  let s := (s.fixed 9 1).countR 0x001 slice half q 1
  if reason = 1 then s.countR (if cause = 0 then 0x002 else 0x003) slice half q 1
  else if reason = 2 then s.countR 0x004 slice half q 1
  else s

/-! ### The directory -/

/-- Directory entry of a set and way. -/
def State.dirEnt (s : State) (dset w : Nat) : Option DirEnt := Assoc.find? (dset * 16 + w) s.home.dir

/-- Write a directory entry; none makes it Invalid. -/
def State.setDir (s : State) (dset w : Nat) (e : Option DirEnt) : State :=
  let s := s.withHome { s.home with dir := match e with
      | some e => Assoc.put (dset * 16 + w) e s.home.dir
      | none => Assoc.drop (dset * 16 + w) s.home.dir }
  s.peak Obj.dirPeak s.home.dir.length

/-- A directory way is retired in its set (R382). -/
def State.dExcluded (s : State) (dset w : Nat) : Bool :=
  (s.retiredWays 2 (dset / 16384) (dset % 16384 / 1024)).contains w

/-- The way that holds a line's entry (R171). -/
def State.dirHit (s : State) (line : Nat) : Option (Nat × DirEnt) :=
  let dset := dsetOf (line * 128)
  (List.range 16).findSome? fun w =>
    match s.dirEnt dset w with
    | some e => if e.dtag = dtagOf (line * 128) ∧ s.dExcluded dset w = false then some (w, e) else none
    | none => none

/-- A way of a set is kept for a transaction that has chosen it (R175). -/
def State.dirKept (s : State) (dset w : Nat) : Bool :=
  s.home.txns.any fun t => dsetOf (t.line * 128) == dset && t.dirWay == some w && t.phase == .active

/-- `choose_dir_way` (R174): the way, and the victim's entry where it is valid. A way chosen by another transaction is
not chosen again, nor is the entry of a line whose sector is being emptied, which is blocked (R352). -/
def State.chooseDir (s : State) (dset cyc : Nat) : Option (Nat × Option DirEnt) :=
  let emptied : Nat → Bool := fun w => match s.dirEnt dset w with
    | some e => s.sectorBusy (laOfD dset e.dtag / 128)
    | none => false
  let ways := (List.range 16).filter fun w =>
    !s.dExcluded dset w && !s.dirKept dset w && !s.farrierHolds 2 (dset / 16384) (dset % 16384) w && !emptied w
  match ways.find? fun w => (s.dirEnt dset w).isNone with
  | some w => some (w, none)
  | none =>
    let inSt : DirSt → List Nat := fun st => ways.filter fun w =>
      match s.dirEnt dset w with
      | some e => e.st == st && !e.blocked
      | none => false
    let cand := if (inSt .shared).isEmpty then inSt .owned else inSt .shared
    let r := (s.lfsrAt (dset / 16384) cyc).toNat % 65536
    match cand[(r * cand.length) >>> 16]? with
    | some w => some (w, s.dirEnt dset w)
    | none => none

/-! ### Home data -/

/-- Flip the data bits that a SECDED pattern names: (32 B word, bit). -/
def flipWords (d : Line) (e : ErrPattern) : Line :=
  e.foldl (fun d (p : Nat × Nat) => if p.2 < 256 then d ^^^ ((1 : Line) <<< (p.1 % 4 * 256 + p.2)) else d) d

/-- Add error values to the data symbols that a Husk pattern names. -/
def flipSymbols (d : Line) (e : ErrPattern) : Line :=
  e.foldl (fun d (p : Nat × Nat) => if p.1 < 128 then d ^^^ (BitVec.ofNat 1024 (p.2 % 256) <<< (8 * p.1)) else d) d

/-- Add error values to the data bytes that a DDR5 pattern names (R365). -/
def flipDdr (d : Line) (e : ErrPattern) : Line :=
  e.foldl (fun d (p : Nat × Nat) =>
    if p.1 % 80 < 64 ∧ p.1 < 160 then
      d ^^^ (BitVec.ofNat 1024 (p.2 % 256) <<< (8 * (p.1 / 80 * 64 + p.1 % 80)))
    else d) d

/-- The data that a read returns under a code's outcome, and whether it is Poisoned: corrected data, the stored data
with its errors where the code finds them uncorrectable, and a free value where the code is blind to them. -/
def State.decodedLine (s : State) (o : Decoded) (good bad : Line) : (Line × Bool) × State :=
  match o with
  | .clean | .corrected _ => ((good, false), s)
  | .uncorrectable => ((bad, true), s)
  | .beyond =>
    let (d, s) := s.draw 1024
    ((d, false), s)

/-- A scrub unit of a tag slice (Table 9.2): Kernel, Husk or directory set. -/
inductive TagUnit where
  | kernel (kset : Nat) | husk (hset : Nat) | dir (dset : Nat)
deriving DecidableEq, Repr

/-- Unit `u` of slice `row`. -/
def tagUnit (row u : Nat) : TagUnit :=
  if u < 8192 then .kernel (row * 8192 + u)
  else if u < 40960 then .husk (row * 32768 + (u - 8192))
  else .dir (row * 16384 + (u - 40960))

/-- Frame and line of a Husk unit as (Husk set, way, line) on data port `port`. -/
def huskUnit (port u : Nat) : Nat × Nat × Nat := (u / 32, wayOnPort (u / 32) port, u % 32)

/-- The line of a DDR5 unit of a channel (R373). -/
def ddrUnit (ch u : Nat) : Nat := laOfC ch (u * 128) / 128

/-- A Kernel tag entry as its 48 bits (Table 3.3); an entry that is Invalid holds zeros. -/
def kernelWord : Option KTag → BitVec 48
  | none => 0
  | some t =>
    let d : BitVec 41 := BitVec.ofNat 41 (t.tag + (t.st.code <<< 18) + (t.keyid.toNat <<< 20) + (t.partid.toNat <<< 30))
    Config.kernelCheck d ++ d

/-- A Husk sector entry as its two 72-bit words (Table 3.4): the upper word's, then the lower word's data and check bits. -/
def sectorWords : Option Sector → BitVec 72 × BitVec 72
  | none => (0, 0)
  | some x =>
    let lo : BitVec 64 :=
      BitVec.ofNat 64 (x.dcnt + (1 <<< 32) + (x.partid.toNat <<< 33) + (x.keyid.toNat <<< 43) + (x.tag <<< 53))
    (Config.sectorCheck x.lstate ++ x.lstate, Config.sectorCheck lo ++ lo)

/-- STATE of a directory entry (Table 4.3). -/
def DirEnt.code (e : DirEnt) : Nat := if e.blocked then 3 else if e.st = .owned then 2 else 1

/-- A directory entry as its 64 bits (Table 4.2). -/
def dirWord : Option DirEnt → BitVec 64
  | none => 0
  | some e =>
    let d : BitVec 56 :=
      BitVec.ofNat 56 (e.sharers.toNat + (e.dtag <<< 32) + (e.fholder <<< 49) + (e.code <<< 54))
    Config.dirCheck d ++ d

/-- The words in which a scrub unit is stored: two reads of it differ only where it has been written between them. -/
def State.unitImage (s : State) (kind : ScrubKind) (row u : Nat) : List Nat :=
  match kind with
  | .tagSets =>
    match tagUnit row u with
    | .kernel k => (List.range 12).map fun w => (kernelWord (s.ktag k w)).toNat
    | .husk h => (List.range 16).flatMap fun w =>
        let x := sectorWords (s.sector h w)
        [x.1.toNat, x.2.toNat]
    | .dir d => (List.range 16).map fun w => (dirWord (s.dirEnt d w)).toNat
  | .kernelData => [(Assoc.getD s.tiers.kdata ((row * 8192 + u / 12) * 12 + u % 12) 0).toNat]
  | .husk =>
    let (h, w, n) := huskUnit row u
    [(s.huskData h w n).toNat]
  | .ddr5 => match Assoc.find? (ddrUnit row u) s.mem.dram with
      | some x => [x.data.toNat, if x.poison then 1 else 0]
      | none => []

/-- Queue the write-back of a corrected unit (R368). -/
def State.addCorrection (s : State) (kind : ScrubKind) (row unit : Nat) (bits : ErrPattern) : State :=
  let c : Correction := { kind := kind, row := row, unit := unit, bits := bits, was := s.unitImage kind row unit }
  (s.withRel { s.rel with corrections := s.rel.corrections ++ [c] })

/-- Corrected symbols of a Husk line and its check entry (R374, R375): `port` is the data port. -/
def State.noteSymbols (s : State) (port : Nat) (e : ErrPattern) : State :=
  let d := (e.filter (fun (p : Nat × Nat) => p.1 < 128 && p.2 % 256 != 0)).length
  let c := (e.filter (fun (p : Nat × Nat) => 128 ≤ p.1 && p.2 % 256 != 0)).length
  let s := (s.noteCorrections (32 + port) d).noteCorrections (32 + checkPort port) c
  let s := (s.countU 0x802 port d).countU 0x802 (checkPort port) c
  (s.withRel { s.rel with trendNow := Assoc.put port (Assoc.getD s.rel.trendNow port 0 + d + c) s.rel.trendNow })

/-- The device marked for a rank: the value in force of DDR5_MARKED (R370, R397). -/
def State.marked (s : State) (ch rank : Nat) : Option Nat :=
  let b := s.eff (Obj.ddr5Marked + ch) >>> (8 * rank) % 256
  if b.testBit 7 then some (b % 16) else none

/-- Count a corrected burst that names a device, and mark the device at MARK_THRESHOLD from the next stride boundary
(R370). -/
def State.noteDevice (s : State) (ch rank dev : Nat) : State :=
  let k := (ch * 4 + rank) * 16 + dev
  let n := Assoc.getD s.rel.ddrCounts k 0 + 1
  let s := s.withRel { s.rel with ddrCounts := Assoc.put k n s.rel.ddrCounts }
  let old := s.obj (Obj.ddr5Marked + ch)
  if s.eff Obj.markThreshold ≤ n ∧ (s.marked ch rank).isNone ∧ (old.toNat >>> (8 * rank)).testBit 7 = false then
    let v := old ||| BitVec.ofNat 64 ((0x80 + dev) <<< (8 * rank))
    let s := s.setObj (Obj.ddr5Marked + ch) v
    let s := s.withDict { s.dict with pending := s.dict.pending ++ [(Obj.ddr5Marked + ch, v)] }
    s.raise 0xBD [w64 ch, w64 rank, w64 dev]
  else s

/-- What a DDR5 read makes of a line: the outcome of its code, whether the line carries the poison pattern, and the error that is left
in its data. -/
structure DdrRead where
  outcome : Decoded
  poison : Bool
  left : ErrPattern
deriving DecidableEq, Repr

/-- Decode both bursts of a DDR5 line that is stored with or without the poison pattern (R365, Table 9.4), with the counts of R370 and
R375. -/
def State.ddrDecode (s : State) (ch rank : Nat) (poison : Bool) (e : ErrPattern) : DdrRead × State :=
  if ddrPoisoned e poison then (⟨.clean, true, e⟩, s)
  else
    let b0 := ddrBurst (s.marked ch rank) e poison 0
    let b1 := ddrBurst (s.marked ch rank) e poison 1
    let note : State → Decoded × Option Nat × ErrPattern → State := fun s b =>
      match b with
      | (.corrected _, some p, _) => (s.noteDevice ch rank p).noteCorrections (50 + ch) 1
      | _ => s
    let s := note (note s b0) b1
    if b0.1 == .uncorrectable || b1.1 == .uncorrectable then (⟨.uncorrectable, false, e⟩, s.noteUncorrectable (50 + ch))
    else (⟨if b0.1 == .clean && b1.1 == .clean then .clean else .corrected 1, false, e ++ b0.2.2 ++ b1.2.2⟩, s)

/-- A command of the DDR5 slot in cycle `c` will act on the channel's open rows (R338). -/
def State.rowUse (s : State) (c ch : Nat) (u : RowUse) : State :=
  s.withMem { s.mem with rowUses := s.mem.rowUses ++ [(c, ch, u)] }

/-- An access to a line in the DDR5 slot of cycle `c` (R338). -/
def State.touchRow (s : State) (line c : Nat) (read : Bool) : State :=
  let a := s.dram (line * 128)
  s.rowUse c (chanOf (line * 128)) (.access a.number a.row read)

/-- What a command does to the open rows (R338): an access opens its bank's row, and a read counts whether it found its row open
or another (Table 13.3); a refresh closes the rows of its banks. -/
def State.doRowUse (s : State) (ch : Nat) (u : RowUse) : State :=
  match u with
  | .access bank row read =>
    let k := ch * 128 + bank
    let s := if !read then s else
      match Assoc.find? k s.mem.openRows with
      | some (open_, _) => s.countU (if open_ = row then 0x702 else 0x703) ch 1
      | none => s
    s.withMem { s.mem with openRows := Assoc.put k (row, 0) s.mem.openRows }
  | .refresh rank bank =>
    let hit : Nat → Bool := fun k => k / 128 == ch && k % 128 / 32 == rank && k % 4 == bank
    s.withMem { s.mem with openRows := s.mem.openRows.filter fun x => !hit x.1 }

/-- Insert a row use in the order of the slots. -/
def insertUse (x : Nat × Nat × RowUse) : List (Nat × Nat × RowUse) → List (Nat × Nat × RowUse)
  | [] => [x]
  | y :: l => if x.1 < y.1 then x :: y :: l else y :: insertUse x l

/-- The commands of slots before cycle `c` act on the open rows, in the order of their slots. -/
def State.applyRowUses (s : State) (c : Nat) : State :=
  let due := (s.mem.rowUses.filter fun x => decide (x.1 < c)).foldl (fun l x => insertUse x l) []
  let later := s.mem.rowUses.filter fun x => decide (c ≤ x.1)
  due.foldl (fun s x => s.doRowUse x.2.1 x.2.2) (s.withMem { s.mem with rowUses := later })

/-- Home data as it is served. -/
structure Served where
  data : Line
  poison : Bool
  src : Src
  /-- Egress bookings that fit the source, and the cycle at which the data reaches the port. -/
  purposes : List Nat
  arrive : Nat
deriving DecidableEq, Repr

/-- The line's copy in a buffer becomes Poisoned. A clean fill makes no fill (R124): the line is Poisoned where it lies below, in the
Husk or its Hull entry, and else enters the posted write buffer (Table 9.1; DESIGN CHOICE, log entry 159). -/
def State.poisonBuffer (s : State) (line : Nat) (src : Src) : State :=
  match src with
  | .staging =>
    match s.stagedOf line with
    | some e =>
      if e.kind == .cleanFill && e.loc.isNone then
        let s := s.dropStaged e.id
        if s.huskState line ≠ .invalid then s.setHuskState line .poisoned
        else if (s.hullOf line).isSome then
          s.withTiers { s.tiers with hull := updFirst (fun e => e.line == line) (fun e => { e with poison := true }) s.tiers.hull }
        else s.placeUnreserved line e.keyid.toNat (e.data.getD 0) true
      else s.updStaged e.id fun e => { e with st := .poisoned, kind := if e.kind == .cleanFill then .writeData else e.kind }
    | none => s
  | .hull =>
    s.withTiers { s.tiers with hull := updFirst (fun e => e.line == line) (fun e => { e with poison := true }) s.tiers.hull }
  | .pwb =>
    let ch := chanOf (line * 128)
    let mark : Pwb → Pwb := fun e => { e with poison := true }
    let l := (updFirst (fun (e : Pwb) => e.line == line) mark (s.pwb ch).reverse).reverse
    (s.withMem { s.mem with pwb := Assoc.put ch l s.mem.pwb })
  | _ => s

/-- A slot of a row for data that request `t` reads from cycle `arrive` on. -/
def Txn.readWant (t : Txn) (kind row arrive : Nat) : Want :=
  { kind := kind, row := row, cls := Cls.dr, grp := t.group, promoted := t.promoted, arrive := arrive }

/-- The DDR5 slot that begins in cycle `b` moves no data of its DRAM (R28). -/
def State.bufferSlot (s : State) (ch b : Nat) : State :=
  let here : Booking → Bool := fun x => x.kind == 3 && x.row / 2 == ch && x.cycle == b && x.work == 0
  let ledger := s.gait.ledger.map fun x => if here x then { x with purpose := Leg.buffer } else x
  s.withGait { s.gait with ledger := ledger }

/-- Read the copy of a line in the staging buffer, the Hull buffer or a posted write buffer, under the errors that its code
meets (Table 9.1). The data of a posted write is read in a Demand read slot of its channel, and takes steps 14 and 15 of Table
1.4 from there (R28). -/
def State.bufferData (s : State) (t : Txn) (c : Nat) (x : Copy) (err : ErrPattern) : Served × State :=
  let s := (s.countR 0x103 t.slice (t.half.getD 0) t.req 1).tagOutcome t.id 2
  let ch := chanOf (t.line * 128)
  let (arrive, s) := if x.src != .pwb then (c + 9, s) else
    let (b, s) := s.serveWork t.id Leg.ddr5 (t.readWant 3 (2 * ch) (c + 8)) [2 * ch, 2 * ch + 1]
    (b + 17, (s.bufferSlot ch b).stampSource t.id 3 b)
  let (o, s) := s.settle (secded err)
  let s := match o with
    | .corrected n => s.noteCorrections 62 n
    | .uncorrectable =>
      let s := (s.noteUncorrectable 62).poisonBuffer t.line x.src
      if x.poison then s else s.notePoison t.line x.keyid 1
    | _ => s
  let ((d, p), s) := s.decodedLine o x.data (flipWords x.data err)
  (⟨d, x.poison || p, x.src, if x.src == .pwb then [Leg.outDdr5, Leg.outKernel] else [Leg.outKernel], arrive⟩, s)

/-- A Kernel line becomes Poisoned by an error of its bank (R373, Table 3.8): the Husk copy and older data on its way become Invalid (R103,
R104, log entry 120), and a bank write that waits is never dropped (R121). -/
def State.loseKernel (s : State) (kset w : Nat) (k : KTag) (line : Nat) : State :=
  let s := match s.pendingBank kset w with
    | some e => s.updStaged e.id fun e => { e with st := .poisoned, kind := .writeData }
    | none => s
  (((s.supersede line).setKtag kset w (some { k with st := .poisoned })).setHuskState line .invalid)

/-- Read a line out of its Kernel bank in a Demand read slot (R71, Table 2.11). -/
def State.kernelRead (s : State) (t : Txn) (c : Nat) (x : Copy) (err : ErrPattern) : Served × State :=
  let line := t.line
  let kset := ksetOf (line * 128)
  let s := ((s.fixed 5 1).countR 0x101 t.slice (t.half.getD 0) t.req 1).tagOutcome t.id 0
  let (b, s) := s.serveWork t.id Leg.bank (t.readWant 1 t.slice (c + 4)) [t.slice]
  let s := s.stampSource t.id 1 b
  let (o, s) := s.settle (secded err)
  let s := match o, s.kernelHit line with
    | .corrected n, some (w, _) =>
      (s.noteCorrections t.slice n).addCorrection .kernelData t.slice (kset % 8192 * 12 + w) err
    | .uncorrectable, some (w, k) =>
      let s := (s.noteUncorrectable t.slice).loseKernel kset w k line
      if x.poison then s else s.notePoison line x.keyid 1
    | _, _ => s
  let ((d, p), s) := s.decodedLine o x.data (flipWords x.data err)
  (⟨d, x.poison || p, .kernel, [Leg.outKernel], b + 9⟩, s)

/-- Read a line from the Husk in a Demand read slot of its data port and of its check port (R71, R346). -/
def State.huskRead (s : State) (t : Txn) (c : Nat) (x : Copy) (err : ErrPattern) : Served × State :=
  let line := t.line
  let hset := hsetOf (line * 128)
  let w := match s.huskSector line with | some (w, _) => w | none => 0
  let port := portOfWay hset w
  let s := ((s.fixed 6 1).countR 0x102 t.slice (t.half.getD 0) t.req 1).tagOutcome t.id 1
  let (h, s) := s.serveWork t.id Leg.husk { t.readWant 2 port (c + 8) with place := some (hset, lineIn (line * 128)) } [port, checkPort port]
  let s := ((s.stampSource t.id 2 h).fixedAt (h / 64) 15 1).countUAt (h / 64) 0x800 port 1
  let (o, s) := s.settle (if s.checkWrong hset w (lineIn (line * 128)) line then .uncorrectable else rsHusk err)
  let s := match o with
    | .corrected _ => (s.noteSymbols port err).addCorrection .husk port (hset * 32 + lineIn (line * 128)) err
    | .uncorrectable =>
      let s := (s.noteUncorrectable (32 + port)).setHuskState line .poisoned
      if x.poison then s else s.notePoison line x.keyid 1
    | _ => s
  let ((d, p), s) := s.decodedLine o x.data (flipSymbols x.data err)
  (⟨d, x.poison || p, .husk, [Leg.outHusk, Leg.outKernel], h + 70⟩, s)

/-- Read a line from DRAM in a Demand read slot of both subchannels (R71, R356, R365). -/
def State.dramLine (s : State) (t : Txn) (c : Nat) (err : ErrPattern) : Served × State :=
  let line := t.line
  let la := line * 128
  let ch := chanOf la
  let half := t.half.getD 0
  let keyid := t.req.keyid.toNat
  let s := ((s.fixed 7 1).countR 0x104 t.slice half t.req 1).tagOutcome t.id 3
  let (b, s) := s.serveWork t.id Leg.ddr5 { t.readWant 3 (2 * ch) (c + 8) with dram := some (s.dram la) } [2 * ch, 2 * ch + 1]
  let s := (((s.stampSource t.id 3 b).fixedAt (b / 64) 13 1).countUAt (b / 64) 0x700 ch 1).touchRow line b true
  let kept := s.mem.alerts.filter fun x => decide (s.now ≤ x.stride + 2)
  let s := s.withMem { s.mem with alerts := kept ++ [⟨b / 64, ch, half, t.req.tag, t.htid, line, !isRead t.req.op⟩] }
  let ((d, p), s) := s.dramRead line keyid
  let (x, s) := s.ddrDecode ch (s.dram la).rank p err
  let d' := flipDdr d x.left
  let s := match x.outcome with
    | .corrected _ => s.addCorrection .ddr5 ch (caOf la / 128) err
    | .uncorrectable => if p then s else (s.dramWrite line keyid d' true).notePoison line keyid 1
    | _ => s
  (⟨d', x.poison || x.outcome == .uncorrectable, .dram, [Leg.outDdr5, Leg.outKernel], b + s.ddr5Tail (2 * ch) b⟩, s)

/-- Read the first valid copy of a line (R102) for request `t` at cycle `c`, under the errors `err` that its unit's code
meets (Table 9.1). -/
def State.homeData (s : State) (t : Txn) (c : Nat) (err : ErrPattern) : Served × State :=
  match s.tierCopy t.line with
  | some x =>
    match x.src with
    | .kernel => s.kernelRead t c x err
    | .husk => s.huskRead t c x err
    | _ => s.bufferData t c x err
  | none =>
    match s.pwbOf t.line with
    | some e => s.bufferData t c ⟨.pwb, e.data, e.poison, e.keyid.toNat⟩ err
    | none => s.dramLine t c err

end Sys2Proof.Machine
end

