-- ==== Sys2Proof/Machine/HomeTxn.lean ====
section
/-!
DEFINITION. Transactions of the home after their look-up (04, 05): placements and merges (Table 4.11, R121, R198, R274
to R278), home data sent (R190, R196), the retiring of answers (R196, R216), the end of a transaction (R199) with its
directory entry (R238), the timeout outcomes of Table 5.5 and the work in flight at a departure (Table 5.6).
-/
namespace Sys2Proof.Machine

/-! ### Credits, poison, placement -/

/-- A request's DAT credit returns once its data has been placed or discarded (07, "Tether queues and admission"); that of a departed
half died with its link (R324). -/
def State.returnDat (s : State) (t : Txn) : State :=
  match t.half with
  | some h =>
    if hasData t.req.op && !t.gone && s.halfUp h then
      let l := s.link h
      s.setLink h { l with datReturn := l.datReturn + 1 }
    else s
  | none => s

/-- The line is Poisoned, wherever its first valid copy lies (R102). -/
def State.linePoisoned (s : State) (line : Nat) : Bool :=
  match s.tierCopy line with
  | some x => x.poison
  | none =>
    match s.pwbOf line with
    | some e => e.poison
    | none =>
      match Assoc.find? line s.mem.dram with
      | some x => x.poison
      | none => false

/-- The mode whose rules a transaction completes under: that of its request's admission (R401); home work has none. -/
def State.modeOf (s : State) (t : Txn) : Mode := if t.half.isSome then t.mode else s.modes.mode

/-- Writes placed at the home under a mode go around the tiers (R392, R406), as in the Recall phase of a Settle (Table 10.4). -/
def State.aroundMode (s : State) (m : Mode) : Bool :=
  m == .drain || s.modes.mode == .contained || decide (2 ≤ s.modes.settle)

/-- Nothing placed or read under a mode allocates (R106): Contained, which is no service mode, stops every allocation (R401). -/
def State.barsAlloc (s : State) (m : Mode) : Bool := m.noAlloc || s.modes.mode == .contained

/-- The KEYID and PARTID under which data of a line is placed: those of the transaction's request; a back-invalidation and a
departure sweep take those of the line's copy, and a free value for what no copy carries (log entry 29). -/
def State.placeIds (s : State) (t : Txn) : (Nat × Nat) × State :=
  match t.half with
  | some _ => ((t.req.keyid.toNat, t.req.partid.toNat), s)
  | none =>
    match s.kernelHit t.line with
    | some (_, k) => ((k.keyid.toNat, k.partid.toNat), s)
    | none =>
      let (p, s) := s.draw 10
      match s.tierCopy t.line, s.pwbOf t.line with
      | some x, _ =>
        match x.src, s.huskSector t.line with
        | .husk, some (_, y) => ((x.keyid, y.partid.toNat), s)
        | _, _ => ((x.keyid, p.toNat), s)
      | none, some e => ((e.keyid.toNat, p.toNat), s)
      | none, none =>
        let (k, s) := s.draw 10
        ((k.toNat, p.toNat), s)

/-- Promoted requests that wait for a general tracker at a slice: the start of their age, their stream and their number (R227). An
eviction needs none before its look-up (R224). -/
def State.trackerWaits (s : State) (sl : Nat) : List (Nat × Nat × Nat) :=
  let waits : Bool → Option Nat → Req → Bool := fun p t r =>
    p && t.isNone && !isEvict r.op && s.sliceOfReq r == some sl
  (s.ports.queues.flatMap fun (x : Nat × List QReq) =>
      x.2.filterMap fun y => if waits y.promoted y.tracker y.req then some (y.ageStart.getD s.now, x.1 % 512, y.id) else none)
    ++ s.ports.replay.flatMap fun (x : Nat × List Refused) =>
      x.2.filterMap fun y => if waits y.promoted y.tracker y.req then some (y.ageStart.getD s.now, x.1 % 512, y.id) else none

/-- Place the data of a transaction's request, or the line merged from it (R121, R153, R392, R406), in its look-up slot of cycle `c`, or
where snoops or a fetch held it up in the first Demand write or Writeback slot from `c` on (Tables 3.5, 5.2; log entry 138); a writeback of
a streaming queue goes around in a Demand write slot (R153, Table 3.5). Answers the slot's cycle. Its posted write buffer reservation passes to the placement, and its staging reservation is held until the placement has
been made (R126, R316). -/
def State.placeRequest (s : State) (t : Txn) (data : Line) (poison : Bool) (atLook : Bool) (c : Nat) : Nat × State :=
  let cls := if isEvict t.req.op && !t.around then Cls.wb else Cls.dw
  let (c, s) := if atLook && !(isEvict t.req.op && t.around) then (c, s) else
    s.freeSlot { kind := 0, row := t.slice, cls := cls, grp := t.group, promoted := t.promoted, arrive := c, half := t.half.getD 0,
                 age := some t.id }
  let s := s.updTxn t.id fun t => { t with pwbReserved := false }
  let s := if poison && !s.linePoisoned t.line then s.notePoison t.line t.req.keyid.toNat 6 else s
  let s := if t.around then s.countR 0x507 t.slice (t.half.getD 0) t.req 1 else s
  let around := t.around || s.aroundMode (s.modeOf t)
  let s := if around then s.clearLine t.line Rsv.evict else s
  let p : Place :=
    { line := t.line, keyid := t.req.keyid.toNat, partid := t.req.partid.toNat, data := data, poison := poison,
      staging := t.stagingReserved, reserved := t.pwbReserved, around := around, device := t.device,
      noAlloc := s.barsAlloc (s.modeOf t), cls := cls, c := c }
  (c, (s.placeWrite p).updTxn t.id fun t => { t with stagingReserved := false })

/-- Place data that an agent returned (R198, Table 5.3) as a full-line writeback of a modified line, in an unbooked Writeback slot
of owner 0x01 (R184, R213, Table 5.2); answers the slot's cycle. `joined` is the eviction that it came with: the data is in its
staging entry and goes around the tiers as its detector says (R153, R215), in a Demand write slot, and under the mode of its own admission
(R401). Data of a snoop answer holds no reservation from an admission: it allocates in the Kernel where a staging entry is free (log
entry 29). -/
def State.placeReturned (s : State) (t : Txn) (data : Line) (poison : Bool) (joined : Option Joined) (c : Nat) : Nat × State :=
  let stream := joined.any (·.around)
  let mode := match joined with | some j => j.mode | none => s.modeOf t
  let cls := if stream then Cls.dw else Cls.wb
  let (c, s) := s.agedSlot t.id 0 t.slice cls c
  let ((keyid, partid), s) := s.placeIds t
  let s := if poison && !s.linePoisoned t.line then s.notePoison t.line keyid 6 else s
  let around := t.device || stream || s.aroundMode mode
  let s := s.clearLine t.line Rsv.write
  let s := if around then s.clearLine t.line Rsv.evict else s
  (c, s.placeWrite { line := t.line, keyid := keyid, partid := partid, data := data, poison := poison, extra := 1,
                     staging := match joined with | some j => j.staging | none => s.stagingFree t.slice,
                     reserved := joined.isSome, around := around, noAlloc := s.barsAlloc mode, cls := cls, c := c })

/-- A home copy is made Poisoned in the tag-slice slot of cycle `c` (R234): in the Kernel, or in the posted write buffer where the Kernel
cannot allocate, as it never can for a Device line (R105). `cls` is the class of its slots. -/
def State.poisonAt (s : State) (t : Txn) (cause cls c : Nat) : State :=
  let ((keyid, partid), s) := s.placeIds t
  let (data, s) : Line × State := match s.tierCopy t.line, s.pwbOf t.line with
    | some x, _ => (x.data, s)
    | none, some e => (e.data, s)
    | none, none =>
      let ((d, _), s) := s.dramRead t.line keyid
      (d, s)
  let s := if s.linePoisoned t.line then s else s.notePoison t.line keyid cause
  let p : Place := { line := t.line, keyid := keyid, partid := partid, data := data, poison := true, staging := true,
                     reserved := false, noAlloc := s.barsAlloc (s.modeOf t), cls := cls, c := c }
  let s := s.supersede t.line
  if t.device then s.placeAround p
  else
    match s.kernelHit t.line with
    | some (w, k) => s.writeKernel t.line w k data true partid cls (c + 4)
    | none =>
      let may := s.stagingFree t.slice && !p.noAlloc
      let alloc := if may then s.allocWrite t.line keyid partid data true cls c 1 else none
      match alloc with
      | some s => s
      | none =>
        let tried := may && (s.chooseKernel (ksetOf (t.line * 128)) partid (c - 64 * s.now)).isSome
        (if tried then s.bump Obj.allocAbandoned else s).placeAround p

/-- The same, its tag write in an unbooked Writeback slot of owner 0x01 from cycle `c` on (Table 3.5). -/
def State.poisonHome (s : State) (t : Txn) (cause c : Nat) : State :=
  let (c, s) := s.agedSlot t.id 0 t.slice Cls.wb c
  s.poisonAt t cause Cls.wb c

/-! ### Completions -/

/-- An outcome has its egress slot: the request is performed when that slot has gone (R251). -/
def State.noteOutcome (s : State) (o : Outcome) : State := s.withPorts { s.ports with outcomes := s.ports.outcomes ++ [o] }

/-- The transaction's outcome leaves in the egress slot of cycle `c` (R251), as a data message or another; a CompAck is awaited from the
first boundary not before (R230). -/
def State.markPerformed (s : State) (id c : Nat) (data : Bool := false) : State :=
  let s := match s.txn id with
    | some t => if t.gone || t.half.isNone then s else
        s.noteOutcome { id := id, queue := t.queue, cycle := c, device := t.device, data := data }
    | none => s
  s.updTxn id fun t => { t with performed := true, ackAt := if t.needAck then some (ceilDiv c 64) else t.ackAt }

/-- Complete a transaction's request with a response, and note that it is performed. -/
def State.complete (s : State) (t : Txn) (op c : Nat) : State :=
  let htid : BitVec 13 := if op = Op.compE then t.htid else 0
  let (c, s) := s.respondAt t op htid c
  s.markPerformed t.id c

/-- An error response (Table 4.7). -/
def State.fail (s : State) (t : Txn) (op c : Nat) : State :=
  ((s.countR 0x108 t.slice (t.half.getD 0) t.req 1).tagOutcome t.id 6).complete t op c

/-- A read that fills the Kernel (Table 3.6, R105, R124, R153). -/
def State.fills (s : State) (t : Txn) (x : Served) : Bool :=
  let op := t.req.op
  (op == Op.rdShared || op == Op.rdOwn || op == Op.upgrade || op == Op.rdRsv)
    && x.src != .kernel && !x.poison && !t.device && !(s.stream t.slice t.queue).streaming

/-- Home data to the requester (R190, R196): CompData with the transaction's grant. -/
def State.sendHome (s : State) (t : Txn) (c : Nat) (err : ErrPattern) : State :=
  let (x, s) := s.homeData t c err
  let s := if s.fills t x then
      s.offerFill t.line t.req.keyid.toNat t.req.partid.toNat x.data (t.half.getD 0, t.req) (s.barsAlloc (s.modeOf t)) x.arrive
    else s
  let (c, s) := s.sendData t x.data x.poison x.purposes x.arrive
  s.markPerformed t.id c true

/-- Bytes of a request's SIZE (Table 7.10). -/
def sizeBytes (size : Nat) : Nat := if size = 1 then 8 else if size = 2 then 16 else 128

/-- New memory value of a far atomic (Table 6.5), with `n` bits. -/
def atomNew (op n old a b : Nat) : Nat :=
  if op = Op.atomAdd then (old + a) % 2 ^ n
  else if op = Op.atomSwap then a
  else if op = Op.atomCas then (if old = a then b else old)
  else if op = Op.atomAnd then old &&& a
  else old ||| a

/-- Write `n` bytes of value `v` at byte `off` of a line. -/
def setBytes (d : Line) (off n v : Nat) : Line :=
  mergeLine d (BitVec.ofNat 1024 (v <<< (8 * off))) (BitVec.ofNat 128 ((2 ^ n - 1) <<< off))

/-- Merge at the home and complete (Table 4.11, R274 to R278, R377), with the data that a holder returned, or with home data
once it stands at the slice, a wire before it would stand at the port. The response then takes the first egress slot after the
placement: the one booked for the look-up is released (R72). -/
def State.merge (s : State) (t : Txn) (c : Nat) (err : ErrPattern) : State :=
  let s := s.unbook t.id Leg.out
  let ((base, bad), atLook, c, s) : (Line × Bool) × Bool × Nat × State := match t.base with
    | some d => (d, false, c, s)
    | none =>
      let (x, s) := s.homeData t c err
      ((x.data, x.poison), x.src == .kernel && t.snoops.isEmpty, max c (x.arrive - 8), s)
  let op := t.req.op
  let s := (s.returnDat t).tagOutcome t.id 5
  if isAtomic op then
    let n := sizeBytes t.req.size.toNat
    let off := t.req.addr.toNat % 128
    let get : Line → Nat → Nat := fun d o => (d >>> (8 * o)).toNat % 2 ^ (8 * n)
    let old := get base off
    let new := atomNew op (8 * n) old (get t.req.data 0) (get t.req.data 16)
    let s := (s.bump Obj.atomics).countR 0xA03 t.slice (t.half.getD 0) t.req 1
    let (c, s) := if bad || (op == Op.atomCas && old != get t.req.data 0) then
        match t.base with
        | some (d, p) => s.placeReturned t d p none c
        | none => (c, s)
      else s.placeRequest t (setBytes base off n new) t.req.poison atLook c
    let (e, s) := s.sendData t (BitVec.ofNat 1024 old) bad [] (c + 8)
    s.markPerformed t.id e true
  else
    let (c, s) := s.placeRequest t (mergeLine base t.req.data t.req.mask) (bad || t.req.poison) atLook c
    let s := if op = Op.wrCond then
        (s.bump Obj.wrcondPasses).countR 0xA01 t.slice (t.half.getD 0) t.req 1
      else s
    s.complete t Op.comp c

/-! ### The end of a transaction -/

/-- Clear an agent's bit from the record that a transaction will write (R172, R216). -/
def Txn.clearBit (t : Txn) (half : Nat) : Txn :=
  match t.record with
  | none => t
  | some (st, f, sh) =>
    let sh' : BitVec 32 := sh &&& ~~~ ((1 : BitVec 32) <<< half)
    { t with record := if sh' = 0 then none else some (st, f, sh') }

/-- Write the final directory entry of a transaction (R199): departed halves' bits cleared (R238), the line being Poisoned in a
Writeback slot where none is left, or in the slot of cycle `c` itself of the departure sweep, a Maintenance slot (R82). -/
def State.writeEntry (s : State) (t : Txn) (c : Nat) (sweep : Bool := false) : State :=
  match t.dirWay with
  | none => s
  | some w =>
    let dset := dsetOf (t.line * 128)
    match t.record with
    | none => s.setDir dset w none
    | some (st, f, sh) =>
      let dep : BitVec 32 := (s.obj Obj.departedMask).setWidth 32
      let sh' := sh &&& ~~~ dep
      if sh' = 0 then
        let s := s.setDir dset w none
        if st = .owned then (if sweep then s.poisonAt t 4 Cls.mt c else s.poisonHome t 4 c).bump Obj.departurePoisoned else s
      else
        s.setDir dset w (some { st := st, fholder := f, dtag := dtagOf (t.line * 128), sharers := sh' })

/-- A line passes to the head of its wait list, and is reserved for it (R209). -/
def State.passLine (s : State) (line : Nat) : State :=
  if s.lineHeld line 0 then s
  else
    match (s.home.txns.filter fun t => t.line == line && t.phase == .waiting).foldl
        (fun (m : Option Txn) t => match m with
          | none => some t
          | some u => if t.join < u.join then some t else m) none with
    | some t => s.updTxn t.id fun t => { t with phase := .reserved, reservedAt := s.now }
    | none => s

/-- A free tracker among `lo` to `hi` of a slice, the lowest-numbered (R173, R222): one that has passed to a promoted request is
in use (R227). -/
def State.freeIn (s : State) (sl lo hi : Nat) : Option Nat :=
  let passed := s.passedTrackers sl
  ((List.range (hi - lo)).map (· + lo)).find? fun k =>
    !(s.home.txns.any fun t => t.slice == sl && t.tracker == some k) && !passed.contains k

/-- A general tracker that is freed at a slice passes to the oldest promoted request that waits for one there (R227): where another is
free, none waits. -/
def State.passTracker (s : State) (sl k : Nat) : State :=
  if (s.freeIn sl 0 480).isSome then s else
  match (s.trackerWaits sl).foldl (fun (m : Option (Nat × Nat × Nat)) x => match m with
      | none => some x
      | some y => if x.1 < y.1 ∨ (x.1 = y.1 ∧ x.2.1 < y.2.1) then some x else m) none with
  | none => s
  | some (_, _, id) =>
    let queues := s.ports.queues.map fun (x : Nat × List QReq) =>
      (x.1, x.2.map fun y => if y.id = id then { y with tracker := some k, trackerAt := s.now } else y)
    let replay := s.ports.replay.map fun (x : Nat × List Refused) =>
      (x.1, x.2.map fun y => if y.id = id then { y with tracker := some k, trackerAt := s.now } else y)
    s.withPorts { s.ports with queues := queues, replay := replay }

/-- A general tracker that its holder in `s` has held from stride `at_` on is freed: its hold enters the epoch's mean (R223), and it
passes to a promoted request where one waits for it (R227). -/
def State.endHold (s : State) (sl k at_ : Nat) : State :=
  let sum := Assoc.put sl (Assoc.getD s.home.holdSum sl 0 + (s.now - at_)) s.home.holdSum
  let cnt := Assoc.put sl (Assoc.getD s.home.holdCnt sl 0 + 1) s.home.holdCnt
  (s.withHome { s.home with holdSum := sum, holdCnt := cnt }).passTracker sl k

/-- Free a transaction's tracker (R223, R227). -/
def State.freeTracker (s : State) (t : Txn) : State :=
  match t.tracker with
  | some k => if k < 480 then s.endHold t.slice k t.allocated else s
  | none => s

/-- A request that has not been admitted leaves a tracker that had passed to it (R227). -/
def State.leaveTracker (s : State) (r : Req) (tracker : Option Nat) (at_ : Nat) : State :=
  match s.sliceOfReq r, tracker with
  | some sl, some k => s.endHold sl k at_
  | _, _ => s

/-- The requests of the queues that `mine` names leave the trackers that had passed to them (R227); those without one wait for none any
more. -/
def State.leaveTrackers (s : State) (mine : Nat → Bool) : State :=
  let queues := s.ports.queues.map fun (x : Nat × List QReq) => if mine x.1 then (x.1, x.2.filter (·.tracker.isSome)) else x
  let replay := s.ports.replay.map fun (x : Nat × List Refused) => if mine x.1 then (x.1, x.2.filter (·.tracker.isSome)) else x
  let s := s.withPorts { s.ports with queues := queues, replay := replay }
  let s := (queues.filter fun x => mine x.1).foldl
    (fun s (x : Nat × List QReq) => x.2.foldl (fun s y => s.leaveTracker y.req y.tracker y.trackerAt) s) s
  (replay.filter fun x => mine x.1).foldl
    (fun s (x : Nat × List Refused) => x.2.foldl (fun s y => s.leaveTracker y.req y.tracker y.trackerAt) s) s

/-- Remove a tracked request: its tracker, its bookings and its place on a line (R72, R209). -/
def State.dropRequest (s : State) (t : Txn) : State :=
  (((s.freeTracker t).dropTxn t.id).releaseAll t.id).passLine t.line

/-! ### Home work that waits on a line (Table 5.1) -/

/-- Requests and home work on a line's wait list. -/
def State.waiters (s : State) (line id : Nat) : Nat :=
  (s.home.txns.filter fun u => u.line == line && u.id != id && (u.phase == .waiting || u.phase == .reserved)).length

/-- Home work finds its line: it may act where the line is free or reserved for it, and else takes a place at the tail of the wait
list as a home transaction, if it holds none yet (R155, Table 5.1). -/
def State.jobTurn (s : State) (job : Job) (sl line : Nat) : Bool × State :=
  match s.home.txns.find? fun t => t.job == some job && t.line == line with
  | some t => (t.phase == .reserved, s)
  | none =>
    if !s.lineHeld line 0 then (true, s)
    else
      let n := s.home.nextId
      let t : Txn := { id := n, slice := sl, tracker := none, half := none, job := some job, line := line, phase := .waiting,
                       join := n, entered := s.now, req := { opcode := 0, stream := 0, tag := 0 } }
      let s := (s.withHome { s.home with nextId := n + 1 }).addTxn t
      (false, s.peak Obj.waitlistPeak (s.waiters line 0))

/-- Home work on a line is done, and the line passes on (R209). -/
def State.jobDone (s : State) (job : Job) (line : Nat) : State :=
  match s.home.txns.find? fun t => t.job == some job && t.line == line with
  | some t => (s.dropTxn t.id).passLine line
  | none => s

/-- Home work of a kind leaves the wait lists of the lines that `p` names. -/
def State.dropJobsOf (s : State) (job : Job) (p : Nat → Bool) : State :=
  (s.home.txns.filter fun t => t.job == some job && p t.line).foldl (fun s t => (s.dropTxn t.id).passLine t.line) s

/-- Home work of a kind has ended: its places on wait lists pass on. -/
def State.dropJobs (s : State) (job : Job) : State := s.dropJobsOf job fun _ => true

/-- The conditions of R199 hold but for what is still to be sent. -/
def Txn.done (t : Txn) : Bool :=
  t.phase == .active && !t.waitBack && t.snoops.all (·.retired)
    && (t.performed || t.gone || t.half.isNone) && t.todo == .nothing
    && (!t.needAck || t.ackRetired || t.gone) && (!t.pend || t.invDone || t.gone)
    && !t.needWay && t.backInv.isNone
    && (t.gone || t.snoops.all fun x =>
      match x.answer with
      | some .fwdI | some .fwdS | some .fwdCur | some (.sWb _ _) => x.passed
      | _ => true)

/-- TRANSACTION_END (R199). -/
def State.endTxn (s : State) (t : Txn) (c : Nat) : State :=
  let s := s.writeEntry t c
  let s := if t.gone then s.abandonSample t.id else s.sampleRecord t c
  s.dropRequest t

/-- Every condition of R199 holds: the data that answers the request has been sent, a forward's among it. -/
def State.ended (s : State) (t : Txn) : Bool := t.done && (t.gone || !s.ports.outcomes.any fun o => o.id == t.id && o.data)

/-- End a transaction whose conditions all hold; the end of a back-invalidation frees the way of the transaction that
waits for it (R175). -/
def State.tryEnd (s : State) (id c : Nat) : State :=
  match s.txn id with
  | none => s
  | some t =>
    if !s.ended t then s
    else
      let s := s.endTxn t c
      match s.home.txns.find? fun u => u.backInv == some id with
      | none => s
      | some u =>
        let s := s.updTxn u.id fun u => { u with backInv := none }
        if s.ended { u with backInv := none } then s.endTxn { u with backInv := none } c else s

/-- The egress slot of an outcome has gone by cycle `c`: no suspension of its link's slots holds it (R251, R306, R308). -/
def State.outcomeGone (s : State) (c : Nat) (o : Outcome) : Bool :=
  let l := s.link (o.queue / 512)
  l.suspended.isNone && decide (o.cycle + ceilDiv (64 * l.spacing) 28 ≤ c)

/-- Insert an outcome by its slot. -/
def insertOutcome (x : Outcome) : List Outcome → List Outcome
  | [] => [x]
  | y :: l => if x.cycle < y.cycle then x :: y :: l else y :: insertOutcome x l

/-- The outcomes whose egress slots have gone by cycle `c` have been sent: their requests are performed (R251), and the transactions that
waited only for their data to be sent end (R199). -/
def State.sentBy (s : State) (c : Nat) : State :=
  let gone := s.ports.outcomes.filter (s.outcomeGone c)
  if gone.isEmpty then s
  else
    let s := s.withPorts { s.ports with outcomes := s.ports.outcomes.filter fun o => !s.outcomeGone c o }
    (gone.foldl (fun l o => insertOutcome o l) []).foldl (fun s o =>
      if o.data then s.tryEnd o.id (max o.cycle (64 * s.now)) else s) s

/-- What follows once answers are in: InvDone, CompE, the placement or the merge with its completion (R190, R200), and
the end. -/
def State.advance (s : State) (id c : Nat) (err : ErrPattern) : State :=
  let s := match s.txn id with
    | some t =>
      if t.pend && !t.invDone && t.snoops.all (fun x => x.op != 4 || x.retired) then
        (s.respond t Op.invDone t.htid c).updTxn id fun t => { t with invDone := true }
      else s
    | none => s
  let s := match s.txn id with
    | some t =>
      if !t.snoops.all (·.retired) then s
      else
        let s := s.updTxn id fun t => { t with todo := .nothing }
        match t.todo with
        | .nothing => s
        | .place =>
          let (c, s) := s.placeRequest t t.req.data t.req.poison t.snoops.isEmpty c
          (s.returnDat t).complete t Op.comp c
        | .merge => s.merge t c err
        | .compE => s.complete t Op.compE c
    | none => s
  s.tryEnd id c

/-! ### Answers -/

/-- A snoop asks its holder to forward (Table 4.6). -/
def Snp.forwards (x : Snp) : Bool := x.op != 4

/-- Change the snoop of a transaction to a half. -/
def State.updSnp (s : State) (id half : Nat) (f : Snp → Snp) : State :=
  s.updTxn id fun t => { t with snoops := updFirst (fun x => x.half == half) f t.snoops }

/-- What the home does with data returned for a snoop: merged, discarded or placed (R190, R198, Table 5.3); answers the cycle from
which it is done. -/
def State.returned (s : State) (t : Txn) (data : Line) (poison : Bool) (joined : Option Joined) (c : Nat) : Nat × State :=
  match t.todo with
  | .place => (c, s)
  | .merge => (c, s.updTxn t.id fun t => { t with base := some (data, poison) })
  | _ => s.placeReturned t data poison joined c

/-- The home sends its own data where a forward was not made (R196). -/
def State.homeInstead (s : State) (id c : Nat) : State :=
  match s.txn id with
  | some t => if t.performed then s else s.sendHome t c []
  | none => s

/-- An eviction that has joined a transaction, for its record (Table 13.5). -/
def Joined.pseudo (j : Joined) (half : Nat) : Txn :=
  { id := j.id, slice := 0, tracker := none, half := some half, req := j.header, line := 0, phase := .active, entered := j.entered,
    refusals := j.refusals, promoted := j.promoted }

/-- Comp of an eviction that had joined a transaction, to its agent, and its sample (R216, R504). -/
def State.joinedComp (s : State) (half : Nat) (j : Joined) (c : Nat) : State :=
  let (e, s) := s.egress 0 [] (outWant half Cls.dw 1 (c + 8) 1)
  let s := s.noteOutcome { id := j.id, queue := queueId half j.stream.toNat, cycle := e }
  let s := ((s.tagOutcome j.id 5).stampOut j.id e 0).sampleRecord (j.pseudo half) c
  s.toHalf half e (.rsp half (BitVec.ofNat 6 Op.comp) j.tag 0)

/-- Retire one arrived answer of a transaction (R196, R216). -/
def State.retireAnswer (s : State) (id : Nat) (x : Snp) (c : Nat) : State :=
  match s.txn id, x.answer with
  | some t, some a =>
    let gone : State → State := fun s =>
      (s.updTxn id fun t => t.clearBit x.half).updSnp id x.half fun x => { x with retired := true }
    let kept : State → State := fun s => s.updSnp id x.half fun x => { x with retired := true }
    match a with
    | .i =>
      let s := if x.role = 2 then s.bump Obj.stateErrors else if x.role = 0 then s.bump Obj.staleSharers else s
      let s := gone s
      if x.forwards then s.homeInstead id c else s
    | .s => if x.forwards then (kept s).homeInstead id c else kept s
    | .fwdI => gone s
    | .fwdS | .fwdCur => kept s
    | .sWb d p => ((kept s).placeReturned t d p none c).2
    | .iWb d p => ((gone s).returned t d p none c).2
    | .crossing =>
      match x.joined with
      | none => if x.crossedAt.isSome then s else s.updSnp id x.half fun x => { x with crossedAt := some (ceilDiv c 64) }
      | some j =>
        let s := gone s
        let (c, s) := if j.wb then s.returned t j.data j.poison (some j) c else (c, s)
        let s := if x.forwards then s.homeInstead id c else s
        s.joinedComp x.half j c
  | _, _ => s

/-- RETIRE: a Snoop/forward slot of owner 0x01 retires every arrived answer and CompAck of the oldest transaction that has
one (R184, R213). DESIGN CHOICE (log entry 141): a transaction's age is its place in the order of admission. -/
def State.retire (s0 : State) (slice cyc : Nat) : State :=
  let s := s0.sentBy (s0.now * 64 + cyc)
  match s.home.txns.find? fun t => t.slice == slice && t.phase == .active && t.arrived with
  | none => s
  | some t =>
    match s.takeSlot 0 slice cyc Cls.sf 1 with
    | none => s
    | some s =>
      let c := s.now * 64 + cyc
      let s := s.countU 0x605 slice 1
      let s := if t.acked then s.updTxn t.id fun t => { t with ackRetired := true } else s
      let s := t.snoops.foldl (fun s x => if x.retired || x.answer.isNone then s else s.retireAnswer t.id x c) s
      s.advance t.id c []

/-! ### Timeouts (Table 5.5) -/

/-- Row of Table 5.5 of a snoop to an agent, in the table's order. -/
def Txn.timeoutRow (t : Txn) (x : Snp) (crossing : Bool) : Nat :=
  if crossing then 5 else if t.half.isNone then 4 else if x.role ≠ 2 then 1 else if x.passed then 2 else 3

/-- A FwdData whose egress slot has gone by cycle `c` has passed in full (R232, R308; log entry 149). -/
def State.fwdGone (s : State) (t : Txn) (x : Snp) (c : Nat) : Bool :=
  x.passed && decide (x.passAt + ceilDiv (64 * (s.link (t.half.getD 0)).spacing) 28 ≤ c)

/-- A FwdData that has not passed in full is discarded at the requester's port by rewind (Table 5.6): the transaction is not performed. -/
def State.recallFwd (s : State) (t : Txn) (x : Snp) : State :=
  let h := t.half.getD 0
  let back : OutMsg → OutMsg := fun m => match m with
    | .fwdData half tag htid grant pend poison data false =>
      if half = h ∧ tag = t.req.tag ∧ htid = t.htid then .fwdData half tag htid grant pend poison data true else m
    | m => m
  let l := s.link h
  let s := s.setLink h { l with outbox := l.outbox.map fun y => (y.1, back y.2) }
  let s := { s with sent := s.sent.map back }
  let s := s.withPorts { s.ports with outcomes := s.ports.outcomes.filter fun o => o.id != t.id }
  s.updTxn t.id fun t => { t with performed := false, ackAt := none,
                                  snoops := updFirst (fun y => y.half == x.half) (fun y => { y with passed := false }) t.snoops }

/-- A snoop whose answer, or whose crossing eviction, does not come takes the outcome of Table 5.5 (R231). `cause` is the
poison cause, a timeout or a departure. An eviction that has joined and whose Crossing has not come is completed with it (log
entry 121). -/
def State.timeoutSnoop (s : State) (id half : Nat) (cause c : Nat) : State :=
  match s.txn id with
  | none => s
  | some t =>
    match t.snoops.find? fun x => x.half == half && !x.retired with
    | none => s
    | some x0 =>
      let passed := s.fwdGone t x0 c
      let x := { x0 with passed := passed }
      let s := if x0.passed && !passed then s.recallFwd t x0 else s
      let t := (s.txn id).getD t
      let crossing := x.answer == some .crossing
      let s := if crossing then s.bump Obj.crossingTimeouts else (s.bump Obj.snoopTimeouts).countU 0x604 t.slice 1
      let s := s.raise 0xC2 [w64 (t.line * 128), w64 t.htid.toNat, w64 half, w64 (t.timeoutRow x crossing)]
      let s := s.updSnp id half fun x => { x with retired := true }
      let s := match x.joined with
        | some j => s.joinedComp half j c
        | none => s
      let s :=
        if x.role ≠ 2 then
          let s := s.updTxn id fun t => t.clearBit half
          if x.forwards then s.homeInstead id c else s
        else if x.passed then
          if x.op = 1 then s.poisonHome t cause c
          else if x.op = 3 then s
          else s.updTxn id fun t => t.clearBit half
        else
          let s := (s.poisonHome t cause c).updTxn id fun t => t.clearBit half
          if t.half.isNone || t.performed || t.todo == .place then s
          else
            let s := s.updTxn id fun t =>
              { t with todo := .nothing, needAck := false, record := none, pwbReserved := false, stagingReserved := false }
            (s.returnDat t).fail t Op.errTimeout c
      s.advance id c []

/-! ### Departures (Table 5.6) -/

/-- Remove a waiting request of a departed half (Table 5.6). -/
def State.removeWaiter (s : State) (t : Txn) : State := (s.abandonSample t.id).dropRequest t

/-- A writeback or EvictClean that has joined a transaction is completed at the home when its half departs, its Crossing still to
come (Table 5.6): as at the retire that finds both. -/
def State.joinedAlone (s : State) (id half c : Nat) : State :=
  match s.txn id with
  | none => s
  | some t =>
    match t.snoops.find? fun x => x.half == half && x.joinedOpen with
    | none => s
    | some x => (s.retireAnswer id { x with answer := some .crossing } c).advance id c []

/-- A FwdData of a half that departs has not passed in full while its answer has come (R232, Table 5.6): an owner's snoop and an F
holder's take their rows of Table 5.5, and where the answer brought the line (RspSWb) the home serves it (log entry 149). -/
def State.fwdLost (s : State) (id half c : Nat) : State :=
  match s.txn id with
  | none => s
  | some t =>
    match t.snoops.find? fun x => x.half == half with
    | none => s
    | some x =>
      match x.answer with
      | some (.sWb _ _) =>
        let s := if x.passed then s.recallFwd t x else s
        let s := if x.retired then s else s.retireAnswer id x c
        let s := (s.homeInstead id c).updSnp id half fun x => { x with passed := true, passAt := c }
        s.advance id c []
      | _ => (s.updSnp id half fun x => { x with answer := none, retired := false }).timeoutSnoop id half 4 c

/-- SWEEP_PROGRESS (Table 5.7): the lowest set within a slice that some slice has not yet swept since a half departed. A slice
goes on from the set it is at, and past the last one to the first. -/
def State.sweepProgress (s : State) : Nat :=
  s.home.sweepLeft.foldl (fun m (x : Nat × Nat) =>
    let next := Assoc.getD s.home.sweepNext (x.1 % 16) 0
    min m (if 16384 < next + x.2 then 0 else next)) 16384

/-- The half's bit is set in DEPARTED_MASK and its sweep begins (R237, R239). -/
def State.startSweep (s : State) (half : Nat) : State :=
  let s := s.setObj Obj.departedMask (s.obj Obj.departedMask ||| ((1 : Reg) <<< half))
  let left := (List.range 16).foldl (fun m sl => Assoc.put (half * 16 + sl) 16384 m) s.home.sweepLeft
  let s := (s.withHome { s.home with sweepLeft := left }).setNat Obj.sweepStatus 1
  s.setNat Obj.sweepProgress s.sweepProgress

/-- The outcomes on their way to a half's egress slots never leave, nor what they would count (R491, R505, R506). -/
def State.dropOutcomes (s : State) (half : Nat) : State :=
  let mine : PmuEvent → Bool := fun e => match e with
    | .datOut h _ _ _ | .read h _ _ => h == half
    | _ => false
  (s.withPorts { s.ports with outcomes := s.ports.outcomes.filter fun o => o.queue / 512 != half }).withPmu
    { s.pmu with later := s.pmu.later.filter fun x => !mine x.2 }

/-- The work in flight of a half that departs takes its outcome (R237, Table 5.6). -/
def State.depart (s : State) (half : Nat) : State :=
  let c := s.now * 64
  let mine : Nat → Bool := fun q => q / 512 == half
  let s := s.startSweep half
  let lost := (s.ports.queues.filter fun x => mine x.1).foldl (fun l x => l ++ x.2.map (·.id)) []
    ++ (s.ports.barriers.filter fun x => mine x.1).map (·.2.id)
  let s := lost.foldl (fun s id => s.abandonSample id) s
  let s := s.leaveTrackers mine
  let s := (s.clearMonitors Rsv.link fun q _ => mine q).resetStreams half
  let s := s.withPorts { s.ports with
      queues := s.ports.queues.filter fun x => !mine x.1,
      replay := s.ports.replay.filter fun x => !mine x.1,
      barriers := s.ports.barriers.filter fun x => !mine x.1,
      cleared := s.ports.cleared.filter fun x => !mine x.1,
      resend := s.ports.resend.filter fun f => f.half != half &&
        !(s.home.txns.any fun t => t.htid == f.htid && t.snoops.any fun x => x.half == half && x.forwards) }
  let s := (s.home.txns.filter fun t => t.half == some half && (t.phase == .waiting || t.phase == .reserved)).foldl
    (fun s t => s.removeWaiter t) s
  let s := s.dropOutcomes half
  let s := (s.home.txns.filter fun t => t.half == some half).foldl
    (fun s t => (s.updTxn t.id fun t => { t with gone := true }).tryEnd t.id c) s
  let s := (s.home.txns.filter fun t => t.snoops.any fun x =>
      x.half == half && !x.retired && (x.answer.isNone || x.answer == some .crossing) && x.joined.isNone).foldl
    (fun s t => s.timeoutSnoop t.id half 4 c) s
  let s := (s.home.txns.filter fun t => t.snoops.any fun x => x.half == half && x.joinedOpen && x.answer.isNone).foldl
    (fun s t => s.joinedAlone t.id half c) s
  let forwards : Option Ans → Bool := fun a => match a with
    | some .fwdI | some .fwdS | some .fwdCur | some (.sWb _ _) => true
    | _ => false
  (s.home.txns.filter fun t => !t.gone && t.snoops.any fun x => x.half == half && forwards x.answer && !s.fwdGone t x c).foldl
    (fun s t => s.fwdLost t.id half c) s

/-- Lines of which no work is held any more pass to the heads of their wait lists (R209). -/
def State.passAll (s : State) : State := (s.home.txns.map (·.line)).eraseDups.foldl (fun s l => s.passLine l) s

/-- SECTOR_TAG_WRITE (R134); an emptied sector's lines are released. -/
def execSectorTagWrite (slice : Fin 16) (cyc : Fin 64) (s : State) : Host.Outcome State Fault Refusal :=
  .next (s.sectorTagWrite slice.val cyc.val).passAll

end Sys2Proof.Machine
end

