-- ==== Sys2Proof/Machine/HomeLook.lean ====
section
/-!
DEFINITION. The look-up of a request in its home slice (04, 05, 06; R77, R190 to R219, R248, R268), directory way choice
and back-invalidation (R174 to R177), and the messages that agents send back (R184, R186, R232, R307, R396).
-/
namespace Sys2Proof.Machine

/-! ### Snoops -/

/-- Send a snoop of a transaction from cycle `c` on, in an egress Snoop/forward slot of its target's port (R184), or leave it
waiting for an SNP credit (R311). -/
def State.sendSnoop (s : State) (t : Txn) (x : Snp) (c : Nat) : State :=
  let l := s.link x.half
  if !s.halfUp x.half then s
  else if l.snpCredit = 0 then
    ((s.updSnp t.id x.half fun x => { x with sent := false }).bump (Obj.snpCreditStalls + x.half * 256)).countU 0x905 x.half 1
  else
    let s := (s.setLink x.half { l with snpCredit := l.snpCredit - 1 }).updSnp t.id x.half fun x => { x with sent := true }
    let s := s.fixed 11 1
    let s := if t.half.isNone then s else
      let s := s.countR 0x600 t.slice (t.half.getD 0) t.req 1
      if x.op = 4 then s.countR 0x601 t.slice (t.half.getD 0) t.req 1 else s
    let (e, s) := s.egress 0 [] (outWant x.half Cls.sf 1 (c + 8) 1)
    let fwd := x.op != 4
    let s := s.toHalf x.half e (.snoop x.half x.op t.htid (if fwd then t.half.getD 0 else 0) (if fwd then t.req.tag else 0)
      (x.op == 2 && t.pend) (BitVec.ofNat 45 (s.paLine t.line)))
    if fwd then s.stampSource t.id 4 e else s

/-- The snoops of a transaction leave with its look-up (R184, R197); one to a departed half takes its timeout outcome at
once (Table 5.6). DESIGN CHOICE (log entry 143): an RdRsv's snoop does not clear its own queue's reservation of the line, which the RdRsv
replaces (cause REPLACED, Table 6.4). -/
def State.startSnoops (s : State) (id c : Nat) (l : List Snp) : State :=
  if l.isEmpty then s
  else
    let s := s.updTxn id fun t => { t with snoops := l }
    match s.txn id with
    | none => s
    | some t =>
      let s := s.clearMonitors Rsv.snoop fun q m => m.line == t.line && !(t.req.op == Op.rdRsv && q == t.queue)
      let s := l.foldl (fun s x => s.sendSnoop t x c) s
      (l.filter fun x => !s.halfUp x.half).foldl (fun s x => s.timeoutSnoop id x.half 4 c) s

/-- Role of an agent in a directory record: 2 owner, 1 F holder, 0 in SHARERS only. -/
def roleOf (st : DirSt) (f half : Nat) : Nat := if f = half then (if st = .owned then 2 else 1) else 0

/-! ### Directory ways -/

/-- General trackers of a slice that are free. -/
def State.freeGeneral (s : State) (sl : Nat) : Nat :=
  480 - (s.home.txns.filter fun t => t.slice == sl && match t.tracker with | some k => decide (k < 480) | none => false).length
    - (s.passedTrackers sl).length

/-- Allocate a tracker in a slice: the peak of Table 5.7. -/
def State.noteTracker (s : State) (sl : Nat) : State := s.peak Obj.trackerPeak (s.trackersIn sl)

/-- Send the SnpInv of a back-invalidation to every recorded holder (R175). -/
def State.runBackInv (s : State) (id c : Nat) : State :=
  match s.txn id with
  | none => s
  | some b =>
    match b.record with
    | none => s
    | some (st, f, sh) =>
      let l := (setBits sh.toNat 32).map fun h => ({ half := h, op := 4, role := roleOf st f h, at_ := ceilDiv c 64 } : Snp)
      ((s.updTxn id fun b => { b with record := none }).startSnoops id c l).tryEnd id c

/-- BACK_INVALIDATION: a victim entry is blocked and a transaction opens on its line, on a reserved tracker when one is
free (R175, R177). Answers its number. -/
def State.openBackInv (s : State) (dset w : Nat) (e : DirEnt) (c : Nat) : Nat × State :=
  let sl := dset / 16384
  let id := s.home.nextId
  let k := s.freeIn sl 496 512
  let b : Txn := { id := id, slice := sl, tracker := k, half := none, req := { opcode := 0, stream := 0, tag := 0 },
                   line := laOfD dset e.dtag / 128, phase := .active, allocated := s.now, entered := s.now,
                   record := some (e.st, e.fholder, e.sharers), dirWay := some w, waitBack := k.isNone }
  let s := (s.setDir dset w (some { e with blocked := true })).addTxn b
  let s := s.withHome { s.home with nextId := id + 1 }
  let s := ((s.bump Obj.backInvalidations).fixed 12 1).countU 0x603 sl 1
  let s := s.noteTracker sl
  (id, if k.isSome then s.runBackInv id c else s)

/-- Choose a directory way for a transaction's line (R174 to R176). -/
def State.allocDir (s : State) (id c : Nat) : State :=
  match s.txn id with
  | none => s
  | some t =>
    let dset := dsetOf (t.line * 128)
    match s.chooseDir dset (c - 64 * s.now) with
    | none => s.updTxn id fun t => { t with needWay := true }
    | some (w, none) => s.updTxn id fun t => { t with needWay := false, dirWay := some w }
    | some (w, some e) =>
      let s := s.updTxn id fun t => { t with needWay := false, dirWay := some w }
      let b := s.home.nextId
      let s := s.updTxn id fun t => { t with backInv := some b }
      (s.openBackInv dset w e c).2

/-- DIR_ALLOC_RETRY (R176, R177): the oldest transaction that waits for a way, or back-invalidation that waits for a
tracker, tries again. -/
def State.dirRetry (s : State) (slice cyc : Nat) : State :=
  match s.home.txns.find? fun t => t.slice == slice && t.phase == .active && (t.needWay || t.waitBack) with
  | none => s
  | some t =>
    match s.takeSlot 0 slice cyc Cls.sf 1 with
    | none => s
    | some s =>
      let c := s.now * 64 + cyc
      let s := s.bump Obj.dirAllocWaits
      if t.waitBack then
        match s.freeIn slice 496 512 with
        | none => s
        | some k =>
          ((s.updTxn t.id fun t => { t with tracker := some k, waitBack := false, allocated := s.now }).noteTracker slice).runBackInv t.id c
      else (s.allocDir t.id c).tryEnd t.id c

/-! ### Refusals at the look-up -/

/-- A request without its data. -/
def headerOf (r : Req) : Req := { r with data := 0, mask := 0, poison := false }

/-- A refused request is recorded, and its queue enters replay hold (R312). -/
def State.recordRefused (s : State) (q : Nat) (r : Refused) : State :=
  s.withPorts { s.ports with replay := Assoc.put q (Assoc.getD s.ports.replay q [] ++ [r]) s.ports.replay }

/-- Mean tracker hold of a slice (R223). -/
def State.holdMean (s : State) (sl : Nat) : Nat := Assoc.getD s.home.holdMean sl 1

/-- Refuse a request at its look-up with RETRY_SLOT (R212, R224, R313): later look-ups of its queue on the line are refused
with ORDER. -/
def State.refuseLook (s : State) (t : Txn) (cause wait c : Nat) : State :=
  let half := t.half.getD 0
  let s := s.sendRefused half t.req 1 cause wait t.slice c
  let s := s.recordRefused t.queue
    { id := t.id, req := headerOf t.req, entered := t.entered, ageStart := some (t.ageStart.getD s.now), promoted := t.promoted,
      at_ := s.now, refusals := t.refusals + 1, after := t.after }
  let s := (s.returnDat t).dropRequest t
  let later : Txn → Bool := fun u => u.half == t.half && u.req.stream == t.req.stream && u.line == t.line
    && u.phase == .admitted
  (s.withHome { s.home with txns := s.home.txns.map fun u => if later u then { u with orderRefuse := true } else u })

/-- A look-up that finds its line blocked joins the wait list, or is refused (R207, R212, R224). -/
def State.joinWait (s : State) (t : Txn) (c : Nat) : State :=
  let n := (s.home.txns.filter fun u => u.line == t.line && u.id != t.id && (u.phase == .waiting || u.phase == .reserved)).length
  if s.eff Obj.waitlistMax ≤ n then
    (s.bump Obj.waitlistRefusals).refuseLook t 2 (min 255 (n * s.holdMean t.slice)) c
  else
    let j := s.home.nextId
    let s := s.withHome { s.home with nextId := j + 1 }
    let s := (s.updTxn t.id fun t => { t with phase := .waiting, join := j, ageStart := some (t.ageStart.getD s.now) }).releaseAll t.id
    (s.peak Obj.waitlistPeak (n + 1)).countR 0x106 t.slice (t.half.getD 0) t.req 1

/-- CROSSING_JOIN: an eviction from an agent that the active transaction has snooped is that snoop's answer (R215). A WbData, which
will be placed as a full-line write, reaches its queue's detector (R150, Table 5.3). It keeps the staging entry reserved for it, or takes
one that is free, and the mode of its admission (R121, R401); without one its data has no claim to the Kernel (R121). -/
def State.joinCrossing (s : State) (t u : Txn) : State :=
  let half := t.half.getD 0
  let wb := t.req.op == Op.wbData
  let s := if wb then s.streamWrite t.slice t.queue t.line else s
  let j : Joined := { id := t.id, wb := wb, tag := t.req.tag, stream := t.req.stream, partid := t.req.partid,
                      data := t.req.data, poison := t.req.poison, around := wb && (s.stream t.slice t.queue).streaming,
                      staging := wb && (t.stagingReserved || s.stagingFree t.slice), mode := t.mode, header := headerOf t.req,
                      entered := t.entered, refusals := t.refusals, promoted := t.promoted }
  let s := s.updSnp u.id half fun x => { x with joined := some j }
  let s := ((s.bump Obj.crossings).countU 0x602 t.slice 1).returnDat t
  (s.dropTxn t.id).releaseAll t.id

/-! ### Copies that must be handled first -/

/-- The newest Dirty or Poisoned copy of a line in the Kernel or the staging buffer: data, poison, KEYID. -/
def State.owedAbove (s : State) (line : Nat) : Option (Line × Bool × Nat) :=
  let la := line * 128
  let kernel := match s.kernelHit line with
    | some (w, k) => if k.st.owed then [(s.kernelData (ksetOf la) w, k.st == .poisoned, k.keyid.toNat)] else []
    | none => []
  let staged := (s.tiers.staging.reverse.filter fun e => e.line == line && e.st.owed).map fun e =>
    (s.stagedData e, e.st == .poisoned, e.keyid.toNat)
  (kernel ++ staged).head?

/-- The newest Dirty or Poisoned copy of a line in the tiers and their buffers, in the order of R102: data, poison, KEYID. -/
def State.owedCopy (s : State) (line : Nat) : Option (Line × Bool × Nat) :=
  let la := line * 128
  let husk := match s.huskSector line with
    | some (w, x) =>
      if (x.st (lineIn la)).owed then
        [(s.huskData (hsetOf la) w (lineIn la), x.st (lineIn la) == .poisoned, x.keyid.toNat)] else []
    | none => []
  let hull := match s.hullOf line with
    | some e => [(s.hullData e, e.poison, e.keyid.toNat)]
    | none => []
  ((s.owedAbove line).toList ++ husk ++ hull).head?

/-- TYPE_CONFLICT: a Device look-up that finds a copy of its line in a tier, the staging buffer or the Hull buffer makes every
copy Invalid, and places an owed one in the posted write buffer first, read out of the Husk where it lies there (R248, R344, R347). -/
def State.typeConflict (s : State) (line : Nat) : State :=
  match s.tierCopy line with
  | none => s
  | some _ =>
    let owed := s.owedCopy line
    let (bad, s) : Bool × State := match s.owedAbove line, s.huskSector line with
      | none, some (w, x) =>
        if (x.st (lineIn (line * 128))).owed then s.huskTake (hsetOf (line * 128)) w (lineIn (line * 128)) x Cls.ev else (false, s)
      | _, _ => (false, s)
    let s := (((s.supersede line).dropKernel line).setHuskState line .invalid).cancelHull line
    let s := match owed with
      | some (d, p, k) => s.placeUnreserved line k d (p || bad)
      | none => s
    s.bump Obj.typeConflicts

/-- The copy that a Device request met waits for an entry of the posted write buffer (R248, R341). -/
def State.placementWaits (s : State) (line : Nat) : Bool :=
  s.tiers.staging.any fun e => e.line == line && e.kind == .placement

/-- The KEYID of a valid copy of a line that differs from a request's (R118). -/
def State.otherKey (s : State) (line keyid : Nat) : Option Nat :=
  let l := (match s.kernelHit line with | some (_, k) => [k.keyid.toNat] | none => [])
    ++ (s.tiers.staging.filter fun e => e.line == line).map (fun e => e.keyid.toNat)
    ++ (match s.huskSector line with
        | some (_, x) => if x.st (lineIn (line * 128)) ≠ .invalid then [x.keyid.toNat] else []
        | none => [])
    ++ (match s.hullOf line with | some e => [e.keyid.toNat] | none => [])
  l.find? (· != keyid)

/-- HUSK_SECTOR_STATE_LOSS: the upper word of a sector entry is uncorrectable (R366). A victim for which the sector was held chooses its
place again (R561). -/
def State.sectorLoss (s : State) (hset w : Nat) : State :=
  match s.sector hset w with
  | none => s
  | some x =>
    let s := s.noteUncorrectable (16 + hset / 32768)
    let s := (List.range 32).foldl (fun s n =>
      let line := laOfH hset x.tag n / 128
      let s := s.cancelHull line
      (s.placeUnreserved line x.keyid.toNat (s.huskData hset w n) true).notePoison line x.keyid.toNat 2) s
    let s := s.withTiers { s.tiers with
        repl := s.tiers.repl.filter fun r => !(r.hset == hset && r.way == w),
        staging := s.tiers.staging.map fun e => if e.target = some (hset, w) then { e with target := none } else e }
    s.setSector hset w none

/-! ### The home's transitions (Table 4.11) -/

/-- Reads: RdShared, RdOwn, Upgrade, RdCur, RdRsv. -/
def State.lookRead (s : State) (t : Txn) (c : Nat) (err : ErrPattern) : State :=
  let op := t.req.op
  let R := t.half.getD 0
  let shOf : Nat := match t.record with | some (_, _, sh) => sh.toNat | none => 0
  let owner : Option Nat := match t.record with | some (.owned, f, _) => some f | _ => none
  let fh : Option Nat := match t.record with | some (.shared, f, sh) => if sh.toNat.testBit f then some f else none | _ => none
  if owner == some R || (op == Op.rdShared && fh == some R) then
    ((s.bump Obj.stateErrors).fail t Op.errState c).tryEnd t.id c
  else
    let own := op == Op.rdOwn || op == Op.upgrade
    let bitSet := op == Op.upgrade && shOf.testBit R
    let fh' := if fh == some R then none else fh
    let target : Option Nat :=
      if bitSet then none
      else if own then owner.or fh'
      else if op = Op.rdShared then owner.or (if s.eff Obj.forwardShared = 1 then fh' else none)
      else owner
    let invs := if own then (setBits shOf 32).filter fun h => h != R && target != some h else []
    let grant : BitVec 3 := if own then 3 else if op = Op.rdShared then (if t.record.isNone then 3 else 2) else 0
    let record : Option (DirSt × Nat × BitVec 32) :=
      if own || (op == Op.rdShared && t.record.isNone) then some (.owned, R, (1 : BitVec 32) <<< R)
      else if op = Op.rdShared then some (.shared, R, BitVec.ofNat 32 shOf ||| ((1 : BitVec 32) <<< R))
      else t.record
    let pend := !bitSet && !invs.isEmpty
    let needAck := own || op == Op.rdShared
    let t' : Txn := { t with grant := grant, record := record, pend := pend, needAck := needAck,
                             todo := if bitSet then .compE else .nothing }
    let s := s.updTxn t.id fun _ => t'
    let s := if record.isSome && t.dirWay.isNone then s.allocDir t.id c else s
    let s := if grant = 3 then s.clearLine t.line Rsv.own else s
    let snp : Nat → Nat → Snp := fun h o =>
      { half := h, op := BitVec.ofNat 6 o, at_ := ceilDiv c 64,
        role := if owner == some h then 2 else if fh == some h then 1 else 0 }
    let fwdOp := if own then 2 else if op = Op.rdShared then 1 else 3
    let snoops := (match target with | some h => [snp h fwdOp] | none => []) ++ invs.map fun h => snp h 4
    let s := s.startSnoops t.id c snoops
    let s := if op = Op.rdRsv ∧ !t.gone then
        let s := s.clearMonitor t.queue Rsv.replaced
        let m : Monitor := { pline := t.req.addr.toNat / 128, line := t.line, keyid := t.req.keyid, partid := t.req.partid,
                             at_ := c / 64, intervening := t.after }
        let s := s.withPorts { s.ports with monitors := Assoc.put t.queue m s.ports.monitors,
                                                  cleared := Assoc.drop t.queue s.ports.cleared }
        let s := if 2 ≤ t.after then s.clearMonitor t.queue Rsv.intervening else s
        s.countR 0xA00 t.slice R t.req 1
      else s
    let s := if target.isNone && !bitSet then
        match s.txn t.id with
        | some t => if t.performed then s else s.sendHome t c err
        | none => s
      else s
    let s := if snoops.isEmpty then s else s.releaseAll t.id
    (s.advance t.id c err).releaseAll t.id

/-- The cause for which a WrCond fails, none where it passes (R268, R269). -/
def State.wrCondFails (s : State) (t : Txn) : Option Nat :=
  let judge : Monitor → List Nat := fun m =>
    (if m.at_ + 64 < t.entered then [Rsv.expired] else [])
      ++ (if m.line != t.line || m.keyid != t.req.keyid || m.partid != t.req.partid then [Rsv.mismatch] else [])
  let poison := if s.linePoisoned t.line then [Rsv.poison] else []
  let l := match Assoc.find? t.queue s.ports.monitors, Assoc.find? t.queue s.ports.cleared with
    | some m, _ => judge m ++ poison
    | none, some (cause, m) => cause :: judge m ++ poison
    | none, none => Rsv.none :: poison
  l.foldl (fun (b : Option Nat) x => match b with | none => some x | some y => some (min x y)) none

/-- After a WrCond the queue's monitor is Open (R268); a failure is counted unless its cause was counted when it cleared the
monitor (R269). -/
def State.closeMonitor (s : State) (q : Nat) (cause : Option Nat) : State :=
  let counted := match Assoc.find? q s.ports.cleared with
    | some (k, _) => cause == some k
    | none => false
  let s := match cause with
    | some k => if counted then s else s.bump (Obj.rsvClears + k - 1)
    | none => s
  (s.withPorts { s.ports with monitors := Assoc.drop q s.ports.monitors, cleared := Assoc.drop q s.ports.cleared })

/-- Writes at the home: WrInvAll, WrPartial, WrCond, far atomics. -/
def State.lookWrite (s : State) (t : Txn) (c : Nat) (err : ErrPattern) : State :=
  let op := t.req.op
  let R := t.half.getD 0
  let failed := if op = Op.wrCond then s.wrCondFails t else none
  let s := if op = Op.wrCond then s.closeMonitor t.queue failed else s
  if failed.isSome then
    let s := (s.bump Obj.wrcondFails).countR 0xA02 t.slice R t.req 1
    (((s.returnDat t).complete t Op.compFail c).releaseAll t.id).tryEnd t.id c
  else
    let s := if op = Op.wrInvAll ∧ !t.device ∧ !t.gone then s.streamWrite t.slice t.queue t.line else s
    let around := op == Op.wrInvAll && !t.device && (s.stream t.slice t.queue).streaming
    let snoops : List Snp := match t.record with
      | some (st, f, sh) => (setBits sh.toNat 32).map fun h =>
          { half := h, op := 4, role := roleOf st f h, at_ := ceilDiv c 64 }
      | none => []
    let s := s.updTxn t.id fun t =>
      { t with record := none, around := around, todo := if op = Op.wrInvAll then .place else .merge }
    let s := s.clearMonitors Rsv.write fun q m => m.line == t.line && q != t.queue
    let s := s.startSnoops t.id c snoops
    let s := if snoops.isEmpty then s else s.releaseAll t.id
    (s.advance t.id c err).releaseAll t.id

/-- Evictions: WbData and EvictClean (R190, R195, R219). -/
def State.lookEvict (s : State) (t : Txn) (c : Nat) : State :=
  let R := t.half.getD 0
  let wb := t.req.op == Op.wbData
  let held := match t.record with | some (_, _, sh) => sh.toNat.testBit R | none => false
  let owner := match t.record with | some (.owned, f, _) => f == R | _ => false
  let s :=
    if !held then
      let s := s.bump Obj.unrecordedEvictions
      if wb then ((s.bump Obj.stateErrors).returnDat t).fail t Op.errState c else s.complete t Op.comp c
    else if wb && owner then
      let s := if t.device || t.gone then s else s.streamWrite t.slice t.queue t.line
      let around := !t.device && (s.stream t.slice t.queue).streaming
      let s := s.updTxn t.id fun t => { t with record := none }
      let s := s.clearMonitors Rsv.write fun q m => m.line == t.line && q != t.queue
      ((s.placeRequest { t with around := around } t.req.data t.req.poison true c).2.returnDat t).complete t Op.comp c
    else
      let s := if wb then (s.bump Obj.stateErrors).returnDat t else s
      (s.updTxn t.id fun t => t.clearBit R).complete t Op.comp c
  (s.releaseAll t.id).tryEnd t.id c

/-- A request becomes active on its line (R173): the line's entry reads Blocked, and the transaction holds its record. -/
def State.activate (s : State) (t : Txn) : State :=
  let dset := dsetOf (t.line * 128)
  match s.dirHit t.line with
  | some (w, e) =>
    (s.setDir dset w (some { e with blocked := true })).updTxn t.id fun t =>
      { t with phase := .active, dirWay := some w, record := some (e.st, e.fholder, e.sharers) }
  | none => s.updTxn t.id fun t => { t with phase := .active, dirWay := none, record := none }

/-- A slice is fenced (R389). -/
def State.fenced (s : State) (sl : Nat) : Bool :=
  s.modes.mode == .contained && (s.obj Obj.fencedSlices).getLsbD sl

/-- Service of a request whose home slice is fenced (Table 9.8, R393): reads return zero data with POISON = 1; writes go to
the posted write buffer once the sweep is DONE; a WrCond whose monitor has been cleared fails (R268). -/
def State.serveFenced (s : State) (t : Txn) (c : Nat) : State :=
  let op := t.req.op
  let finish : Bool → Nat × State → State := fun data r => ((r.2.markPerformed t.id r.1 data).sampleRecord t c).dropRequest t
  if isRead op then
    finish true ((s.updTxn t.id fun t => { t with grant := 0, pend := false }).sendData { t with grant := 0, pend := false } 0 true
      [Leg.outKernel, Leg.out] (c + 8))
  else if op = Op.evictClean then finish false (s.respondAt t Op.comp 0 c)
  else if (Assoc.find? t.slice s.rel.sweep).isSome then s
  else if op == Op.wrCond && (s.wrCondFails t).isSome then
    let s := (s.closeMonitor t.queue (s.wrCondFails t)).bump Obj.wrcondFails
    finish false (((s.countR 0xA02 t.slice (t.half.getD 0) t.req 1).returnDat t).respondAt t Op.compFail 0 c)
  else if isAtomic op then finish true ((s.returnDat t).sendData { t with grant := 0 } 0 true [Leg.out] (c + 8))
  else
    let s := if op == Op.wrCond then
        ((s.closeMonitor t.queue none).bump Obj.wrcondPasses).countR 0xA01 t.slice (t.half.getD 0) t.req 1
      else s
    let s := s.clearMonitors Rsv.write fun q m => m.line == t.line && q != t.queue
    let full := op == Op.wrInvAll || op == Op.wbData
    let ((base, _), s) := if full then ((t.req.data, false), s) else
      match s.pwbOf t.line with
      | some e => ((e.data, e.poison), s)
      | none => s.dramRead t.line t.req.keyid.toNat
    let data := if full then base else mergeLine base t.req.data t.req.mask
    let s := s.updTxn t.id fun t => { t with pwbReserved := false, stagingReserved := false }
    let poison := !full || t.req.poison
    let s := if poison && !s.linePoisoned t.line then
        s.notePoison t.line t.req.keyid.toNat (if full then 6 else 5)
      else s
    let s := s.enterPwb t.line t.req.keyid.toNat data poison true t.device t.pwbReserved
    finish false ((s.returnDat t).respondAt t Op.comp 0 c)

/-- A Device request that memory of its type does not perform (Table 6.2, R192, R249). -/
def Txn.typeBad (t : Txn) : Bool :=
  t.device && !(t.req.op == Op.rdCur || t.req.op == Op.wrInvAll || t.req.op == Op.wrPartial)

/-- An eviction whose agent the transaction active on its line has snooped: it joins that transaction (R215). A Device eviction
ends with Error-Type instead (R249). DESIGN CHOICE (log entry 142): a snoop that still waits for its SNP credit counts as sent (R184,
R311). -/
def State.joinsAt (s : State) (t : Txn) : Option Txn :=
  let open_ : Snp → Bool := fun x => t.half == some x.half && !x.retired && x.joined.isNone
    && (x.answer.isNone || x.answer == some .crossing)
  match s.activeOn t.line with
  | some u => if isEvict t.req.op && !t.device && u.snoops.any open_ then some u else none
  | none => none

/-- The tracker of a request's look-up: the one it holds, or for an eviction a free general one, else one of 480 to 495 (R222, R224); one
for which a promoted request waits is not free (R227). -/
def State.lookTracker (s : State) (t : Txn) : Option Nat :=
  match t.tracker with
  | some k => some k
  | none => (s.freeIn t.slice 0 480).or (s.freeIn t.slice 480 496)

/-- A request names another KEYID than that of a valid copy of its line: it performs no access (R118). -/
def State.keyMismatch (s : State) (t : Txn) (k c : Nat) : State :=
  let s := (s.bump Obj.keyMismatches).raise 0xC5 [w64 (t.line * 128), w64 ((t.req.keyid.toNat <<< 16) + k)]
  (s.returnDat t).fail t Op.errKey c

/-- What the look-up of an active request does once copies of another memory type are out of the way (R118, R190, R249). -/
def State.lookServe (s : State) (t : Txn) (c : Nat) (err : ErrPattern) : State :=
  let op := t.req.op
  if t.typeBad then ((((s.bump Obj.typeErrors).returnDat t).fail t Op.errType c).releaseAll t.id).tryEnd t.id c
  else
    match if t.device then none else s.otherKey t.line t.req.keyid.toNat with
    | some k =>
      ((s.keyMismatch t k c).releaseAll t.id).tryEnd t.id c
    | none =>
      if isRead op then s.lookRead t c err
      else if isEvict op then s.lookEvict t c
      else s.lookWrite t c err

/-- A Device request whose line's copy has entered the posted write buffer goes on (R248). -/
def State.resumeHeld (s : State) (line c : Nat) : State :=
  match s.home.txns.find? fun t => t.line == line && t.held && t.phase == .active with
  | none => s
  | some t => (s.updTxn t.id fun t => { t with held := false }).lookServe { t with held := false } c []

/-- The outcome of a look-up of request `t` at cycle `c` (R77, R190). -/
def State.lookTxn (s : State) (t : Txn) (c : Nat) (err : ErrPattern) : State :=
  let R := t.half.getD 0
  let s := (s.stamp t.id 2 c).countR 0x100 t.slice R t.req 1
  if t.orderRefuse then s.refuseLook t 7 1 c
  else if s.fenced t.slice then
    let s := s.accepted t
    if t.typeBad then
      let s := ((s.bump Obj.typeErrors).returnDat t).fail t Op.errType c
      (s.sampleRecord t c).dropRequest t
    else s.serveFenced t c
  else
    match s.joinsAt t with
    | some u =>
      let s := s.accepted t
      match s.otherKey t.line t.req.keyid.toNat with
      | some k => ((s.keyMismatch t k c).sampleRecord t c).dropRequest t
      | none => s.joinCrossing t u
    | none =>
      match s.lookTracker t with
      | none => (s.bump Obj.trackerRefusals).refuseLook t 1 (s.holdMean t.slice) c
      | some k =>
        let t : Txn := { t with tracker := some k, allocated := if t.tracker.isSome then t.allocated else s.now }
        let s := (s.updTxn t.id fun _ => t).noteTracker t.slice
        if s.lineHeld t.line t.id then s.joinWait t c
        else
          let s := (s.accepted t).activate t
          let t := (s.txn t.id).getD t
          let s := if t.device then s.typeConflict t.line else s
          if t.device && s.placementWaits t.line then (s.updTxn t.id fun t => { t with held := true }).releaseAll t.id
          else s.lookServe t c err

/-- A tracked request that may look up in a cycle (R70, R209), no earlier request of its queue on its line being still to look up
(R252), nor an earlier waiter of its line in a fenced slice (R393). -/
def State.readyLook (s : State) (c : Nat) (t : Txn) : Bool :=
  s.lookReady c t && t.job.isNone
    && !(s.fenced t.slice && t.join != 0 && s.home.txns.any fun u =>
      u.phase == .admitted && u.line == t.line && u.join != 0 && decide (u.join < t.join))
    && !(s.home.txns.any fun u => u.phase == .admitted && decide (u.id < t.id) && u.half == t.half
      && u.req.stream == t.req.stream && u.line == t.line)

/-- The tag-slice slot that a tracked request looks up in. -/
def Txn.tagWant (t : Txn) (cls : Nat) : Want :=
  { kind := 0, row := t.slice, cls := cls, grp := t.group, promoted := t.promoted, arrive := t.arrive, half := t.half.getD 0 }

/-- Slot `k` of stride `n` of the slice's row serves the request's look-up: as one of its class, or as a promoted request (R51, R70). -/
def State.looksIn (s : State) (n k : Nat) (t : Txn) : Bool :=
  s.slotServes (t.tagWant (admClass t.req.op)) n k || (t.promoted && s.slotServes (t.tagWant Cls.sp) n k)

/-- Insert a promoted request by its age (R227). -/
def insertAged (now : Nat) (t : Txn) : List Txn → List Txn
  | [] => [t]
  | u :: l => if t.ageStart.getD now < u.ageStart.getD now then t :: u :: l else u :: insertAged now t l

/-- The oldest of a list of promoted requests (R81). -/
def oldestPromoted (now : Nat) (l : List Txn) : Option Txn :=
  l.foldl (fun (m : Option Txn) t => match m with
    | none => some t
    | some u => if t.ageStart.getD now < u.ageStart.getD now then some t else m) none

/-- `slot_user` on a tag-slice row (R51): the request that looks up in slot `k` of stride `n` of the slice: the one that has booked it,
else the oldest ready one that the slot serves; in a Spur slot the oldest promoted one (R81). -/
def State.pickLookAt (s : State) (sl n k : Nat) : Option Txn :=
  let c := n * 64 + k
  let ready := s.home.txns.filter fun t => t.slice == sl && s.readyLook c t
  match ready.find? fun t => match s.bookingOf t.id Leg.tag with | some b => b.cycle == c | none => false with
  | some t => some t
  | none =>
    let fit := ready.filter (s.looksIn n k)
    let spur := match s.gaitAt n with | some g => (g.entry 0 sl k).cls == Cls.sp | none => false
    match if spur then oldestPromoted s.now (fit.filter (·.promoted)) else none with
    | some t => some t
    | none => fit.head?

/-- The request that looks up in slot `cyc` of this stride. -/
def State.pickLook (s : State) (sl cyc : Nat) : Option Txn := s.pickLookAt sl s.now cyc

/-- A look-up in the slot of cycle `c`: its booking is used, or released where it is another slot's (R51, R52). -/
def State.lookIn (s : State) (t : Txn) (c : Nat) (err : ErrPattern) : State :=
  let s := match s.bookingOf t.id Leg.tag with
    | some b => if b.cycle = c then s.claim t.id Leg.tag else s.unbook t.id Leg.tag
    | none => s
  (s.useAt 0 t.slice (c / 64) (c % 64) (admClass t.req.op) t.group t.promoted).lookTxn t c err

/-- LOOKUP in tag-slice slot `cyc` of a slice (R77), with the errors that its reads meet. -/
def State.lookup (s0 : State) (sl cyc : Nat) (err : ErrPattern) (upper : Option (Fin 16)) : State :=
  let s := s0.sentBy (s0.now * 64 + cyc)
  match s.pickLook sl cyc with
  | none => s
  | some t =>
    let s := match upper with
      | some w => s.sectorLoss (hsetOf (t.line * 128)) w.val
      | none => s
    s.lookIn t (s.now * 64 + cyc) err

/-! ### What agents answer -/

/-- STRAY_MESSAGE (R396): discarded, counted, and an alarm at the first in the policy epoch. -/
def State.stray (s : State) (half op : Nat) (htid : BitVec 13) : State :=
  let s := s.bump Obj.strayMessages
  if s.rel.strayInEpoch then s
  else (s.withRel { s.rel with strayInEpoch := true }).raise 0xC3 [w64 half, w64 op, w64 htid.toNat]

/-- The transaction of an HTID. -/
def State.byHtid (s : State) (htid : BitVec 13) : Option Txn :=
  s.home.txns.find? fun t => t.phase == .active && t.tracker.isSome && t.htid == htid

/-- Answers that a snoop may have (Table 4.10). -/
def ansFits (op : BitVec 6) : Ans → Bool
  | .i | .crossing => true
  | .s => op == 1 || op == 3
  | .fwdI => op == 2
  | .fwdS | .sWb _ _ => op == 1
  | .fwdCur => op == 3
  | .iWb _ _ => op == 4

/-- An agent's answer arrives at its transaction, or is stray. -/
def State.agentAnswer (s : State) (half : Nat) (htid : BitVec 13) (op : Nat) (a : Ans) : State :=
  match s.byHtid htid with
  | some t =>
    if t.snoops.any fun x => x.half == half && x.sent && x.answer.isNone && !x.retired && ansFits x.op a then
      s.updSnp t.id half fun x => { x with answer := some a }
    else s.stray half op htid
  | none => s.stray half op htid

/-- A DAT message of `n` bytes has committed from a half (Table 13.3, R506). -/
def State.datIn (s : State) (half : Nat) (n : Nat := 128) : State :=
  (s.countU 0x903 half 1).hist half fun h => { h with bytesIn := h.bytesIn + n }

/-- Bytes of the payload slots of a request's ReqData (R297): MASK is among them (log entry 158). -/
def reqDataBytes (op : Nat) : Nat := if op = Op.wrPartial ∨ op = Op.wrCond then 144 else if isAtomic op then 32 else 128

/-- CompAck (R187). -/
def State.compAck (s : State) (half : Nat) (htid : BitVec 13) : State :=
  match s.byHtid htid with
  | some t =>
    if t.half == some half && t.needAck && t.performed && !t.acked then s.updTxn t.id fun t => { t with acked := true }
    else s.stray half 7 htid
  | none => s.stray half 7 htid

/-- A FwdData has passed in full to its requester (R232). -/
def State.passFwd (s : State) (t : Txn) (holder : Option Nat) (f : Fwd) : State :=
  let now := s.now * 64
  let (c, s) := s.egress 0 [] (outWant f.half Cls.sf 1 (now + 8) 8)
  let s := if t.gone then s else
    let s := s.toHalf f.half c (.fwdData f.half f.tag f.htid f.grant f.pend f.poison f.data false)
    (s.datOut f.half t.line f.tag f.poison c).histRead f.half (t.acceptAt - 13) t.lostAt c
  let s := ((s.fixedAt (c / 64) 8 1).countR 0x105 t.slice f.half t.req 1).tagOutcome t.id 4
  let s := (s.stamp t.id 4 now).stampOut t.id c ((s.link f.half).lost - t.lostAt)
  let s := s.updTxn t.id fun t =>
    { t with snoops := t.snoops.map fun x => if x.forwards && (holder.isNone || holder == some x.half) then
      { x with passed := true, passAt := c } else x }
  (s.markPerformed t.id c true).tryEnd t.id now

/-- The transaction that a FwdData belongs to, by its HTID, requester half and RTAG (R232). -/
def State.fwdTarget (s : State) (f : Fwd) : Option Txn :=
  (s.byHtid f.htid).filter fun t => t.half == some f.half && t.req.tag == f.tag && !t.performed

/-- A FwdData leaves for its requester rewound: the data slots that had not arrived are zero (R307). -/
def State.rewindFwd (s : State) (t : Txn) (f : Fwd) (slots : Nat) : State :=
  let (c, s) := s.egress 0 [] (outWant f.half Cls.sf 1 (s.now * 64 + 8) 8)
  let part : Line := f.data &&& BitVec.ofNat 1024 (2 ^ (128 * slots) - 1)
  let s := s.toHalf f.half c (.fwdData f.half f.tag f.htid f.grant f.pend f.poison part true)
  let s := s.datOut f.half t.line f.tag f.poison c
  (s.withPorts { s.ports with resend := s.ports.resend ++ [f] }).bump (Obj.egressRewinds + f.half * 256)

/-- FWDDATA: a holder's FwdData crosses to the requester; where only its first `late` data slots have come in time it is rewound
(R232, R307, R396). -/
def State.fwdData (s : State) (half : Nat) (f : Fwd) (late : Option (Fin 8)) : State :=
  let s := s.datIn half
  match s.fwdTarget f with
  | some t =>
    let fits := t.snoops.any fun x => x.half == half && x.forwards && x.sent && !x.passed && !x.retired
    let again := s.ports.resend.any fun y => y.htid == f.htid
    if !fits || again then s.stray half 2 f.htid
    else
      match late with
      | some n => if t.gone then s.passFwd t (some half) f else s.rewindFwd t f n.val
      | none => s.passFwd t (some half) f
  | none => s.stray half 2 f.htid

/-- FWDDATA_RESEND (R307): the rewound FwdData is sent whole, where the transaction that it belongs to still waits for it. -/
def State.fwdResend (s : State) (half : Nat) : State :=
  match s.ports.resend.find? fun f => f.half == half with
  | none => s
  | some f =>
    let s := s.withPorts { s.ports with resend := dropFirst (fun y => y.half == half) s.ports.resend }
    match s.fwdTarget f with
    | some t => s.passFwd t none f
    | none => s

/-- SNOOP_SEND_AFTER_CREDIT (R311). -/
def State.snoopSend (s : State) (half : Nat) : State :=
  match s.home.txns.find? fun t => t.snoops.any fun x => x.half == half && !x.sent && !x.retired with
  | none => s
  | some t =>
    let l := s.link half
    match t.snoops.find? fun x => x.half == half with
    | none => s
    | some x =>
      if l.snpCredit = 0 || !s.halfUp half then s else s.sendSnoop t x (s.now * 64)

/-! ### Meanings -/

/-- LOOKUP (R77). -/
def execLookup (slice : Fin 16) (cyc : Fin 64) (err : ErrPattern) (upper : Option (Fin 16)) (s : State) :
    Host.Outcome State Fault Refusal := .next (s.lookup slice.val cyc.val err upper)

/-- RSPI (R196). -/
def execRspI (half : Fin 32) (htid : BitVec 13) (s : State) : Host.Outcome State Fault Refusal :=
  .next (s.agentAnswer half.val htid 1 .i)

/-- RSPS (R196). -/
def execRspS (half : Fin 32) (htid : BitVec 13) (s : State) : Host.Outcome State Fault Refusal :=
  .next (s.agentAnswer half.val htid 2 .s)

/-- RSPFWDI (R186). -/
def execRspFwdI (half : Fin 32) (htid : BitVec 13) (s : State) : Host.Outcome State Fault Refusal :=
  .next (s.agentAnswer half.val htid 3 .fwdI)

/-- RSPFWDS (R186). -/
def execRspFwdS (half : Fin 32) (htid : BitVec 13) (s : State) : Host.Outcome State Fault Refusal :=
  .next (s.agentAnswer half.val htid 4 .fwdS)

/-- RSPFWDCUR (R186). -/
def execRspFwdCur (half : Fin 32) (htid : BitVec 13) (s : State) : Host.Outcome State Fault Refusal :=
  .next (s.agentAnswer half.val htid 5 .fwdCur)

/-- CROSSING (R216). -/
def execCrossing (half : Fin 32) (htid : BitVec 13) (s : State) : Host.Outcome State Fault Refusal :=
  .next (s.agentAnswer half.val htid 6 .crossing)

/-- COMPACK (R187). -/
def execCompAck (half : Fin 32) (htid : BitVec 13) (s : State) : Host.Outcome State Fault Refusal :=
  .next (s.compAck half.val htid)

/-- RSPIWB (R198). -/
def execRspIWb (half : Fin 32) (htid : BitVec 13) (data : Line) (poison : Bool) (s : State) :
    Host.Outcome State Fault Refusal := .next ((s.datIn half.val).agentAnswer half.val htid 8 (.iWb data poison))

/-- RSPSWB (R198). -/
def execRspSWb (half : Fin 32) (htid : BitVec 13) (data : Line) (poison : Bool) (s : State) :
    Host.Outcome State Fault Refusal := .next ((s.datIn half.val).agentAnswer half.val htid 9 (.sWb data poison))

/-- FWDDATA (R232, R307). -/
def execFwdData (half rhalf : Fin 32) (rtag : BitVec 12) (htid : BitVec 13) (grant : BitVec 3) (pend : Bool) (data : Line)
    (poison : Bool) (late : Option (Fin 8)) (s : State) : Host.Outcome State Fault Refusal :=
  .next (s.fwdData half.val { half := rhalf.val, tag := rtag, htid := htid, grant := grant, pend := pend, poison := poison,
                              data := data } late)

/-- RETIRE (R184). -/
def execRetire (slice : Fin 16) (cyc : Fin 64) (s : State) : Host.Outcome State Fault Refusal :=
  .next (s.retire slice.val cyc.val)

/-- DIR_ALLOC_RETRY (R176). -/
def execDirAllocRetry (slice : Fin 16) (cyc : Fin 64) (s : State) : Host.Outcome State Fault Refusal :=
  .next (s.dirRetry slice.val cyc.val)

/-- SNOOP_SEND_AFTER_CREDIT (R311). -/
def execSnoopSendAfterCredit (half : Fin 32) (s : State) : Host.Outcome State Fault Refusal := .next (s.snoopSend half.val)

/-- FWDDATA_RESEND (R307). -/
def execFwdDataResend (half : Fin 32) (s : State) : Host.Outcome State Fault Refusal := .next (s.fwdResend half.val)

end Sys2Proof.Machine
end

