-- ==== Sys2Proof/Machine/LinkOut.lean ====
section
/-!
DEFINITION. What a link carries from the H2C (07): message slots and data headers (Tables 7.10, 7.11), the flits of a stride
(R20, R284, R294 to R297) with their control slots (Table 7.9), striping and scrambling (R289), the flits kept for replay (R305),
the suspension of egress slots (R306), training blocks (Table 7.4) and capability flits (Table 7.5) of the H2C.
-/
namespace Sys2Proof.Machine

/-! ### Messages as slots -/

/-- An SNP slot (Table 7.10). -/
def snpSlot (op htid rhalf rtag : Nat) (pend : Bool) (saddr : Nat) : BitVec 128 :=
  BitVec.ofNat 128 ((2 <<< 125) + (op <<< 119) + (htid <<< 106) + (rhalf <<< 101) + (rtag <<< 89)
    + ((if pend then 1 else 0) <<< 88) + saddr)

/-- An RSP slot (Table 7.10); HTID is carried in CompE and InvDone. -/
def rspSlot (op tag htid reason wait retryAt : Nat) : BitVec 128 :=
  BitVec.ofNat 128 ((3 <<< 125) + (op <<< 119) + (tag <<< 107) + (htid <<< 94) + (reason <<< 86) + (wait <<< 78)
    + (retryAt <<< 68))

/-- The opcode of Refused (Table 4.7). -/
abbrev opRefused : Nat := 0x18

/-- The opcodes of CompData and FwdData (Table 4.8). -/
abbrev opCompData : Nat := 0x01
abbrev opFwdData : Nat := 0x02

/-- The slot of a short message; none for a message of another kind. -/
def OutMsg.slot : OutMsg → Option (BitVec 128)
  | .rsp _ op tag htid => some (rspSlot op.toNat tag.toNat htid.toNat 0 0 0)
  | .refused _ tag reason wait retryAt => some (rspSlot opRefused tag.toNat 0 reason.toNat wait.toNat retryAt.toNat)
  | .snoop _ op htid rhalf rtag pend saddr => some (snpSlot op.toNat htid.toNat rhalf rtag.toNat pend saddr.toNat)
  | _ => none

/-- The data header of a data message that starts in payload slot `start` (Table 7.11), for a line of 8 slots. -/
def dataHead (op start tag htid grant : Nat) (pend poison : Bool) : Nat :=
  (op <<< 42) + (start <<< 38) + (tag <<< 24) + (htid <<< 11) + (grant <<< 3)
    + ((if pend then 1 else 0) <<< 2) + ((if poison then 1 else 0) <<< 1)

/-- A data message: its header by its start, its line, and whether it is rewound (R307). -/
def OutMsg.dataOf : OutMsg → Option ((Nat → Nat) × Line × Bool)
  | .compData _ tag htid grant pend poison d =>
    some (fun i => dataHead opCompData i tag.toNat htid.toNat grant.toNat pend poison, d, false)
  | .fwdData _ tag htid grant pend poison d rwd =>
    some (fun i => dataHead opFwdData i tag.toNat htid.toNat grant.toNat pend poison, d, rwd)
  | _ => none

/-- The MGT field of a message (R301). -/
def OutMsg.mgtField : OutMsg → Option Nat
  | .mgt _ op payload => some ((op.toNat <<< 42) + payload.toNat)
  | _ => none

/-! ### The flits of a stride -/

/-- Messages in the order of their egress slots, so that the flits' starts come in order (R296). -/
def insertBySlot (x : Nat × OutMsg) : List (Nat × OutMsg) → List (Nat × OutMsg)
  | [] => [x]
  | y :: l => if x.1 < y.1 then x :: y :: l else y :: insertBySlot x l

/-- Messages of a stride's flits at the link's gait payload slots: the first slot of each, and the message (R20, R284). -/
def placeMsgs (d h' : Nat) : List (Nat × OutMsg) → List (Nat × OutMsg) → List (Nat × OutMsg)
  | [], done => done
  | (c, m) :: rest, done =>
    let g := 8 * ((slotOfCycle 4 c - h') / d)
    let used := done.filter fun x => decide (g ≤ x.1) && decide (x.1 < g + 8)
    placeMsgs d h' rest (done ++ [(g + used.length, m)])

/-- Payload slot `g` of the stride (R295, R297). -/
def slotValue (l : List (Nat × OutMsg)) (g : Nat) : BitVec 128 :=
  match l.findSome? fun x =>
      match x.2.slot, x.2.dataOf with
      | some v, _ => if x.1 = g then some v else none
      | none, some (_, line, _) => if x.1 ≤ g ∧ g < x.1 + 8 then some ((line >>> (128 * (g - x.1))).setWidth 128) else none
      | none, none => none with
  | some v => v
  | none => 0

/-- Data messages of the stride as (first slot, header by start, rewound). -/
def dataStarts (l : List (Nat × OutMsg)) : List (Nat × (Nat → Nat) × Bool) :=
  l.filterMap fun x => x.2.dataOf.map fun y => (x.1, y.1, y.2.2)

/-- The next credits that a control slot returns: channel and count (Table 7.9), and the link without them (R310). -/
def Link.giveCredit (l : Link) : Nat × Link :=
  if l.reqReturn ≠ 0 then ((1 <<< 6) + min 63 l.reqReturn, { l with reqReturn := l.reqReturn - min 63 l.reqReturn })
  else if l.datReturn ≠ 0 then ((3 <<< 6) + min 63 l.datReturn, { l with datReturn := l.datReturn - min 63 l.datReturn })
  else if l.mgtReturn ≠ 0 then ((4 <<< 6) + min 63 l.mgtReturn, { l with mgtReturn := l.mgtReturn - min 63 l.mgtReturn })
  else (0, l)

/-- The 242 bytes before a flit's CRC, closed by it (R303, Table 7.7). -/
def closeFlit (v : Nat) : BitVec 2000 :=
  let crc := crc64 ((List.range 242).map fun i => (v >>> (8 * i)) % 256)
  BitVec.ofNat 2000 (v + (crc <<< 1936))

/-- A flit of 250 bytes without its FEC bytes (Table 7.7): header, slots 0 to 13, control slot and CRC. -/
def flitBody (header : Nat) (slots : List (BitVec 128)) (control : Nat) : BitVec 2000 :=
  closeFlit (header + (slots.foldr (fun (x : BitVec 128) n => (n <<< 128) + x.toNat) 0 <<< 16) + (control <<< 1808))

/-- A flit with its six FEC bytes: the check bytes of codeword `i` are bytes 250 + i and 253 + i (log entry 122). -/
def withFec (f : BitVec 2000) : BitVec 2048 :=
  let byte : Nat → Nat := fun i => (f.toNat >>> (8 * i)) % 256
  let word : Nat → Nat := fun i => (Config.fecCheck i (((List.range 250).filter fun j => j % 3 == i).map byte)).toNat
  let fec := (List.range 3).foldl (fun n i => n + ((word i % 256) <<< (8 * i)) + ((word i / 256) <<< (8 * (3 + i)))) 0
  BitVec.ofNat 2048 (f.toNat + (fec <<< 2000))

/-! ### Lanes -/

/-- One bit of a lane's scrambler: x^23 + x^21 + x^16 + x^8 + x^5 + x^2 + 1 (R289; its form and the bit order as in PCIe,
PRESUMED, log entry 122). -/
def scrambleBit (x : BitVec 23) : BitVec 23 := if x.getLsbD 22 then (x <<< 1) ^^^ 0x210125 else x <<< 1

/-- A byte scrambled on a lane, bit 0 first, and the lane's LFSR after it. -/
def scrambleByte (x : BitVec 23) (b : Nat) : Nat × BitVec 23 :=
  (List.range 8).foldl (fun (acc : Nat × BitVec 23) i =>
    let k := if acc.2.getLsbD 22 then 1 else 0
    (acc.1 ^^^ (k <<< i), scrambleBit acc.2)) (b, x)

/-- The scramblers at the first capability flit (R289). -/
def scrambleSeeds : List (BitVec 23) := (List.range 16).map fun n => (0x7FFFFF : BitVec 23) ^^^ BitVec.ofNat 23 n

/-- A flit striped over `w` lanes, byte `i` to lane `i` mod `w`, each lane's bytes scrambled in order (R289); and the LFSRs after
it. DESIGN CHOICE (log entry 146): a link's lanes are numbered 0 to `w` - 1 here, whichever of the port's lanes they are, and the LFSR
of a lane that carries nothing stands still. -/
def stripe (w : Nat) (lfsr : List (BitVec 23)) (f : BitVec 2048) : List Nat × List (BitVec 23) :=
  let lane : Nat → Nat × BitVec 23 := fun n =>
    (List.range (256 / w)).foldl (fun (acc : Nat × BitVec 23) j =>
      let (b, x) := scrambleByte acc.2 ((f.toNat >>> (8 * (w * j + n))) % 256)
      (acc.1 + (b <<< (8 * j)), x)) (0, lfsr.getD n 0)
  let l := (List.range w).map lane
  (l.map (·.1), l.map (·.2) ++ lfsr.drop w)

/-- A flit leaves on a link's lanes. -/
def State.driveFlit (s : State) (h : Nat) (f : BitVec 2048) : State :=
  let l := s.link h
  let (lanes, lfsr) := stripe (max 1 l.width) l.scramble f
  (s.setLink h { l with scramble := lfsr }).emit (.flit h f lanes)

/-! ### Assembly -/

/-- Sequence number of a flit (Table 7.8). -/
def seqOf (f : BitVec 2048) : BitVec 10 := BitVec.ofNat 10 (bitsOf (f.toNat % 65536) 13 4)

/-- The later of two sequence numbers modulo 1,024 (R303). -/
def laterSeq (a b : BitVec 10) : BitVec 10 := if (a - b).toNat < 512 then a else b

/-- A flit leaves for the first time, in the stride that has ended, and is kept until it is acknowledged (R305). -/
def State.launchFlit (s : State) (h : Nat) (f : BitVec 2048) : State :=
  let l := s.link h
  ((s.setLink h { l with kept := l.kept ++ [(s.now - 1, f)] }).countU 0x900 h 1).driveFlit h f

/-- A flit that has waited leaves with the ACKSEQ and NAK of its departure (R304, Table 7.9). -/
def Link.restamp (l : Link) (f : BitVec 2048) : BitVec 2048 :=
  let v := f.toNat % 2 ^ 1936
  let kept := v % 2 ^ 1925
  withFec (closeFlit (kept + ((if l.nak then 1 else 0) <<< 1925) + (l.committed.toNat <<< 1926)))

/-- Flits that waited for acknowledgements leave, in order, as far as REPLAY_DEPTH lets them (R305). -/
def State.launchUnsent (s : State) (h : Nat) : State :=
  let l := s.link h
  let n := l.depth - l.kept.length
  (l.unsent.take n).foldl (fun s f => s.launchFlit h (l.restamp f)) (s.setLink h { l with unsent := l.unsent.drop n })

/-- Flit `i` of a stride whose messages stand at their payload slots is built (R294 to R297). It leaves unless as many flits as
REPLAY_DEPTH are unacknowledged, and waits then (R305). -/
def State.sendFlit (s : State) (h i : Nat) (msgs : List (Nat × OutMsg)) : State :=
  let l := s.link h
  let first := 14 * i
  let slots := (List.range 14).map fun k => slotValue msgs (first + k)
  let data := dataStarts msgs
  let starts := (data.filter fun x => decide (first ≤ x.1) && decide (x.1 < first + 14)).map fun x => x.2.1 (x.1 - first)
  let cont := data.any fun x => decide (x.1 < first + 14) && decide (first + 14 < x.1 + 8)
  let rwd := data.any fun x => x.2.2 && decide (first ≤ x.1 + 7) && decide (x.1 + 7 < first + 14)
  let mgt := if starts.length ≤ 1 then l.outbox.findSome? fun x => x.2.mgtField else none
  let (credA, l) := l.giveCredit
  let (credB, l) := l.giveCredit
  let control := (l.committed.toNat <<< 118) + ((if l.nak then 1 else 0) <<< 117) + (credA <<< 108) + (credB <<< 99)
    + (starts.length <<< 97) + ((if mgt.isSome then 1 else 0) <<< 96) + (starts.getD 0 0 <<< 48)
    + (match mgt with | some v => v | none => starts.getD 1 0)
  let header := (l.fseq.toNat <<< 4) + ((if cont then 1 else 0) <<< 3) + ((if rwd then 1 else 0) <<< 2)
  let f := withFec (flitBody header slots control)
  let l : Link := { l with outbox := if mgt.isSome then dropFirst (fun x => x.2.mgtField.isSome) l.outbox else l.outbox }
  let l : Link := { l with fseq := l.fseq + 1, ackSent := l.committed }
  if l.depth ≤ l.kept.length ∨ l.unsent ≠ [] then s.setLink h { l with unsent := l.unsent ++ [f] }
  else (s.setLink h l).launchFlit h f

/-- A flit has something to carry: a slot of a message, credits, an MGT message, or an ACKSEQ or NAK of which the agent does not
know (DESIGN CHOICE: an empty flit is not sent, log entry 122). -/
def Link.hasFlit (l : Link) (i : Nat) (msgs : List (Nat × OutMsg)) : Bool :=
  let touches : Nat × OutMsg → Bool := fun x =>
    decide (x.1 < 14 * i + 14) && decide (14 * i < x.1 + (if x.2.slot.isSome then 1 else 8))
  msgs.any touches || l.reqReturn != 0 || l.datReturn != 0 || l.mgtReturn != 0
    || (l.outbox.any fun x => x.2.mgtField.isSome) || l.ackSent != l.committed || (l.nak && i == 0)

/-- The flits of one stride of a link that sends payload (R284). -/
def State.sendStride (s : State) (h stride : Nat) : State :=
  let l := s.link h
  let d := l.spacing
  let h' := if s.ports.split.toNat.testBit (h / 2) then h % 2 else 0
  let mine : Nat × OutMsg → Bool := fun x => x.1 / 64 == stride && x.2.mgtField.isNone
  let msgs := placeMsgs d h' ((l.outbox.filter mine).foldl (fun a x => insertBySlot x a) []) []
  if d = 0 then s
  else
    let s := s.setLink h { l with outbox := l.outbox.filter fun x => !mine x }
    (List.range (16 / d)).foldl (fun s i => if (s.link h).hasFlit i msgs then s.sendFlit h i msgs else s) s

/-- At a stride boundary every link that sends payload has sent the flits that waited (R305), those of the stride that has ended, and
of earlier ones that a RETRAIN held back (R306). -/
def State.sendFlits (s : State) : State :=
  (s.ports.links.map (·.1)).foldl (fun s h =>
    match (s.link h).state with
    | .active | .quiescing =>
      let s := s.launchUnsent h
      let due := ((s.link h).outbox.filter fun x => decide (x.1 / 64 < s.now) && x.2.mgtField.isNone).map fun x => x.1 / 64
      (due.eraseDups ++ (if due.contains (s.now - 1) then [] else [s.now - 1])).foldl (fun s t => s.sendStride h t) s
    | _ => s) s

/-! ### Suspension of egress slots (R306) -/

/-- Carried slots of a link that begin before cycle `c`. -/
def carriedBefore (d h' c : Nat) : Nat :=
  c / 64 * (28 / d) + ((List.range 28).filter fun k => k % d == h' && decide (slotCycle 4 k < c % 64)).length

/-- Stride and slot of the `i`-th carried slot. -/
def carriedSlot (d h' i : Nat) : Nat × Nat := (i / (28 / d), d * (i % (28 / d)) + h')

/-- The link's carried egress slots have been suspended from cycle `c0` to `c1`: each booked egress work, the
outcome that it sends and the events that it counts move to the carried slot as many carried slots after the end as it lay after the
start, and the time counts in no read's latency (R306). `old` is the link as
it stood at the start. -/
def State.suspendSlots (s : State) (h : Nat) (old : Link) (c0 c1 : Nat) : State :=
  let h' := if s.ports.split.toNat.testBit (h / 2) then h % 2 else 0
  let d := old.spacing
  let d' := (s.link h).spacing
  if d = 0 || d' = 0 || decide (c1 ≤ c0) then s
  else
    let move : Nat → Nat × Nat := fun c => carriedSlot d' h' (carriedBefore d' h' c1 + (carriedBefore d h' c - carriedBefore d h' c0))
    let shift : Booking → Booking := fun b =>
      if b.kind == 4 && b.half == h && decide (c0 ≤ b.cycle) then { b with stride := (move b.cycle).1, slot := (move b.cycle).2 } else b
    let later : Nat × OutMsg → Nat × OutMsg := fun x =>
      if c0 ≤ x.1 ∧ x.2.mgtField.isNone then ((move x.1).1 * 64 + slotCycle 4 (move x.1).2, x.2) else x
    let cyc : Nat → Nat := fun c => if c0 ≤ c then (move c).1 * 64 + slotCycle 4 (move c).2 else c
    let mine : PmuEvent → Bool := fun e => match e with
      | .datOut half _ _ _ | .read half _ _ => half == h
      | _ => false
    let l := s.link h
    let s := s.setLink h { l with outbox := l.outbox.map later, lost := l.lost + (c1 - c0) }
    let s := s.withPorts { s.ports with outcomes := s.ports.outcomes.map fun o =>
      if o.queue / 512 = h then { o with cycle := cyc o.cycle } else o }
    let reads := (s.home.txns.filter fun t => t.half == some h).map (·.id)
    let s := s.withHome { s.home with txns := s.home.txns.map fun t => if t.half ≠ some h then t else
      { t with snoops := t.snoops.map fun x => if x.passed then { x with passAt := cyc x.passAt } else x } }
    let s := s.withPmu { s.pmu with
      later := s.pmu.later.map (fun x => if mine x.2 then (cyc x.1, x.2) else x),
      tags := s.pmu.tags.map fun g =>
        let out := g.stamps.getD 4 0
        if reads.contains g.id && decide (c0 ≤ out) && out != 0 then
          { g with stamps := setAt (setAt g.stamps 4 (cyc out)) 5 (cyc out + 12), lost := g.lost + (c1 - c0) }
        else g }
    let s := s.countU 0x906 h (carriedBefore d' h' c1 - carriedBefore d h' c0)
    s.withGait { s.gait with ledger := s.gait.ledger.map shift }

/-- Flits up to a sequence number are acknowledged (R305). -/
def Link.ack (l : Link) (a : BitVec 10) : Link :=
  let a := laterSeq a l.acked
  { l with acked := a, kept := l.kept.filter fun x => decide (seqOf x.2 ≠ a) && laterSeq (seqOf x.2) a == seqOf x.2 }

/-- The H2C resends the flits after ACKSEQ unchanged, in order; egress slots are suspended for as many flit times, in which they carry
no new work either (R305, R306). -/
def State.resendFlits (s : State) (h : Nat) : State :=
  let l := s.link h
  if l.kept.isEmpty then s
  else
  let s := l.kept.foldl (fun (s : State) x => (s.countU 0x900 h 1).driveFlit h x.2) s
  let c := s.now * 64 + 4 * l.spacing * l.kept.length
  let s := (s.setLink h { s.link h with kept := l.kept.map fun x => (s.now, x.2) }).suspendSlots h l (s.now * 64) c
  s.setLink h { s.link h with pause := (s.now * 64, c) }

/-! ### Training and capability -/

/-- Bytes, little-endian, as a number. -/
def bytesLE (l : List Nat) : Nat := l.foldr (fun b n => n * 256 + b) 0

/-- The H2C's training block on a lane (Table 7.4): widths offered by an unsplit port or a half, both rates. DESIGN CHOICE (log entry
145): its PRESET asks for none, in the request for equalization too. -/
def trainBlock (type lane : Nat) (split : Bool) : BitVec 128 :=
  let head := [0xB5, type, lane, if split then 0x23 else 0x07, 0x03, 0xFF] ++ List.replicate 8 0
  let crc := crc16 head
  BitVec.ofNat 128 (bytesLE (head ++ [crc % 256, crc / 256]))

/-- The H2C sends one training block on each of a half's lanes (R288). -/
def State.sendTraining (s : State) (h type : Nat) (split : Bool) : State :=
  let lanes := if split then (List.range 8).map (· + 8 * (h % 2)) else List.range 16
  lanes.foldl (fun s n => s.emit (.training h n (trainBlock type n split))) s

/-- The H2C's capability payload (Table 7.5). -/
def State.capabilityPayload (s : State) (h : Nat) (split : Bool) : Nat :=
  let ident := ((s.obj Obj.partCode).toNat % 65536) + (((s.obj Obj.stepping).toNat % 256) <<< 16) + (s.domainIndex <<< 24) + (h <<< 26)
  bytesLE [0x4D, 0x43, 0x4C, 0x43, 0x07, 0x01] + (0xDF <<< 64) + ((if split then 1024 else 2048) <<< 96)
    + ((if split then 256 else 512) <<< 112) + (16 <<< 144) + (256 <<< 160) + (ident <<< 256)

/-- The H2C sends a capability flit (R290, R294); the scramblers start afresh with the first one (R289). -/
def State.sendCapability (s : State) (h : Nat) (split : Bool) : State :=
  let l := s.link h
  let s := if l.capSent = 0 then s.setLink h { l with scramble := scrambleSeeds } else s
  let p := s.capabilityPayload h split
  let slots := (List.range 14).map fun k => BitVec.ofNat 128 (p >>> (128 * k))
  s.driveFlit h (withFec (flitBody 0x4000 slots ((p >>> 1792) % 2 ^ 128)))

end Sys2Proof.Machine
end

