-- ==== Sys2Proof/Machine/Links.lean ====
section
/-!
DEFINITION. The links of the agent ports (07): receiver detection and training (R281 to R288), capability exchange
(R290 to R292), retraining (R305, R309), commands and resets (R323, R326), loss of signal (R287), planned removal
(R321, R322), and the timeouts of Table 5.5 that force a departure (R230 to R233).
-/
namespace Sys2Proof.Machine

/-! ### State changes -/

/-- The link was in a state whose end counts as a LINK_DOWN (07, "Agents joining and leaving"). -/
def LinkState.linked : LinkState → Bool
  | .active | .held | .quiescing | .retrain => true
  | _ => false

/-- A link enters a state: sources 0x090 + half and 0x0BF (Table 12.1). -/
def State.setLinkState (s : State) (h : Nat) (st : LinkState) : State :=
  let l := s.link h
  let s := s.setLink h { l with state := st, begun := s.now }
  let s := if l.state = st then s else s.raise (0x90 + h) [w64 l.state.code, w64 st.code, w64 l.width, w64 l.rate]
  if st = .incompatible ∨ st = .failed then s.raise 0xBF [w64 h, w64 l.reason] else s

/-- A port runs split (R281). -/
def State.isSplit (s : State) (h : Nat) : Bool := s.ports.split.toNat.testBit (h / 2)

/-- Half `h` names a link: upper halves of unsplit ports name none (R325). -/
def State.usedHalf (s : State) (h : Nat) : Bool := s.isSplit h || h % 2 == 0

/-- Interrupts delivered to a half that departs, and messages bound for it, return to Pending, those of fast slots too (R476, R477). -/
def State.departIrq (s : State) (h : Nat) : State :=
  let lost := (s.irq.outbox.filter fun m => m.half == h && !m.fast).map (·.source)
  let fix : Nat × Source → Nat × Source := fun (n, x) =>
    let mine := match x.target with | some (g, _) => g == h | none => false
    if (x.st == .active && mine) || lost.contains n then (n, { x with st := .pending, target := none, counted := false }) else (n, x)
  let fast := (s.irq.outbox.filter fun m => m.half == h && m.fast).foldl (fun l m => Assoc.put m.slot 1 l) s.irq.fast
  (s.withIrq { s.irq with sources := s.irq.sources.map fix, fast := fast,
                               outbox := s.irq.outbox.filter fun m => m.half != h,
                               cores := s.irq.cores.filter fun x => x.1 / 256 != h })

/-- A link goes down into a state: its objects except LINK_DOWNS and their fall-back copies return to zero (Table 10.2, R441), and one that was up departs
(R236). -/
def State.linkDown (s : State) (h : Nat) (st : LinkState) (keepObjects : Bool) : State :=
  let l := s.link h
  let s := if keepObjects then s else (List.range 10).foldl (fun s i =>
    (s.setObj (Obj.fecCorrections + h * 256 + i) 0).setFallback (Obj.fecCorrections + h * 256 + i) 0) s
  let fresh : Link := if keepObjects then
      { l with cmd := false, quiesced := false, outbox := [], kept := [], unsent := [], pause := (0, 0), mgtWait := [] }
    else { state := l.state, returns := l.returns, reason := if st = .failed then l.reason else 0 }
  let s := (s.setLink h fresh).setLinkState h st
  if l.state.linked then ((s.bump (Obj.linkDowns + h * 256)).depart h).departIrq h else s

/-- The link of a half is reset and returns to DETECT (R323). -/
def State.resetHalf (s : State) (h : Nat) : State :=
  let s := s.linkDown h (if s.usedHalf h then .detect else .disabled) false
  s.setLink h { s.link h with returns := 0 }

/-- A port's links are reset, under the arrangement that PORT_CONFIG names (R281, R323). -/
def State.resetPort (s : State) (p : Nat) : State :=
  let want := (s.obj (Obj.portConfig + p * 256)).getLsbD 0
  let bit : BitVec 16 := (1 : BitVec 16) <<< p
  let s := s.withPorts { s.ports with split := if want then s.ports.split ||| bit else s.ports.split &&& ~~~ bit }
  (s.resetHalf (2 * p)).resetHalf (2 * p + 1)

/-- A reset of one half's link, whatever its cause (R323): the whole port's where the arrangement is to change (R281). -/
def State.resetLink (s : State) (h : Nat) : State :=
  if (s.obj (Obj.portConfig + h / 2 * 256)).getLsbD 0 == s.isSplit h then s.resetHalf h else s.resetPort (h / 2)

/-- RETRAIN (R305, R309): the link's egress slots are suspended (R306). -/
def State.enterRetrain (s : State) (h : Nat) : State :=
  let l := s.link h
  match l.state with
  | .active | .quiescing => (s.setLink h { l with suspended := some (s.now * 64) }).setLinkState h .retrain
  | _ => s

/-- Halves of a port that have links (Table 7.17, LINK_COMMAND). -/
def State.portHalves (s : State) (p : Nat) : List Nat := if s.ports.split.toNat.testBit p then [2 * p, 2 * p + 1] else [2 * p]

/-- The own rule of LINK_COMMAND (R323, R326). DESIGN CHOICE (log entry 144): DISABLE takes a FAILED or INCOMPATIBLE link to DISABLED
too. -/
def State.ownLinkCommand (p v : Nat) (s : State) : Nat × State :=
  if (s.portHalves p).any fun h => (s.link h).cmd then (Ref.state, s)
  else
    let s := match v with
      | 1 => s.resetPort p
      | 2 => (s.portHalves p).foldl (fun s h =>
          match (s.link h).state with
          | .active | .quiescing | .retrain => let s := s.enterRetrain h; s.setLink h { s.link h with cmd := true }
          | _ => s) s
      | _ => (s.portHalves p).foldl (fun s h => s.linkDown h .disabled false) s
    (0, s)

/-- A LINK_COMMAND write. -/
def State.linkCommand (s : State) (lvl : Level) (p v : Nat) : State :=
  s.writeWith lvl (Obj.linkCommand + p * 256) v (State.ownLinkCommand p v)

/-! ### Training -/

/-- The aligned groups of four lanes that a half may use (R282). -/
def State.laneGroups (s : State) (h : Nat) : List Nat := if s.isSplit h then (if h % 2 = 0 then [0, 1] else [2, 3]) else [0, 1, 2, 3]

/-- Groups of four whose lanes all pass. -/
def passGroups (lanes : Nat) : List Nat := (List.range 4).filter fun g => (lanes >>> (4 * g)) % 16 == 15

/-- The width and the first lane that training chooses among the lanes that pass (R282). -/
def State.chooseWidth (s : State) (h lanes : Nat) : Option (Nat × Nat) :=
  let g := (passGroups lanes).filter (s.laneGroups h).contains
  if g.length = 4 then some (16, 0)
  else if g.contains 0 && g.contains 1 then some (8, 0)
  else if g.contains 2 && g.contains 3 then some (8, 8)
  else match g with
    | x :: _ => some (4, 4 * x)
    | [] => none

/-- RECEIVER_DETECT: TRAIN starts when every lane of an aligned group of four has a receiver (R287). -/
def State.receiverDetect (s : State) (h : Nat) (lanes : BitVec 16) : State :=
  let l := s.link h
  if l.state = .detect ∧ (s.chooseWidth h lanes.toNat).isSome then
    (s.setLink h { l with lanes := lanes, step := 1, run := 0, stepSent := 0, last := [] }).setLinkState h .train
  else s

/-- Byte `i` of a training block. -/
def blockByte (b : BitVec 128) (i : Nat) : Nat := (b.toNat >>> (8 * i)) % 256

/-- A training block passes its CHECK and SYNC (R288, R394). -/
def blockGood (b : BitVec 128) : Bool :=
  blockByte b 0 == 0xB5 && crc16 ((List.range 14).map (blockByte b)) == blockByte b 14 + 256 * blockByte b 15

/-- The link leaves training at a width and rate (R283, R290). -/
def State.trained (s : State) (h width rate : Nat) : State :=
  if width = 4 ∧ rate = 1 then s.setLinkState h .failed
  else
    let l := s.link h
    (s.setLink h { l with width := width, rate := rate, capab := none, capRun := 0, capSent := 0, step := 0 }).setLinkState h .capability

/-- TRAINING_BLOCK: one block on every lane is received and one sent (R288); `eq` are the lanes that have completed equalization
at 64 GT/s (R283). Training blocks once the link is up, or lane offers in CAPABILITY, where an agent may still end its sixth step, or
after the third step of TRAIN, are the agent's restart of training (R323; the third step, log entry 123). -/
def State.trainingBlock (s : State) (h : Nat) (blocks : List (BitVec 128)) (eq : BitVec 16) : State :=
  let l := s.link h
  let base := if s.isSplit h && h % 2 == 1 then 8 else 0
  let at_ : Nat → BitVec 128 := fun lane => blocks.getD (lane - base) 0
  let offers := (List.range 16).any fun lane =>
    decide (base ≤ lane) && l.lanes.getLsbD lane && blockGood (at_ lane) && blockByte (at_ lane) 1 == 1
  match l.state with
  | .active | .held | .quiescing => s.resetLink h
  | .capability => if offers then s.resetLink h else s
  | .train =>
    if offers && decide (3 ≤ l.step) then s.resetLink h
    else
    let s := s.sendTraining h l.step (s.isSplit h)
    let good := (List.range 16).foldl (fun m lane =>
      if base ≤ lane && l.lanes.getLsbD lane && blockGood (at_ lane) && blockByte (at_ lane) 1 == l.step then m + 2 ^ lane else m) 0
    match s.chooseWidth h good with
    | none => s.setLink h { l with run := 0, stepSent := l.stepSent + 1, last := [] }
    | some (w, lane0) =>
      let mine := (List.range w).map fun i => at_ (lane0 + i)
      let run := if l.last = mine then l.run + 1 else 1
      let sent := l.stepSent + 1
      if run < 8 ∨ sent < 16 then s.setLink h { l with run := run, stepSent := sent, last := mine }
      else if l.step < 6 then s.setLink h { l with step := l.step + 1, run := 0, stepSent := 0, last := [] }
      else
        let fast := (mine.all fun b => (blockByte b 4).testBit 1) && (List.range w).all fun i => eq.getLsbD (lane0 + i)
        s.trained h w (if fast then 2 else 1)
  | _ => s

/-- TRAINING_TIMEOUT: a limit of Table 7.3 has passed (R287, R309). -/
def State.trainingTimeout (s : State) (h : Nat) : State :=
  let l := s.link h
  let ended : Bool := match l.state with
    | .train => decide (l.begun + 1000000 < s.now)
    | .capability => decide (l.begun + 31250 < s.now)
    | _ => false
  if ended then
    let s := s.setLink h { l with returns := l.returns + 1 }
    if 3 ≤ l.returns + 1 then s.setLinkState h .failed else s.setLinkState h .detect
  else if l.state = .retrain ∧ l.begun + 125000 < s.now then s.linkDown h .failed true
  else s

/-- RETRAIN_DONE (R309): a link that has trained again within its limit takes up its egress slots (R306). -/
def State.retrainDone (s : State) (h : Nat) (ok : Bool) (width rate : Nat) : State :=
  let l := s.link h
  if l.state != .retrain then s
  else if !ok || decide (l.begun + 125000 < s.now) || !([16, 8].contains width || (width == 4 && rate == 2)) || !([1, 2].contains rate)
      || (width == 16 && s.isSplit h) then s.linkDown h .failed true
  else
    let s := s.setLink h { l with width := width, rate := rate, cmd := false, naks := 0, suspended := none }
    let s := s.suspendSlots h l (l.suspended.getD (s.now * 64)) (s.now * 64)
    (s.bump (Obj.retrains + h * 256)).setLinkState h .active

/-! ### Flits and capability -/

/-- Byte `i` of a flit before its FEC bytes (Table 7.7). -/
def flitByte (f : BitVec 2000) (i : Nat) : Nat := (f >>> (8 * i)).toNat % 256

/-- `n` bytes of a flit, little-endian. -/
def flitNum (f : BitVec 2000) (i n : Nat) : Nat := (f >>> (8 * i)).toNat % 2 ^ (8 * n)

/-- A flit is good: FEC leaves no uncorrectable codeword, and the CRC matches (R303). -/
def flitGood (fec : Fec) (f : BitVec 2000) : Bool :=
  fec != .uncorrectable && crc64 ((List.range 242).map (flitByte f)) == flitNum f 242 8

/-- Count a flit that FEC corrected. -/
def State.noteFec (s : State) (h : Nat) (fec : Fec) : State :=
  if fec = .corrected then s.bump (Obj.fecCorrections + h * 256) else s

/-- Revision of a REVMAP against the H2C's 0x07 (R291), as an index. -/
def revOf (revmap : Nat) : Option Nat := if revmap.testBit 2 then some 2 else if revmap.testBit 1 then some 1 else if revmap.testBit 0 then some 0 else none

/-- Revision a feature needs (Table 7.6), as an index. -/
def featRev : List Nat := [0, 0, 2, 2, 2, 0, 1, 1]

/-- Features in force (R291). -/
def featuresOf (featmap rev : Nat) : Nat :=
  (List.range 8).foldl (fun m b =>
    if featmap.testBit b && (b == 5 || ((0xDF : Nat).testBit b && featRev.getD b 0 ≤ rev)) then m + 2 ^ b else m) 0

/-- A half enters ACTIVE: its Tether queues are empty, its monitors Open and its detectors zero (R320). -/
def State.enterActive (s : State) (h : Nat) : State :=
  let mine : Nat → Bool := fun q => q / 512 == h
  let s := s.withPorts { s.ports with
      queues := s.ports.queues.filter fun x => !mine x.1,
      monitors := s.ports.monitors.filter fun x => !mine x.1,
      cleared := s.ports.cleared.filter fun x => !mine x.1 }
  (s.resetStreams h).setLinkState h .active

/-- A half enters ACTIVE, or HELD while it is not swept (R240, R320). -/
def State.linkUp (s : State) (h : Nat) : State :=
  if (s.obj Obj.departedMask).getLsbD h then s.setLinkState h .held else s.enterActive h

/-- Credits and sequence numbers begin afresh (R290, R310, R324). -/
def Link.withCredits (l : Link) (snp mgt : Nat) (split : Bool) : Link :=
  let l : Link := { l with snpCredit := snp, mgtCredit := mgt, reqCredit := if split then 1024 else 2048 }
  let l : Link := { l with datCredit := if split then 256 else 512, reqReturn := 0, datReturn := 0, mgtReturn := 0 }
  let l : Link := { l with committed := 0x3FF, held := [], nak := false, acked := 0x3FF, ackSent := 0x3FF }
  let l : Link := { l with outbox := [], kept := [], unsent := [], pause := (0, 0), mgtWait := [], suspended := none }
  { l with fseq := 0, naks := 0, nakSeq := none, carry := none, reqs := [], nakSeen := false }

/-- Complete the capability exchange on the payload last received (R290 to R292). -/
def State.capabilityDone (s : State) (h : Nat) (f : BitVec 2000) : State :=
  let l := s.link h
  let g : Nat → Nat → Nat := fun o n => flitNum f (2 + o) n
  let rev := revOf (g 0x04 1)
  let fm := g 0x08 4
  let feat := match rev with | some r => featuresOf fm r | none => fm &&& 0x20
  let snp := g 0x10 2
  let mgt := g 0x12 1
  let reason := if rev.isNone then 1
    else if l.width = 4 ∧ !feat.testBit 2 then 2
    else if s.isSplit h ∧ !fm.testBit 0 then 3
    else if snp < 32 ∨ mgt < 4 then 4
    else if g 0x05 1 ≠ 0 then 5
    else 0
  let split := s.isSplit h
  let code := match rev with | some 0 => 0x10 | some 1 => 0x11 | some _ => 0x20 | none => 0
  let l : Link := { l with revision := code, features := BitVec.ofNat 32 feat, ident := BitVec.ofNat 64 (g 0x20 8) }
  let l : Link := { l with cores := g 0x13 1, reason := reason, returns := 0, quiesced := false, depth := g 0x14 2 }
  let l : Link := l.withCredits snp mgt split
  let s := s.setLink h l
  if reason ≠ 0 then s.setLinkState h .incompatible else s.linkUp h

/-- CAPABILITY_FLIT (R290): each flit time one is received, one of the H2C's own is sent. -/
def State.capabilityFlit (s : State) (h : Nat) (fec : Fec) (f : BitVec 2000) : State :=
  let l := s.link h
  if l.state != .capability then s
  else
    let s := (s.sendCapability h (s.isSplit h)).noteFec h fec
    let l := s.link h
    let sent := l.capSent + 1
    let good := flitGood fec f && flitByte f 1 / 64 == 1 && flitNum f 2 4 == 0x434C434D
    let same := match l.capab with | some g => flitNum g 2 240 == flitNum f 2 240 | none => false
    let (run, last) := if 2 ≤ l.capRun then (l.capRun, l.capab)
      else if !good then (0, none)
      else if same then (l.capRun + 1, some f) else (1, some f)
    let s := s.setLink h { l with capSent := sent, capRun := run, capab := last }
    match last with
    | some g => if 2 ≤ run ∧ 16 ≤ sent then s.capabilityDone h g else s
    | none => s

/-! ### Replay -/

/-- A NAK from the agent names `ackseq` (R305): the flits up to it are acknowledged and the H2C resends those after it, or after
REPLAY_LIMIT consecutive ones retrains. -/
def State.nakReplay (s : State) (h : Nat) (ackseq : BitVec 10) : State :=
  let l := s.link h
  if !s.halfUp h then s
  else
    let l := l.ack ackseq
    let n := if l.nakSeq = some ackseq then l.naks + 1 else 1
    let s := (s.setLink h { l with naks := n, nakSeq := some ackseq }).bump (Obj.flitReplays + h * 256)
    let s := s.fixed 30 1
    if s.eff Obj.replayLimit ≤ n then
      (s.setLink h { s.link h with naks := 0, nakSeq := none }).enterRetrain h
    else s.resendFlits h

/-- ACK_WAIT_EXPIRY: a wait for acknowledgement longer than one stride retrains the link (R305). -/
def State.ackWaitExpiry (s : State) (h : Nat) : State :=
  match (s.link h).kept with
  | [] => s
  | (sent, _) :: _ => if sent + 1 < s.now then s.enterRetrain h else s

/-- LOSS_OF_SIGNAL on a link's lanes (R287, R323). -/
def State.lossOfSignal (s : State) (h ns : Nat) : State :=
  match (s.link h).state with
  | .failed | .incompatible | .disabled => if 1000000 ≤ ns && s.usedHalf h then s.resetLink h else s
  | _ => if 1000 ≤ ns then s.resetLink h else s

/-! ### Planned removal -/

/-- Send an MGT message to an agent against an MGT credit; it waits where the H2C holds none (R310). -/
def State.sendMgt (s : State) (h op payload : Nat) : State :=
  let l := s.link h
  if !s.halfUp h then s
  else if l.mgtCredit = 0 then s.setLink h { l with mgtWait := l.mgtWait ++ [(op, payload)] }
  else
    (s.setLink h { l with mgtCredit := l.mgtCredit - 1 }).toHalf h (s.now * 64) (.mgt h (BitVec.ofNat 6 op) (BitVec.ofNat 42 payload))

/-- MGT messages that waited for a credit are sent (R310). -/
def State.mgtGo (s : State) (h : Nat) : State :=
  let l := s.link h
  let n := min l.mgtCredit l.mgtWait.length
  (l.mgtWait.take n).foldl (fun s x => s.sendMgt h x.1 x.2) (s.setLink h { l with mgtWait := l.mgtWait.drop n })

/-- QUIESCE_REQ (R321, R322); discarded where QUIESCE is not in force (R301). -/
def State.quiesceReq (s : State) (h : Nat) : State :=
  let l := s.link h
  if !s.halfUp h then s
  else
    let s := s.setLink h { l with mgtReturn := l.mgtReturn + 1 }
    if !l.features.getLsbD 3 then s.bump (Obj.mgtDiscards + h * 256)
    else if s.modes.mode = .contained then s.sendMgt h 2 2
    else if l.state = .active then (s.setLink h { s.link h with quiesced := false, quiesceFrom := s.home.nextId }).setLinkState h .quiescing
    else s

/-- Nothing of a snoop is outstanding: its answer is retired, and a FwdData that the answer speaks of has passed. -/
def Snp.over (x : Snp) : Bool :=
  x.retired && match x.answer with
    | some .fwdI | some .fwdS | some .fwdCur | some (.sWb _ _) => x.passed
    | _ => true

/-- Nothing of a half is outstanding (R321): no queued request, no transaction as requester, no snoop or FwdData. -/
def State.halfQuiet (s : State) (h : Nat) : Bool :=
  s.ports.queues.all (fun x => x.1 / 512 != h || x.2.isEmpty)
    && s.home.txns.all (fun t => t.half != some h && t.snoops.all fun x => x.half != h || x.over)
    && s.ports.barriers.all (fun x => x.1 / 512 != h)
    && s.ports.resend.all (fun f => f.half != h)

/-- QUIESCE_COMPLETE (R321). -/
def State.quiesceComplete (s : State) (h : Nat) : State :=
  let l := s.link h
  if l.state == .quiescing && !l.quiesced && s.halfQuiet h then (s.setLink h { l with quiesced := true }).sendMgt h 2 0 else s

/-- QUIESCE_TIMEOUT (R322). -/
def State.quiesceTimeout (s : State) (h : Nat) : State :=
  let l := s.link h
  if l.state == .quiescing && decide (l.begun + s.eff Obj.quiesceTimeout < s.now) then
    (s.sendMgt h 2 1).setLinkState h .active
  else s

/-! ### Timeouts (R230 to R233) -/

/-- An agent whose answer timed out departs through a forced link reset (R233). -/
def State.forceDepart (s : State) (h : Nat) : State := if (s.link h).state.linked then s.resetLink h else s

/-- SNOOP_TIMEOUT (R230). -/
def State.snoopTimeout (s : State) (htid : BitVec 13) (h : Nat) : State :=
  match s.byHtid htid with
  | none => s
  | some t =>
    if t.snoops.any fun x => x.half == h && x.answer.isNone && !x.retired
        && decide (x.at_ + s.eff Obj.snoopTimeout ≤ s.now) then
      (s.timeoutSnoop t.id h 3 (s.now * 64)).forceDepart h
    else s

/-- CROSSING_TIMEOUT (R218). -/
def State.crossingTimeout (s : State) (htid : BitVec 13) (h : Nat) : State :=
  match s.byHtid htid with
  | none => s
  | some t =>
    let due : Snp → Bool := fun x => x.half == h && !x.retired && x.joined.isNone &&
      (match x.crossedAt with | some a => decide (a + s.eff Obj.crossingTimeout ≤ s.now) | none => false)
    if t.snoops.any due then (s.timeoutSnoop t.id h 3 (s.now * 64)).forceDepart h else s

/-- COMPACK_TIMEOUT (R230): the transaction ends as though CompAck had arrived; the requester does not depart (R233). -/
def State.compAckTimeout (s : State) (htid : BitVec 13) : State :=
  match s.byHtid htid with
  | none => s
  | some t =>
    match t.ackAt with
    | some a =>
      if t.needAck && !t.acked && decide (a + s.eff Obj.compackTimeout ≤ s.now) then
        let s := s.bump Obj.compackTimeouts
        let s := s.raise 0xC2 [w64 (t.line * 128), w64 t.htid.toNat, w64 (t.half.getD 0), w64 6]
        (s.updTxn t.id fun t => { t with acked := true, ackRetired := true }).tryEnd t.id (s.now * 64)
      else s
    | none => s

/-! ### The departure sweep (R239) -/

/-- A slice has swept a set: bits whose sweep has ended in every slice clear, and HELD halves go ACTIVE (R239, R320). -/
def State.sweptSet (s : State) (sl : Nat) : State :=
  let next := Assoc.getD s.home.sweepNext sl 0
  let left := s.home.sweepLeft.filterMap fun (x : Nat × Nat) =>
    if x.1 % 16 = sl then (if x.2 ≤ 1 then none else some (x.1, x.2 - 1)) else some x
  let before := s.obj Obj.departedMask
  let ended := (setBits before.toNat 32).filter fun h => !(left.any fun x => x.1 / 16 == h)
  let mask := ended.foldl (fun (m : Reg) h => m &&& ~~~ ((1 : Reg) <<< h)) before
  let s := s.withHome { s.home with sweepNext := Assoc.put sl ((next + 1) % 16384) s.home.sweepNext, sweepLeft := left }
  let s := (s.setObj Obj.departedMask mask).setNat Obj.sweepProgress s.sweepProgress
  let s := if before ≠ 0 ∧ mask = 0 then (s.setNat Obj.sweepStatus 0).raise 0xC6 [before] else s
  ended.foldl (fun s h => if (s.link h).state = .held then s.enterActive h else s) s

/-- One entry that holds a departed half's bit is handled under R238, as a home transaction on its line: false where it waits on the
line's wait list (Table 5.1), which it leaves where the entry has lost the bit meanwhile. -/
def State.sweepEntry (s : State) (dset w c : Nat) : Bool × State :=
  match s.dirEnt dset w with
  | none => (true, s)
  | some e =>
    let dep : BitVec 32 := (s.obj Obj.departedMask).setWidth 32
    let line := laOfD dset e.dtag / 128
    if e.sharers &&& dep = 0 then (true, s.dropJobsOf .sweep (· == line))
    else
      match s.jobTurn .sweep (dset / 16384) line with
      | (false, s) => (false, s)
      | (true, s) =>
        let t : Txn := { id := 0, slice := dset / 16384, tracker := none, half := none,
                         req := { opcode := 0, stream := 0, tag := 0 }, line := line, phase := .active,
                         record := some (e.st, e.fholder, e.sharers), dirWay := some w }
        (true, ((s.clearLine line Rsv.maint).writeEntry t c true).jobDone .sweep line)

/-- DEPARTURE_SWEEP_SET: a slice sweeps one directory set in a Maintenance slot of its row (R82); it stays at a set one of whose
entries waits for its line (R239), and leaves the wait list of a line whose entry has gone. -/
def State.departureSweep (s : State) (sl cyc : Nat) : State :=
  if (s.obj Obj.sweepStatus).toNat = 0 then s
  else
    match s.takeSlot 0 sl cyc Cls.mt 2 with
    | none => s
    | some s =>
      let dset := sl * 16384 + Assoc.getD s.home.sweepNext sl 0
      let here : Nat → Bool := fun l => (List.range 16).any fun w => match s.dirEnt dset w with
        | some e => laOfD dset e.dtag / 128 == l
        | none => false
      let s := s.dropJobsOf .sweep fun l => dsetOf (l * 128) == dset && !here l
      let (ok, s) := (List.range 16).foldl (fun (acc : Bool × State) w =>
        let (ok, s) := acc.2.sweepEntry dset w (s.now * 64 + cyc)
        (acc.1 && ok, s)) (true, s)
      if ok then (s.dropJobsOf .sweep fun l => sliceOf (l * 128) == sl).sweptSet sl else s

/-! ### Meanings -/

/-- RECEIVER_DETECT (R287). -/
def execReceiverDetect (half : Fin 32) (lanes : BitVec 16) (s : State) : Host.Outcome State Fault Refusal :=
  .next (s.receiverDetect half.val lanes)

/-- TRAINING_BLOCK (R288). -/
def execTrainingBlock (half : Fin 32) (blocks : List (BitVec 128)) (eq : BitVec 16) (s : State) :
    Host.Outcome State Fault Refusal := .next (s.trainingBlock half.val blocks eq)

/-- TRAINING_TIMEOUT (R287). -/
def execTrainingTimeout (half : Fin 32) (s : State) : Host.Outcome State Fault Refusal := .next (s.trainingTimeout half.val)

/-- CAPABILITY_FLIT (R290). -/
def execCapabilityFlit (half : Fin 32) (fec : Fec) (flit : BitVec 2000) (s : State) : Host.Outcome State Fault Refusal :=
  .next (s.capabilityFlit half.val fec flit)

/-- NAK_REPLAY (R305). -/
def execNakReplay (half : Fin 32) (ackseq : BitVec 10) (s : State) : Host.Outcome State Fault Refusal :=
  .next (s.nakReplay half.val ackseq)

/-- ACK_WAIT_EXPIRY (R305). -/
def execAckWaitExpiry (half : Fin 32) (s : State) : Host.Outcome State Fault Refusal := .next (s.ackWaitExpiry half.val)

/-- RETRAIN_DONE (R309). -/
def execRetrainDone (half : Fin 32) (ok : Bool) (width rate : BitVec 8) (s : State) : Host.Outcome State Fault Refusal :=
  .next (s.retrainDone half.val ok width.toNat rate.toNat)

/-- LINK_RESET (R323). -/
def execLinkReset (lvl : Level) (port : Fin 16) (s : State) : Host.Outcome State Fault Refusal :=
  .next (s.linkCommand lvl port.val 1)

/-- LINK_RETRAIN (R323). -/
def execLinkRetrain (lvl : Level) (port : Fin 16) (s : State) : Host.Outcome State Fault Refusal :=
  .next (s.linkCommand lvl port.val 2)

/-- LINK_DISABLE (R323). -/
def execLinkDisable (lvl : Level) (port : Fin 16) (s : State) : Host.Outcome State Fault Refusal :=
  .next (s.linkCommand lvl port.val 3)

/-- LOSS_OF_SIGNAL (R323). -/
def execLossOfSignal (half : Fin 32) (ns : Nat) (s : State) : Host.Outcome State Fault Refusal :=
  .next (s.lossOfSignal half.val ns)

/-- QUIESCE_REQ (R321). -/
def execQuiesceReq (half : Fin 32) (s : State) : Host.Outcome State Fault Refusal := .next (s.quiesceReq half.val)

/-- QUIESCE_COMPLETE (R321). -/
def execQuiesceComplete (half : Fin 32) (s : State) : Host.Outcome State Fault Refusal := .next (s.quiesceComplete half.val)

/-- QUIESCE_TIMEOUT (R322). -/
def execQuiesceTimeout (half : Fin 32) (s : State) : Host.Outcome State Fault Refusal := .next (s.quiesceTimeout half.val)

/-- SNOOP_TIMEOUT (R230). -/
def execSnoopTimeout (htid : BitVec 13) (half : Fin 32) (s : State) : Host.Outcome State Fault Refusal :=
  .next (s.snoopTimeout htid half.val)

/-- CROSSING_TIMEOUT (R218). -/
def execCrossingTimeout (htid : BitVec 13) (half : Fin 32) (s : State) : Host.Outcome State Fault Refusal :=
  .next (s.crossingTimeout htid half.val)

/-- COMPACK_TIMEOUT (R230). -/
def execCompAckTimeout (htid : BitVec 13) (s : State) : Host.Outcome State Fault Refusal := .next (s.compAckTimeout htid)

/-- DEPARTURE_SWEEP_SET (R239). -/
def execDepartureSweepSet (slice : Fin 16) (cyc : Fin 64) (s : State) : Host.Outcome State Fault Refusal :=
  .next (s.departureSweep slice.val cyc.val)

end Sys2Proof.Machine
end

