-- ==== Sys2Proof/Machine/Memory.lean ====
section
/-!
DEFINITION. The stores outside the die (08): the DDR5 population (R327 to R330), refresh (R78, R79, R339, R340, R348),
the issue of posted writes and Hull entries (R135, R341 to R343), the drain of a Husk port (R350 to R355) and the keys
(R356 to R361).
-/
namespace Sys2Proof.Machine

/-! ### Population -/

/-- The speed at which a population trains (Table 8.1, R330): the highest one listed that is not above the limit, none
where the table lists none. -/
def popSpeed (ty dpc ranks density limit : Nat) : Option Nat :=
  if density ≠ 1 ∧ density ≠ 2 then none
  else
    let listed := if ty = 1 ∧ dpc = 1 ∧ (ranks = 1 ∨ ranks = 2) then [2, 1]
      else if ty = 1 ∧ dpc = 2 ∧ (ranks = 1 ∨ ranks = 2) then [1]
      else if ty = 2 ∧ dpc = 1 ∧ ranks = 2 then [3]
      else []
    listed.find? fun v => decide (v ≤ limit)

/-- The speed of the population written. -/
def State.popSpeed (s : State) : Option Nat :=
  let n := fun k => (s.obj k).toNat
  Sys2Proof.Machine.popSpeed (n Obj.memDimmType) (n Obj.memDpc) (n Obj.memRanks) (n Obj.memDensity) (n Obj.memSpeedMax)

/-- Set CHAN_STATE of every channel. -/
def State.setChans (s : State) (v : Nat) : State :=
  (List.range 12).foldl (fun s c => s.setNat (Obj.chanState + c * 256) v) s

/-- Step `n` of Bring-up is complete (R413). -/
def State.stepDone (s : State) (n : Nat) : Bool := s.modes.steps.toNat.testBit n

/-- The stride timer runs: FCLK has locked (Table 10.3) and VDD is up. -/
def State.timerRuns (s : State) : Bool :=
  match s.modes.mode with
  | .off | .keep | .reset => false
  | .bringup => s.stepDone 1
  | _ => true

/-- Mark step `n` of Bring-up complete. -/
def State.setStep (s : State) (n : Nat) : State :=
  s.withModes { s.modes with steps := s.modes.steps ||| ((1 : BitVec 16) <<< n) }

/-- Step 6: once MEM_CONFIG_VALID is set and step 2 is complete, memory training starts with the population written, or the
mismatch is reported (R329, R330, Table 10.3). -/
def State.memConfig (s : State) : State :=
  if s.modes.mode ≠ .bringup ∨ !s.stepDone 2 ∨ s.stepDone 7 then s
  else if s.obj Obj.memConfigValid = 0 then
    (s.withModes { s.modes with steps := s.modes.steps &&& ~~~ ((1 : BitVec 16) <<< 6) }).setChans 0
  else (s.setStep 6).setChans (if s.popSpeed.isSome then 1 else 4)

/-- Own rule of the population objects (R329). -/
def State.ownPopulation (k v : Nat) (s : State) : Nat × State :=
  if s.modes.mode ≠ .bringup then (Ref.state, s)
  else
    let s := s.store k v
    (0, if k = Obj.memConfigValid then s.memConfig else s)

/-! ### Refresh -/

/-- Write the refresh state of a rank or port. -/
def State.setRefresh (s : State) (k : Nat) (r : Refresh) : State :=
  s.withMem { s.mem with refresh := Assoc.putD s.mem.refresh k {} r }

/-- Ranks per channel fitted. -/
def State.ranks (s : State) : Nat := s.eff Obj.memDpc * s.eff Obj.memRanks

/-- A refresh is fixed on a row (kind 3 row 2·channel, or kind 2) for the slot that begins in cycle `c`. -/
def State.rowPlanned (s : State) (kind row c : Nat) : Bool :=
  let keys := if kind = 3 then (List.range 4).map (· + row / 2 * 4) else [64 + row]
  keys.any fun k => (s.refresh k).plan.any fun p => p.1 == c

/-- The slot is a Refresh slot of the gait that governs its stride. -/
def State.refreshSlot (s : State) (kind row t k : Nat) : Bool :=
  match s.gaitAt t with
  | some g => (g.entry kind row k).cls == Cls.rf
  | none => false

/-- The first cycle of the next Refresh slot of a row at least 5 strides ahead that no refresh has (R79, R339). -/
def State.refreshCycle (s : State) (kind row : Nat) : Option Nat :=
  ((List.range 64).map (· + s.now + 5)).findSome? fun t =>
    ((List.range (slotsOf kind)).find? fun k =>
      s.refreshSlot kind row t k && !s.rowPlanned kind row (t * 64 + slotCycle kind k)).map fun k => t * 64 + slotCycle kind k

/-- Refreshes of a rank or port that still hold their banks: tRFCsb on a rank, tRFCpb on a Husk port (R339, R348). -/
def State.stillBusy (s : State) (k : Nat) : List (Nat × Nat) :=
  (s.refresh k).busy.filter fun p => decide (s.now * 64 < p.1 + (if k < 64 then Config.tRfcSb else Config.tRfcPb))

/-- Accrue a stride of refresh and fix the refresh that has come due (R339, R340, R348): `per` commands per 3.9 µs at the
normal rate, twice as many where `twice` says so, over `banks` bank indices. -/
def State.planOne (s : State) (k kind row per banks : Nat) (twice : Bool) : State :=
  let r := s.refresh k
  let r := { r with credit := r.credit + per * 32 * (if twice then 2 else 1), busy := s.stillBusy k }
  match if 3900 ≤ r.credit then s.refreshCycle kind row else none with
  | none => s.setRefresh k r
  | some c => s.setRefresh k { r with credit := r.credit - 3900, nextBank := (r.nextBank + 1) % banks,
                                      plan := r.plan ++ [(c, r.nextBank)] }

/-- A data port refreshes at twice the rate where its own device or that of its check port is above 85 °C: the check port
has no refresh but in the slots of its data ports (R348, log entry 150). -/
def State.portTwice (s : State) (j : Nat) : Bool := (s.refresh (64 + j)).hot || (s.refresh (64 + checkPort j)).hot

/-- The refreshes that a stride's planning has fixed for a data port: those that begin five strides ahead or later. -/
def State.fixedAhead (s : State) (j : Nat) : List Nat :=
  ((s.refresh (64 + j)).plan.map (·.1)).filter fun c => decide ((s.now + 5) * 64 ≤ c)

/-- A check port refreshes in the same slots as its data ports, its own bank indices in turn (R348, log entry 150). -/
def State.planCheck (s : State) (p : Nat) : State :=
  let cs := ((List.range 16).filter fun j => checkPort j == p && s.portInService j).flatMap s.fixedAhead
  let s := s.setRefresh (64 + p) { s.refresh (64 + p) with busy := s.stillBusy (64 + p) }
  cs.foldl (fun s c =>
    let r := s.refresh (64 + p)
    if r.plan.any fun x => x.1 == c then s
    else s.setRefresh (64 + p) { r with nextBank := (r.nextBank + 1) % 16, plan := r.plan ++ [(c, r.nextBank)] }) s

/-- REFRESH_PLAN, at a stride boundary (R339): every channel and Husk port in service. -/
def State.refreshPlan (s : State) : State :=
  if s.mem.selfRefresh then s
  else
    let s := (List.range 12).foldl (fun s ch =>
      if s.obj (Obj.chanState + ch * 256) ≠ 2 then s
      else (List.range s.ranks).foldl (fun s r => s.planOne (ch * 4 + r) 3 (2 * ch) 4 4 (s.refresh (ch * 4 + r)).hot) s) s
    let s := (List.range 16).foldl (fun s j =>
      if s.portInService j then s.planOne (64 + j) 2 j 16 16 (s.portTwice j) else s) s
    [16, 17].foldl (fun s p => if s.portInService p then s.planCheck p else s) s

/-- The rates that temperatures ask for come into force at the boundary (R340): CHAN_HOT tells of a rank at the doubled
rate. -/
def State.applyHot (s : State) : State :=
  (List.range 12).foldl (fun s ch =>
    let hot := fun r => Assoc.getD s.mem.hotRanks (ch * 4 + r) false
    let s := (List.range 4).foldl (fun s r =>
      let x := s.refresh (ch * 4 + r)
      if x.hot = hot r then s else s.setRefresh (ch * 4 + r) { x with hot := hot r }) s
    s.setNat (Obj.chanHot + ch * 256) (if (List.range 4).any hot then 1 else 0)) s

/-- MR4_TEMPERATURE_REPORT: what mode register 4 of a rank's devices shows (R340). -/
def State.mr4 (s : State) (ch rank : Nat) (hot : Bool) : State :=
  s.withMem { s.mem with hotRanks := Assoc.putD s.mem.hotRanks (ch * 4 + rank) false hot }

/-- Issue the oldest refresh of a plan that is due in cycle `c`: answers its bank index. -/
def State.issuePlanned (s : State) (k c : Nat) : Option (Nat × State) :=
  let r := s.refresh k
  match r.plan.find? fun p => decide (p.1 ≤ c) with
  | none => none
  | some p => some (p.2, s.setRefresh k { r with plan := dropFirst (fun q => q == p) r.plan, busy := r.busy ++ [(c, p.2)] })

/-- A Refresh slot of this stride is taken by a refresh on the rows listed (R79). -/
def State.takeRefresh (s : State) (kind : Nat) (rows : List Nat) (slot : Nat) : State :=
  rows.foldl (fun s r =>
    (s.book { kind := kind, row := r, stride := s.now, slot := slot, work := 0, purpose := Leg.buffer }).useAt kind r s.now slot
      Cls.rf) s

/-- DDR5_REFRESH_ISSUE: a Refresh slot issues the refresh fixed for it, or one that an earlier slot could not, which closes the
rows of its banks (R78, R79, R338, R340). With none due it passes down its spill chain (State.slotServes). -/
def State.ddr5Refresh (s : State) (ch slot : Nat) : State :=
  let c := s.now * 64 + 4 * slot
  if !s.refreshSlot 3 (2 * ch) s.now slot || s.mem.selfRefresh || s.booked 3 (2 * ch) s.now slot then s
  else
    match (List.range 4).findSome? fun r => (s.issuePlanned (ch * 4 + r) c).map fun x => (r, x) with
    | none => s
    | some (r, bank, s) => ((s.rowUse c ch (.refresh r bank)).takeRefresh 3 [2 * ch, 2 * ch + 1] slot).countU 0x704 ch 1

/-- HUSK_REFRESH_ISSUE (R78, R79, R348). -/
def State.huskRefresh (s : State) (port slot : Nat) : State :=
  if !s.refreshSlot 2 port s.now slot || s.mem.selfRefresh || s.booked 2 port s.now slot then s
  else
    match s.issuePlanned (64 + port) (s.now * 64 + 2 * slot) with
    | none => s
    | some (_, s) => (s.takeRefresh 2 [port] slot).countU 0x803 port 1

/-! ### Posted writes -/

/-- Home work of a class that writes to a line of the channel. -/
def State.writeWant (s : State) (ch cls line : Nat) : Want :=
  { kind := 3, row := 2 * ch, cls := cls, arrive := 0, dram := some (s.dram (line * 128)) }

/-- Slot `slot` of the channel serves a write of a class to a line, on both subchannels: by its entry, or by spill where no class
before it has eligible work (R51, R342, R343). -/
def State.writeSlot (s : State) (ch slot cls line : Nat) : Bool :=
  !s.mem.selfRefresh && s.obj (Obj.chanState + ch * 256) == 2 && s.slotServes (s.writeWant ch cls line) s.now slot
    && !s.booked 3 (2 * ch + 1) s.now slot

/-- A line is issued to the DRAM in a slot, encrypted under its KEYID's key in force (R135, R342, R356). -/
def State.issueWrite (s : State) (ch slot cls : Nat) (e : Pwb) : State :=
  let s := s.takeRows (s.writeWant ch cls e.line) [2 * ch, 2 * ch + 1] s.now slot
  let s := (s.dramWrite e.line e.keyid.toNat e.data e.poison).touchRow e.line (s.now * 64 + 4 * slot) false
  let s := (s.fixed 14 1).countU 0x701 ch 1
  let l := Assoc.getD s.mem.shadow ch [] ++ [(s.now, e)]
  (s.withMem { s.mem with shadow := Assoc.put ch (l.drop (l.length - 16)) s.mem.shadow })

/-- Free a posted write buffer entry. -/
def State.freePwb (s : State) (ch id : Nat) : State :=
  s.withMem { s.mem with pwb := Assoc.putD s.mem.pwb ch [] ((s.pwb ch).filter fun e => e.id != id) }

/-- PWB_DEMAND_WRITE_ISSUE (R342). -/
def State.demandIssue (s : State) (ch slot : Nat) : State :=
  match s.demandReady ch slot with
  | none => s
  | some e => if s.writeSlot ch slot Cls.dw e.line then (s.freePwb ch e.id).issueWrite ch slot Cls.dw e else s

/-- Issue an eviction-class entry where the slot serves it (R342). -/
def State.issueEviction (s : State) (ch slot : Nat) (e : Pwb) : State :=
  if s.writeSlot ch slot Cls.wb e.line then (s.freePwb ch e.id).issueWrite ch slot Cls.wb e else s

/-- Issue a Hull entry where the slot serves it (R135). -/
def State.issueHull (s : State) (ch slot : Nat) (e : Hull) : State :=
  if !s.writeSlot ch slot Cls.wb e.line then s else
  let x : Pwb := { line := e.line, keyid := e.keyid, data := e.data.getD 0, poison := e.poison, demand := false, reserved := false,
                   id := e.id }
  (s.withTiers { s.tiers with hull := s.tiers.hull.filter fun y => y.id != e.id }).issueWrite ch slot Cls.wb x

/-- PWB_WRITEBACK_ISSUE: the oldest of the eviction-class entries and the Hull entries (R135, R342). -/
def State.writebackIssue (s : State) (ch slot : Nat) : State :=
  match s.evictionReady ch slot, s.hullReady ch slot with
  | none, none => s
  | some e, none => s.issueEviction ch slot e
  | none, some h => s.issueHull ch slot h
  | some e, some h => if e.id < h.id then s.issueEviction ch slot e else s.issueHull ch slot h

/-- HULL_WRITEBACK: a Hull entry that is the oldest work of a Writeback slot of its channel is written to DRAM (R135, R342). -/
def State.hullWriteback (s : State) (ch slot : Nat) : State :=
  match s.evictionReady ch slot, s.hullReady ch slot with
  | some e, some h => if h.id < e.id then s.issueHull ch slot h else s
  | none, some h => s.issueHull ch slot h
  | _, none => s

/-- UNRESERVED_PLACEMENT_RETRY: waiting placements try again at a boundary, oldest first (R341); a request that waits for one
goes on once it has entered (R248). -/
def State.placementRetry (s : State) : State :=
  (s.tiers.staging.filter fun e => e.kind == .placement).foldl (fun s e =>
    if s.pwbUnreserved (chanOf (e.line * 128)) < 256 then
      let s := (s.dropStaged e.id).enterPwb e.line e.keyid.toNat (e.data.getD 0) (e.st == .poisoned) false false false
      s.resumeHeld e.line (s.now * 64)
    else s) s

/-- A stride boundary passes over the open rows (R338). -/
def State.ageRows (s : State) : State :=
  s.withMem { s.mem with openRows := s.mem.openRows.map fun (x : Nat × Nat × Nat) => (x.1, x.2.1, x.2.2 + 1) }

/-- ROW_IDLE_CLOSE: rows that ROW_IDLE_CLOSE boundaries have passed without an access close; the precharges count for the slots
booked from here on (R337, R338), from the boundary's cycle on (log entry 118). -/
def State.rowIdleClose (s : State) : State :=
  let idle := s.mem.openRows.filter fun x => decide (s.eff Obj.rowIdleClose ≤ x.2.2)
  let pre := idle.map fun x => (x.1 / 128, s.now * 64, x.1 % 128)
  let open_ := s.mem.openRows.filter fun x => decide (x.2.2 < s.eff Obj.rowIdleClose)
  s.withMem { s.mem with openRows := open_, precharges := s.mem.precharges ++ pre }

/-! ### Draining a Husk port -/

/-- The ports that a drain of port `j` takes (R351). -/
def drainPorts (j : Nat) : List Nat :=
  if j = 16 then 16 :: List.range 8 else if j = 17 then 17 :: (List.range 8).map (· + 8) else [j]

/-- Set HUSK_PORT_STATE of a list of ports. -/
def State.setPorts (s : State) (l : List Nat) (v : Nat) : State := l.foldl (fun s j => s.setNat (Obj.huskPortState + j) v) s

/-- Set DRAIN_STATUS, with its event (Table 12.1, 0x0B6). -/
def State.setDrainStatus (s : State) (v : Nat) : State :=
  if (s.obj Obj.drainStatus).toNat = v then s
  else (s.setNat Obj.drainStatus v).raise 0xB6 [s.obj Obj.drainPort, w64 v]

/-- START (R351): the port that DRAIN_PORT names. -/
def State.ownDrainStart (s : State) : Nat × State :=
  let j := s.eff Obj.drainPort
  let modeOk := s.modes.mode == .normal || s.modes.mode == .partitioned || s.modes.mode == .degraded
  if s.mem.drain.isSome || !modeOk || !s.portInService j || (decide (j < 16) && decide (2 ≤ s.portsOut)) then
    (Ref.state, s.setDrainStatus 5)
  else
    let s := s.withMem { s.mem with drain := some { port := j } }
    (0, (s.setNat Obj.drainProgress 0).setDrainStatus 1)

/-- ABORT (R354). -/
def State.ownDrainAbort (s : State) : Nat × State :=
  match s.mem.drain with
  | some d =>
    if d.begun.isSome then (Ref.state, s) else (0, s.withMem { s.mem with drain := some { d with abort := true } })
  | none => (Ref.state, s)

/-- DRAIN_COMMAND by its code. -/
def State.ownDrainCommand (v : Nat) (s : State) : Nat × State := if v % 256 = 1 then s.ownDrainStart else s.ownDrainAbort

/-- End a drain that has not reached DRAINED, its ports back in service, with status ABORTED (R354, R355). -/
def State.abortDrain (s : State) : State :=
  match s.mem.drain with
  | none => s
  | some d =>
    let s := s.setPorts ((drainPorts d.port).filter fun j => s.portState j == 3 || s.portState j == 4) 2
    (s.withMem { s.mem with drain := none }).setDrainStatus 4

/-- What a stride boundary does for a drain: an ABORT takes effect, and the ports of a start are FLUSHING (R352, R354); not in
Rest (R403). -/
def State.drainBoundary (s : State) : State :=
  match s.mem.drain with
  | none => s
  | some d =>
    if s.modes.mode = .rest then s
    else if d.abort then s.abortDrain
    else s.setPorts ((drainPorts d.port).filter fun j => d.begun.isNone && s.portState j == 2) 3

/-- A line of a Husk sector is blocked by a transaction. -/
def State.sectorBlocked (s : State) (hset : Nat) (x : Sector) : Bool :=
  s.home.txns.any fun t => (t.phase == .active || t.phase == .reserved)
    && hsetOf (t.line * 128) == hset && htagOf (t.line * 128) == x.tag

/-- The first line of a Husk sector that a request's transaction blocks. -/
def State.blockedLine (s : State) (hset : Nat) (x : Sector) : Option Nat :=
  (s.home.txns.find? fun t => (t.phase == .active || t.phase == .reserved) && t.job.isNone
    && hsetOf (t.line * 128) == hset && htagOf (t.line * 128) == x.tag).map (·.line)

/-- Work on one way of a set that a flush empties (R352): the sector becomes SV = 0, or its replacement-like emptying
starts; the second part counts the lines that it moves. -/
def State.flushWay (s : State) (hset w : Nat) : State × Nat :=
  match s.sector hset w with
  | none => (s, 0)
  | some x =>
    if s.sectorBlocked hset x || s.held hset w || s.replacing hset then (s, 0)
    else if x.dcnt = 0 then (s.setSector hset w none, 0)
    else if s.tiers.hull.length + x.dcnt ≤ 4096 then (s.startRepl hset w x none false, x.dcnt)
    else (s, 0)

/-- DRAIN_FRAME: the slice handles its next frame in a Maintenance slot of its row (R82, R352). -/
def State.drainFrame (s : State) (sl cyc : Nat) : State :=
  match s.mem.drain with
  | none => s
  | some d =>
    let i := Assoc.getD d.next sl 0
    if d.abort || d.begun.isSome || !s.modes.mode.service || s.portState d.port != 3 || decide (32768 ≤ i) then s
    else
      match s.takeSlot 0 sl cyc Cls.mt 2 with
      | none => s
      | some s =>
      let hset := sl * 32768 + i
      let ways := ((drainPorts d.port).filter (· < 16)).map (wayOnPort hset)
      let (s, moved) := ways.foldl (fun (x : State × Nat) w => let (s, n) := x.1.flushWay hset w; (s, x.2 + n)) (s, 0)
      let s := s.bumpN Obj.drainLinesMoved moved
      if ways.all fun w => (s.sector hset w).isNone then
        let s := s.setNat Obj.drainProgress ((s.obj Obj.drainProgress).toNat + 1)
        (s.withMem { s.mem with drain := some { d with next := Assoc.put sl (i + 1) d.next } })
      else s

/-- HUSK_REF_NEED (R348). -/
def State.huskNeed (s : State) : State := s.setNat Obj.huskRefNeed (if s.servicePorts.isEmpty then 0 else 269)

/-- DRAINING_ENTRY: at the boundary after the last frame the ways are excluded (R143, R352). -/
def State.drainingEntry (s : State) : State :=
  match s.mem.drain with
  | none => s
  | some d =>
    if d.begun.isNone && !d.abort && s.modes.mode.service
        && (List.range 16).all fun sl => Assoc.getD d.next sl 0 == 32768 then
      let s := (s.setPorts ((drainPorts d.port).filter fun j => s.portState j == 3) 4).huskNeed
      (s.withMem { s.mem with drain := some { d with begun := some s.now } }).setDrainStatus 2
    else s

/-! ### Keys -/

/-- KEY_INDEX takes effect on acceptance (R358). -/
def State.ownKeyIndex (v : Nat) (s : State) : Nat × State := (0, s.store Obj.keyIndex v)

/-- KEY_MATERIAL: eight bytes appended (R359). -/
def State.ownKeyMaterial (v : Reg) (s : State) : Nat × State :=
  if 8 ≤ s.mem.material.length then (Ref.length, s)
  else (0, s.withMem { s.mem with material := s.mem.material ++ [v] })

/-- Set KEY_STATUS; DONE and REFUSED are events (Table 12.1, 0x0B7). -/
def State.setKeyStatus (s : State) (k v : Nat) : State :=
  let s := s.setNat Obj.keyStatus v
  if v = 2 ∨ v = 3 then s.raise 0xB7 [w64 k, w64 v] else s

/-- Numbers of the buffer and Hull entries of a KEYID. -/
def State.entriesOfKey (s : State) (k : Nat) : List Nat :=
  s.mem.pwb.foldl (fun l x => l ++ (x.2.filter fun e => e.keyid.toNat == k).map (·.id)) []
    ++ (s.tiers.hull.filter fun e => e.keyid.toNat == k).map (·.id)

/-- An accepted key command is PENDING (R359, R360). -/
def State.keyAccept (s : State) (k : Nat) (p : KeyPair) : State :=
  let s := s.withMem { s.mem with material := [], keyPending := some (k, p), keyAwaits := s.entriesOfKey k }
  (s.bump Obj.keyCommands).setNat Obj.keyStatus 1

/-- Bytes `n` segments from `i` of the key material as a number. -/
def keyBytes (l : List (BitVec 64)) (i : Nat) : BitVec 256 :=
  BitVec.ofNat 256 ((List.range 4).foldl (fun v j => v + ((l.getD (i + j) 0).toNat <<< (64 * j))) 0)

/-- INSTALL (R359, R360). -/
def State.ownKeyInstall (s : State) : Nat × State :=
  let k := (s.obj Obj.keyIndex).toNat
  let a := keyBytes s.mem.material 0
  let b := keyBytes s.mem.material 4
  if s.mem.keyPending.isSome then (Ref.state, s)
  else if s.mem.material.length < 8 ∨ a = b then
    (Ref.state, (s.withMem { s.mem with material := [] }).setKeyStatus k 3)
  else (0, s.keyAccept k (.installed a b))

/-- RANDOMISE (R358, R360): a pair that nothing else holds. -/
def State.ownKeyRandomise (s : State) : Nat × State :=
  let k := (s.obj Obj.keyIndex).toNat
  if s.mem.keyPending.isSome then (Ref.state, s)
  else
    let n := s.mem.randoms + 1
    (0, (s.withMem { s.mem with randoms := n }).keyAccept k (.random n k))

/-- KEY_COMMAND by its code. -/
def State.ownKeyCommand (v : Nat) (s : State) : Nat × State := if v % 256 = 1 then s.ownKeyInstall else s.ownKeyRandomise

/-- KEY_EFFECT: at a boundary after every entry of the KEYID that the command met has been issued (R360). -/
def State.keyEffect (s : State) : State :=
  match s.mem.keyPending with
  | none => s
  | some (k, p) =>
    if (s.entriesOfKey k).any s.mem.keyAwaits.contains then s
    else
      let s := s.withMem { s.mem with keys := Assoc.put k p s.mem.keys, keyPending := none, keyAwaits := [] }
      let bit : Reg := (1 : Reg) <<< (k % 64)
      let o := Obj.keyInstalled + k / 64
      let installed := match p with | .installed _ _ => true | .random _ _ => false
      (s.setObj o (if installed then s.obj o ||| bit else s.obj o &&& ~~~ bit)).setKeyStatus k 2

/-! ### Meanings -/

/-- MEM_CONFIG_VALID_WRITE (R329, R330). -/
def execMemConfigValidWrite (lvl : Level) (v : Reg) (s : State) : Host.Outcome State Fault Refusal :=
  .next (s.writeWith lvl Obj.memConfigValid v.toNat (State.ownPopulation Obj.memConfigValid v.toNat))

/-- DDR5_REFRESH_ISSUE (R78, R79). -/
def execDdr5RefreshIssue (chan : Fin 12) (slot : Fin 16) (s : State) : Host.Outcome State Fault Refusal :=
  .next (s.ddr5Refresh chan.val slot.val)

/-- MR4_TEMPERATURE_REPORT (R340). -/
def execMr4TemperatureReport (chan : Fin 12) (rank : Fin 4) (hot : Bool) (s : State) : Host.Outcome State Fault Refusal :=
  .next (s.mr4 chan.val rank.val hot)

/-- HUSK_REFRESH_ISSUE (R348). -/
def execHuskRefreshIssue (port : Fin 18) (slot : Fin 32) (s : State) : Host.Outcome State Fault Refusal :=
  .next (s.huskRefresh port.val slot.val)

/-- PWB_DEMAND_WRITE_ISSUE (R342). -/
def execPwbDemandWriteIssue (chan : Fin 12) (slot : Fin 16) (s : State) : Host.Outcome State Fault Refusal :=
  .next (s.demandIssue chan.val slot.val)

/-- PWB_WRITEBACK_ISSUE (R342). -/
def execPwbWritebackIssue (chan : Fin 12) (slot : Fin 16) (s : State) : Host.Outcome State Fault Refusal :=
  .next (s.writebackIssue chan.val slot.val)

/-- HULL_WRITEBACK (R135). -/
def execHullWriteback (chan : Fin 12) (slot : Fin 16) (s : State) : Host.Outcome State Fault Refusal :=
  .next (s.hullWriteback chan.val slot.val)

/-- UNRESERVED_PLACEMENT_RETRY (R341). -/
def execUnreservedPlacementRetry (s : State) : Host.Outcome State Fault Refusal := .next s.placementRetry

/-- ROW_IDLE_CLOSE (R338). -/
def execRowIdleClose (s : State) : Host.Outcome State Fault Refusal := .next s.rowIdleClose

/-- DRAIN_START (R351, R363). -/
def execDrainStart (lvl : Level) (s : State) : Host.Outcome State Fault Refusal :=
  .next (s.writeWith lvl Obj.drainCommand 1 State.ownDrainStart)

/-- DRAIN_ABORT (R354). -/
def execDrainAbort (lvl : Level) (s : State) : Host.Outcome State Fault Refusal :=
  .next (s.writeWith lvl Obj.drainCommand 2 State.ownDrainAbort)

/-- DRAIN_FRAME (R352). -/
def execDrainFrame (slice : Fin 16) (cyc : Fin 64) (s : State) : Host.Outcome State Fault Refusal :=
  .next (s.drainFrame slice.val cyc.val)

/-- DRAINING_ENTRY (R352). -/
def execDrainingEntry (s : State) : Host.Outcome State Fault Refusal := .next s.drainingEntry

/-- KEY_INDEX_WRITE (R358). -/
def execKeyIndexWrite (lvl : Level) (v : Reg) (s : State) : Host.Outcome State Fault Refusal :=
  .next (s.writeWith lvl Obj.keyIndex v.toNat (State.ownKeyIndex v.toNat))

/-- KEY_MATERIAL_APPEND (R358, R359). -/
def execKeyMaterialAppend (lvl : Level) (v : Reg) (s : State) : Host.Outcome State Fault Refusal :=
  .next (s.writeWith lvl Obj.keyMaterial v.toNat (State.ownKeyMaterial v))

/-- KEY_INSTALL (R358 to R360). -/
def execKeyInstall (lvl : Level) (s : State) : Host.Outcome State Fault Refusal :=
  .next (s.writeWith lvl Obj.keyCommand 1 State.ownKeyInstall)

/-- KEY_RANDOMISE (R358, R360). -/
def execKeyRandomise (lvl : Level) (s : State) : Host.Outcome State Fault Refusal :=
  .next (s.writeWith lvl Obj.keyCommand 2 State.ownKeyRandomise)

/-- KEY_EFFECT (R360). -/
def execKeyEffect (s : State) : Host.Outcome State Fault Refusal := .next s.keyEffect

end Sys2Proof.Machine
end

