-- ==== Sys2Proof/Machine/Maint.lean ====
section
/-!
DEFINITION. The maintenance engine (R82, R155 to R159), with the cleaning of a line that flushes and walks share
(Tables 3.8, 3.9), held partition writes (R147, R149) and region entries (R245).
-/
namespace Sys2Proof.Machine

/-! ### Cleaning a line -/

/-- A movement of the line between tiers is under way. -/
def State.inTransit (s : State) (line : Nat) : Bool :=
  s.tiers.staging.any fun e => e.line == line && (e.kind == .victim || e.kind == .placement)

/-- Maintenance acts on the Kernel copy of a line: owed data goes to the posted write buffer (Table 3.8). -/
def State.cleanKernel (s : State) (line : Nat) (inval : Bool) : State :=
  let kset := ksetOf (line * 128)
  match s.kernelHit line with
  | none => if inval then s.dropFills line else s
  | some (w, t) =>
    let data := s.kernelData kset w
    let s' := if inval || t.st == .poisoned then s.dropKernel line
      else
        let s := s.setKtag kset w (some { t with st := .clean })
        match s.pendingBank kset w with
        | some e => s.updStaged e.id fun e => { e with st := .clean }
        | none => s
    if t.st.owed then s'.placeUnreserved line t.keyid.toNat data (t.st == .poisoned) else s'

/-- A sector whose lines are all Invalid after a maintenance invalidation becomes SV = 0 (R115). -/
def State.emptySector (s : State) (hset w : Nat) : State :=
  match s.sector hset w with
  | some x => if x.lstate = 0 ∧ s.replacing hset = false ∧ s.held hset w = false then s.setSector hset w none else s
  | none => s

/-- Maintenance acts on the Husk copy of a line (Table 3.9). -/
def State.cleanHusk (s : State) (line : Nat) (inval : Bool) : State :=
  let hset := hsetOf (line * 128)
  let n := lineIn (line * 128)
  match s.huskSector line with
  | none => s
  | some (w, x) =>
    let st := x.st n
    let data := s.huskData hset w n
    let (bad, s) : Bool × State := if st.owed then s.huskTake hset w n x Cls.mt else (false, s)
    let st' : LState := if inval || bad then .invalid else if st = .dirty then .clean else st
    let s := s.setSector hset w (some (x.set n st'))
    let s := if st.owed then s.placeUnreserved line x.keyid.toNat data bad else s
    if inval then s.emptySector hset w else s

/-- Maintenance acts on every copy of a line, which is a touch in the sense of Table 6.4. -/
def State.cleanLine (s : State) (line : Nat) (inval : Bool) : State :=
  ((s.clearLine line Rsv.maint).cleanKernel line inval).cleanHusk line inval

/-! ### The engine -/

/-- Sets of an operation by sets: the Kernel's, then the Husk's. -/
def State.setCount (s : State) : Nat := 131072 + (if s.kernelOnly then 0 else 524288)

/-- The operation is past its last line or set. -/
def State.maintEnd (s : State) (m : Maint) : Bool :=
  match m.op with
  | .cleanInvRange | .cleanRange => decide (s.eff Obj.maintLimit ≤ m.next * 128)
  | _ => decide (s.setCount ≤ m.next)

/-- MAINT_PROGRESS (Table 3.12). -/
def Maint.progress (m : Maint) : Nat :=
  match m.op with
  | .cleanInvRange | .cleanRange => m.next * 128
  | _ => m.next

/-- The engine ends with a status, reported by source 0x0B5. -/
def State.maintStop (s : State) (status : Nat) : State :=
  let s := ((s.withTiers { s.tiers with maint := none }).dropJobs .maint).setNat Obj.maintStatus status
  s.raise 0xB5 [s.obj Obj.maintStatus, s.obj Obj.maintProgress]

/-- Start an operation (R155, R156); a range that does not rise below 2^42 is out of range. -/
def State.ownMaintStart (op : MaintOp) (s : State) : Nat × State :=
  let base := s.eff Obj.maintBase
  let limit := s.eff Obj.maintLimit
  let range := op == .cleanInvRange || op == .cleanRange
  if s.tiers.maint.isSome then (Ref.state, s.bump Obj.maintRefusals)
  else if range && (decide (limit ≤ base) || decide (2 ^ 42 < limit)) then (Ref.state, s.setNat Obj.maintStatus 4)
  else
    let m : Maint := { op := op, next := if range then base / 128 else 0 }
    let s := s.withTiers { s.tiers with maint := some m }
    (0, (s.setNat Obj.maintStatus 1).setNat Obj.maintProgress m.progress)

/-- ABORT (R159). -/
def State.ownMaintAbort (s : State) : Nat × State := (0, if s.tiers.maint.isSome then s.maintStop 3 else s)

/-- MAINT_COMMAND by its code. -/
def State.ownMaintCommand (v : Nat) (s : State) : Nat × State :=
  match v % 256 with
  | 1 => s.ownMaintStart .cleanInvRange
  | 2 => s.ownMaintStart .cleanRange
  | 3 => s.ownMaintStart .cleanInvPartid
  | 4 => s.ownMaintStart .cleanInvWays
  | _ => s.ownMaintAbort

/-- The valid lines of a set that an operation by sets is still to touch: Kernel lines by the entry's PARTID or way, Husk lines
by the sector's. -/
def State.maintLines (s : State) (op : MaintOp) (i : Nat) : List Nat :=
  let partid := s.eff Obj.maintPartid
  let ways := s.eff Obj.maintWays
  let wanted : Nat → Nat → Nat → Bool := fun p w base =>
    if op == .cleanInvPartid then p == partid else ways.testBit (base + w)
  if i < 131072 then
    (List.range 12).filterMap fun w => match s.ktag i w with
      | some t => if wanted t.partid.toNat w 16 then some (laOfK i t.tag / 128) else none
      | none => none
  else
    let hset := i - 131072
    (List.range 16).flatMap fun w => match s.sector hset w with
      | some x => if wanted x.partid.toNat w 0 then
          ((List.range 32).filter fun n => x.st n != .invalid).map fun n => laOfH hset x.tag n / 128 else []
      | none => []

/-- In an operation by sets, one copy is invalidated: the Kernel copy of a line in a Kernel set, the Husk copy in a Husk set. -/
def State.maintCopy (s : State) (i line : Nat) : State :=
  let s := s.clearLine line Rsv.maint
  if i < 131072 then s.cleanKernel line true else s.cleanHusk line true

/-- The engine acts on a line as a home transaction, with `f`: where the line is blocked it takes its place on the wait list and
stays (R155, Table 5.1). It leaves the wait list of a line that it waited for and that has left the set meanwhile. -/
def State.maintAct (s : State) (sl line : Nat) (f : State → State) : State :=
  let s := s.dropJobsOf .maint (· != line)
  if s.inTransit line then s
  else
    match s.jobTurn .maint sl line with
    | (false, s) => s
    | (true, s) => (f s).jobDone .maint line

/-- Move the engine on. -/
def State.maintNext (s : State) (m : Maint) : State :=
  let m := { m with next := m.next + 1 }
  (s.withTiers { s.tiers with maint := some m }).setNat Obj.maintProgress m.progress

/-- MAINT_LINE: the engine handles its next line in a Maintenance slot of the line's slice (R82, R155); an operation by sets
moves on from a set with its last line. -/
def State.maintLine (s : State) (sl cyc : Nat) : State :=
  match s.tiers.maint with
  | none => s
  | some m =>
    if s.maintEnd m || m.slice != sl then s
    else
      match s.takeSlot 0 sl cyc Cls.mt 2 with
      | none => s
      | some s =>
        match m.op with
        | .cleanInvRange | .cleanRange =>
          s.maintAct sl m.next fun s => (s.cleanLine m.next (m.op == .cleanInvRange)).maintNext m
        | op =>
          match s.maintLines op m.next with
          | [] => (s.dropJobs .maint).maintNext m
          | line :: _ =>
            s.maintAct sl line fun s =>
              let s := s.maintCopy m.next line
              if (s.maintLines op m.next).isEmpty then s.maintNext m else s

/-- MAINT_DONE: the last line is past and every line touched has entered its posted write buffer (R157). -/
def State.maintDone (s : State) : State :=
  match s.tiers.maint with
  | none => s
  | some m => if s.maintEnd m && !(s.tiers.staging.any fun e => e.kind == .placement) then s.maintStop 2 else s

/-! ### Partition and region objects -/

/-- PARTCLASS_MAP and CLASS_WAYS: held while PART_APPLY is AT_SWITCH (R147, R149). -/
def State.ownPartition (k v : Nat) (s : State) : Nat × State :=
  if s.eff Obj.partApply = 1 then
    match objRow k with
    | some r =>
      let v := BitVec.ofNat 64 (r.rng.keep (r.ty.clip v))
      (0, s.withDict { s.dict with partHeld := Assoc.put k v s.dict.partHeld })
    | none => (0, s)
  else (0, s.store k v)

/-- PART_APPLY (R149): a write of 0x00 applies what is held at the next stride boundary. -/
def State.ownPartApply (v : Nat) (s : State) : Nat × State :=
  let s := if v % 256 = 0 then s.withDict { s.dict with partHeld := [], partDue := s.heldParts } else s
  (0, s.store Obj.partApply v)

/-- REGION_BASE and REGION_LIMIT are held until REGION_ATTR is written (R245). -/
def State.ownRegionBound (k v : Nat) (s : State) : Nat × State := (0, s.setNat k v)

/-- REGION_ATTR of entry `n` commits the entry (R245). -/
def State.ownRegionAttr (n v : Nat) (s : State) : Nat × State :=
  let b := arrIx Obj.regionBase n
  let l := arrIx Obj.regionLimit n
  if v.testBit 0 ∧ s.obj l ≤ s.obj b then (Ref.state, s)
  else
    let s := s.withDict { s.dict with pending := s.dict.pending ++ [(b, s.obj b), (l, s.obj l)] }
    (0, s.store (arrIx Obj.regionAttr n) v)

/-! ### Meanings -/

/-- MAINT_CLEAN_INVALIDATE_RANGE (R155, R156). -/
def execMaintCleanInvalidateRange (lvl : Level) (s : State) : Host.Outcome State Fault Refusal :=
  .next (s.writeWith lvl Obj.maintCommand 1 (State.ownMaintStart .cleanInvRange))

/-- MAINT_CLEAN_RANGE (R155, R156). -/
def execMaintCleanRange (lvl : Level) (s : State) : Host.Outcome State Fault Refusal :=
  .next (s.writeWith lvl Obj.maintCommand 2 (State.ownMaintStart .cleanRange))

/-- MAINT_CLEAN_INVALIDATE_PARTID (R155, R156). -/
def execMaintCleanInvalidatePartid (lvl : Level) (s : State) : Host.Outcome State Fault Refusal :=
  .next (s.writeWith lvl Obj.maintCommand 3 (State.ownMaintStart .cleanInvPartid))

/-- MAINT_CLEAN_INVALIDATE_WAYS (R155, R156). -/
def execMaintCleanInvalidateWays (lvl : Level) (s : State) : Host.Outcome State Fault Refusal :=
  .next (s.writeWith lvl Obj.maintCommand 4 (State.ownMaintStart .cleanInvWays))

/-- MAINT_ABORT (R159). -/
def execMaintAbort (lvl : Level) (s : State) : Host.Outcome State Fault Refusal :=
  .next (s.writeWith lvl Obj.maintCommand 5 State.ownMaintAbort)

/-- MAINT_LINE (R155). -/
def execMaintLine (slice : Fin 16) (cyc : Fin 64) (s : State) : Host.Outcome State Fault Refusal :=
  .next (s.maintLine slice.val cyc.val)

/-- MAINT_DONE (R157). -/
def execMaintDone (s : State) : Host.Outcome State Fault Refusal := .next s.maintDone

/-- PART_APPLY_WRITE (R149). -/
def execPartApplyWrite (lvl : Level) (v : Reg) (s : State) : Host.Outcome State Fault Refusal :=
  .next (s.writeWith lvl Obj.partApply v.toNat (State.ownPartApply v.toNat))

/-- REGION_ATTR_WRITE (R245). -/
def execRegionAttrWrite (lvl : Level) (n : Fin 64) (v : Reg) (s : State) : Host.Outcome State Fault Refusal :=
  .next (s.writeWith lvl (arrIx Obj.regionAttr n.val) v.toNat (State.ownRegionAttr n.val v.toNat))

end Sys2Proof.Machine
end

