-- ==== Sys2Proof/Machine/ModeCtl.lean ====
section
/-!
DEFINITION. What every change of mode shares (10): the Paddock and its check (R414, R415), the transition itself (R400,
R401), REDUCED, and the automatic entry to Degraded (R384).
-/
namespace Sys2Proof.Machine

/-! ### The Paddock -/

/-- CHECK of four Paddock words (R414): word 0 is bits [255:192], and word 3 holds CHECK in its bits [7:0]. -/
def paddockCheck (w : List Reg) : Nat :=
  crc8 (((List.range 32).map fun i => (w.getD (i / 8) 0).toNat >>> (56 - 8 * (i % 8)) % 256).take 31)

/-- Write Paddock words and recompute CHECK (R414). -/
def State.setPaddock (s : State) (w : List Reg) : State :=
  let w3 := ((w.getD 3 0) >>> 8) <<< 8
  let w' := [w.getD 0 0, w.getD 1 0, w.getD 2 0, w3]
  (s.withModes { s.modes with paddock := setAt w' 3 (w3 ||| BitVec.ofNat 64 (paddockCheck w')) })

/-- Replace bits `[hi:lo]` of a register. -/
def putBits (v : Reg) (hi lo n : Nat) : Reg :=
  let m : Reg := BitVec.ofNat 64 ((2 ^ (hi + 1 - lo) - 1) <<< lo)
  (v &&& ~~~ m) ||| (BitVec.ofNat 64 (n <<< lo) &&& m)

/-- Change one Paddock word. -/
def State.editPaddock (s : State) (i : Nat) (f : Reg → Reg) : State :=
  let w := fun j => s.modes.paddock.getD j 0
  s.setPaddock ((List.range 4).map fun j => if j = i then f (w j) else w j)

/-- The fields' values after a Paddock power-on, with a cause (R414, Table 10.6). -/
def State.paddockReset (s : State) (cause : Nat) : State :=
  s.setPaddock [BitVec.ofNat 64 (1 <<< 48 + cause <<< 8), 0, 0, 0]

/-- Record the cause of a reset where none stands since the last Bring-up that completed (R415). -/
def State.recordCause (s : State) (cause : Nat) : State :=
  if s.modes.causeOpen then
    let m := s.modes.mode.code
    let s := s.withModes { s.modes with causeOpen := false }
    s.editPaddock 0 fun v => putBits (putBits v 15 8 cause) 7 0 m
  else s

/-! ### Transitions -/

/-- A mode request in progress ends with a result (R402). -/
def State.endRequest (s : State) (result : Nat) : State :=
  let asked := s.modes.asked
  let s := s.withModes { s.modes with trans := none, asked := false, testWanted := false, recalling := false }
  if asked then s.setNat Obj.modeResult result else s

/-- The mode changes: MODE_PREVIOUS, MODE_ENTRY_STRIDE, the monitors (R401), the Drain walk (R407) and source 0x0B1. -/
def State.enterMode (s : State) (m : Mode) : State :=
  let old := s.modes.mode
  let s := (s.setNat Obj.modePrevious old.code).setNat Obj.modeEntryStride s.now
  let s := s.withModes { s.modes with mode := m, drainWalk := m == Mode.drain, drainNext := [] }
  let s := (s.setNat Obj.drainDone 0).clearMonitors Rsv.link fun _ _ => true
  s.raise 0xB1 [w64 old.code, w64 m.code, s.obj Obj.modeResult]

/-- A requested transition completes (R400). -/
def State.completeRequest (s : State) (m : Mode) : State :=
  (s.endRequest 2).enterMode m

/-! ### Reduced capacity -/

/-- A stage-4 record, or a drained or failed port, applies (R384, R400). -/
def State.reducedNow (s : State) : Bool :=
  decide (s.offGroups 0 + s.offGroups 1 ≠ 0) || decide (s.portsOut ≠ 0) || decide (s.dirExtra ≠ 0)

/-- REDUCED, from the first boundary at which capacity is reduced until a cold reset (R400). -/
def State.noteReduced (s : State) : State := if s.reducedNow then s.setNat Obj.reduced 1 else s

/-- The event of source 0x0B2 (Table 12.1): the array or port, and the capacity objects. -/
def State.capacityEvent (s : State) (what : Nat) : State :=
  s.raise 0xB2 [w64 what, w64 s.kernelAvail, w64 s.huskAvail, w64 s.dirAvail, s.obj Obj.degradePending]

/-- A stage-4 action, drain or failed port has completed: the alarm of Table 12.1, and Degraded is due (R384). -/
def State.degradeDue (s : State) (what : Nat) : State :=
  let s := if s.modes.mode = .degraded then s
    else (s.setNat Obj.degradePending 1).withRel { s.rel with degradeAt := s.now }
  s.capacityEvent what

/-- DEGRADED_ENTRY: at the first boundary at which the active gait lists Degraded, after the stride in which it came due (R384, Table
10.1). -/
def State.degradedEntry (s : State) : State :=
  if s.now ≤ s.rel.degradeAt then s else
  let from_ := s.modes.mode == .normal || s.modes.mode == .partitioned || s.modes.mode == .passThrough || s.modes.mode == .drain
  match s.activeGait with
  | some g =>
    if s.obj Obj.degradePending = 1 && from_ && g.modeMask.testBit 4 then
      (s.setNat Obj.degradePending 0).enterMode .degraded
    else s
  | none => s

/-- DRAINED: five strides after DRAINING began the ports are out of service, and the mode becomes Degraded at this boundary where the
active gait lists it (R352, R384). Drains do not run in Rest (R403). -/
def State.drained (s : State) : State :=
  match s.mem.drain with
  | some d =>
    match d.begun with
    | some t =>
      if t + 5 ≤ s.now ∧ s.modes.mode ≠ .rest then
        let s := (s.withMem { s.mem with drain := none }).setPorts
          ((drainPorts d.port).filter fun j => s.portState j == 4) 5
        let s := (s.huskNeed.setDrainStatus 3).degradeDue d.port
        (s.withRel { s.rel with degradeAt := t }).degradedEntry
      else s
    | none => s
  | none => s

/-! ### Meanings -/

/-- DEGRADED_ENTRY (R384). -/
def execDegradedEntry (s : State) : Host.Outcome State Fault Refusal := .next s.degradedEntry

/-- DRAINED (R352). -/
def execDrained (s : State) : Host.Outcome State Fault Refusal := .next s.drained

end Sys2Proof.Machine
end

