-- ==== Sys2Proof/Machine/Reliability.lean ====
section
/-!
DEFINITION. Reliability (09): fatal faults (Table 9.7), the scrubber (R371 to R373), corrections and hard faults (R368,
R369), leaky buckets (R375) and trends (R374), Farrier (R378 to R385), the monitors of clocks and channels (R386 to R390)
and Contained mode (R389 to R393).
-/
namespace Sys2Proof

/-- Number of a scrub kind (Table 9.10). -/
def ScrubKind.num : ScrubKind → Nat
  | .tagSets => 0 | .kernelData => 1 | .husk => 2 | .ddr5 => 3

/-- Row kind of the gait, and the rows of it, that the scrubber uses for a row of a kind (Table 9.2). -/
def ScrubKind.rows (k : ScrubKind) (r : Nat) : Nat × List Nat :=
  match k with
  | .tagSets => (0, [r]) | .kernelData => (1, [r]) | .husk => (2, [r, Machine.checkPort r]) | .ddr5 => (3, [2 * r, 2 * r + 1])

end Sys2Proof

namespace Sys2Proof.Machine

/-- A fatal fault is detected: it enters Contained at the next stride boundary (R389). -/
def State.fatal (s : State) (code : Nat) (slice : Option Nat) (detail : Nat) : State :=
  s.withRel { s.rel with fatal := s.rel.fatal ++ [(code, slice, detail)],
                         fatalAt := if s.rel.fatal.isEmpty then s.now else s.rel.fatalAt }

/-! ### Farrier's queue -/

/-- A hard fault is queued to Farrier, merged into the repair of its row, or dropped (R378, R385). -/
def State.queueFault (s : State) (f : HardFault) : State :=
  let merged := match s.rel.work with
    | some (g, _) => g.array == f.array && g.row == f.row
    | none => false
  if s.rel.stopped || merged then s
  else if 16 ≤ s.rel.queue.length then s.bump Obj.farrierDropped
  else s.withRel { s.rel with queue := s.rel.queue ++ [f] }

/-! ### Scrub reads -/

/-- Work of the engines, group 0x02, on a row of a scrub kind takes slot `k` of this stride on every row that it needs, its
share of a check port's (R346): none where the slot does not serve it, or the unit's bank is refresh-busy (R50, R80, R82, R337, R339,
R348). -/
def State.engineSlot (s : State) (kind : ScrubKind) (row k cls : Nat) (dram : Option DramAddr) (place : Option (Nat × Nat) := none) :
    Option State :=
  let (t, rows) := kind.rows row
  let w : Want := { kind := t, row := rows.headD 0, cls := cls, grp := 2, arrive := 0, dram := dram, place := place }
  if s.slotServes w s.now k && rows.tail.all fun r => s.room t r s.now k (rowShare t r 8) then some (s.takeRows w rows s.now k) else none

/-- The place of a unit on its Husk port: its set and line. -/
def unitPlace (kind : ScrubKind) (row u : Nat) : Option (Nat × Nat) :=
  match kind with
  | .husk => some ((huskUnit row u).1, (huskUnit row u).2.2)
  | _ => none

/-- The DRAM address of a unit, on a DDR5 row. -/
def State.unitDram (s : State) (kind : ScrubKind) (row u : Nat) : Option DramAddr :=
  match kind with
  | .ddr5 => some (s.dram (ddrUnit row u * 128))
  | _ => none

/-- A scrub or correction access to a unit acts on the channel's open rows in slot `k` (R338). -/
def State.touchUnit (s : State) (kind : ScrubKind) (row u k : Nat) (read : Bool) : State :=
  match kind with
  | .ddr5 => s.touchRow (ddrUnit row u) (s.now * 64 + 4 * k) read
  | _ => s

/-- Units of a row (Table 9.2). -/
def State.scrubUnits (s : State) : ScrubKind → Nat
  | .tagSets => 57344
  | .kernelData => 98304
  | .husk => 16777216
  | .ddr5 => 2 ^ (12 + s.rankBits + s.rowBits)

/-- Distinct words of a SECDED pattern, each with its number of flipped bits. -/
def flipsOf (e : ErrPattern) : List (Nat × Nat) :=
  (e.map Prod.fst).eraseDups.map fun w => (w, (e.filter (fun (p : Nat × Nat) => p.1 == w)).length)

/-- An uncorrectable word of a tag set (Table 9.1, R366). -/
def State.tagWordLost (s : State) (row : Nat) (u : TagUnit) (w : Nat) : State :=
  match u with
  | .kernel _ => (s.noteUncorrectable (16 + row)).fatal 5 (some row) (16 + row)
  | .husk h =>
    if w % 2 = 0 then (s.noteUncorrectable (16 + row)).fatal 6 (some row) (32 + row)
    else if (s.sector h (w / 2)).isSome then s.sectorLoss h (w / 2)
    else s.noteUncorrectable (16 + row)
  | .dir _ => (s.noteUncorrectable (16 + row)).fatal 7 (some row) (48 + row)

/-- A scrub read of a tag set: word `w` of a pattern is the entry of way `w`, or of a Husk set the lower (even) or upper word
of way `w / 2`. -/
def State.scrubTags (s : State) (row u : Nat) (err : ErrPattern) (keep : Bool) : State :=
  let t := tagUnit row u
  let ones := ((flipsOf err).filter fun x => x.2 == 1).length
  let s := s.noteCorrections (16 + row) ones
  let s := if ones ≠ 0 && keep then s.addCorrection .tagSets row u err else s
  ((flipsOf err).filter fun x => decide (2 ≤ x.2)).foldl (fun s x =>
    let (o, s) := s.settle (if x.2 = 2 then .uncorrectable else .beyond)
    if o = .uncorrectable then s.tagWordLost row t x.1 else s) s

/-- A scrub read of a Kernel bank location: the line that the bank still holds becomes Poisoned (R373). -/
def State.scrubKernel (s : State) (row u : Nat) (err : ErrPattern) (keep : Bool) : State :=
  let kset := row * 8192 + u / 12
  let w := u % 12
  let (o, s) := s.settle (secded err)
  match o with
  | .corrected n =>
    let s := s.noteCorrections row n
    if keep then s.addCorrection .kernelData row u err else s
  | .uncorrectable =>
    let s := s.noteUncorrectable row
    match s.tiers.staging.find? fun e => e.kind == .victim && e.data.isNone && e.loc == some (kset, w) with
    | some e =>
      if e.st = .poisoned then s
      else (s.updStaged e.id fun e => { e with st := .poisoned }).notePoison e.line e.keyid.toNat 1
    | none =>
      match s.ktag kset w, s.pendingBank kset w with
      | some t, none =>
        let line := laOfK kset t.tag / 128
        let s := s.loseKernel kset w t line
        if t.st = .poisoned then s else s.notePoison line t.keyid.toNat 1
      | _, _ => s
  | _ => s

/-- A scrub read of a Husk line location with its check entry (R347, R373). A line whose placement is chosen and not yet written
has no data there (R561). -/
def State.scrubHusk (s : State) (port u : Nat) (err : ErrPattern) (keep : Bool) : State :=
  let (h, w, n) := huskUnit port u
  let s := (s.fixed 15 1).countU 0x800 port 1
  let valid : Option (Nat × Sector) := match s.sector h w with
    | some x =>
      let line := laOfH h x.tag n / 128
      let coming := s.tiers.staging.any fun e => e.target == some (h, w) && e.line == line
      if x.st n ≠ .invalid ∧ coming = false then some (line, x) else none
    | none => none
  let addrOk := match valid, Assoc.find? (checkKey h w n) s.tiers.hchecks with
    | some (line, _), some y => y.addr == line
    | some _, none => false
    | none, _ => true
  let (o, s) := s.settle (if addrOk then rsHusk err else .uncorrectable)
  match o with
  | .corrected _ =>
    let s := s.noteSymbols port err
    if keep then s.addCorrection .husk port u err else s
  | .uncorrectable =>
    let s := s.noteUncorrectable (32 + port)
    match valid with
    | some (line, x) =>
      if x.st n = .poisoned then s
      else (s.setSector h w (some (x.set n .poisoned))).notePoison line x.keyid.toNat 1
    | none => s
  | _ => s

/-- The home transaction of a DDR5 line that a scrub read found uncorrectable: a Clean copy is written over it, a copy still owed to DRAM leaves it
as it is, and otherwise it becomes Poisoned (R373); the KEYID of the record of such a line is a free value (log entry 61). -/
def State.scrubLost (s : State) (ch line c : Nat) : State :=
  let owed := (match s.kernelHit line with | some (_, t) => t.st.owed | none => false)
    || (s.tiers.staging.any fun e => e.line == line && e.kind != .cleanFill && e.st.owed)
    || (s.huskState line).owed || (s.hullOf line).isSome || (s.pwbOf line).isSome
  let wrote : State → State := fun s =>
    let w : Want := { kind := 3, row := 2 * ch, cls := Cls.mt, grp := 2, arrive := c + 8, dram := some (s.dram (line * 128)) }
    let (b, s) := s.serveWork 0 Leg.ddr5 w [2 * ch, 2 * ch + 1]
    ((s.touchRow line b false).fixed 14 1).countU 0x701 ch 1
  if owed then s
  else
    match s.tierCopy line with
    | some x =>
      let (bad, s) : Bool × State := match x.src, s.huskSector line with
        | .husk, some (w, y) => s.huskTake (hsetOf (line * 128)) w (lineIn (line * 128)) y Cls.mt
        | _, _ => (false, s)
      if bad then s.setHuskState line .poisoned else wrote (s.dramWrite line x.keyid x.data false)
    | none =>
      let (k, s) := (wrote s).draw 10
      match Assoc.find? line s.mem.dram with
      | some x =>
        let s := s.withMem { s.mem with dram := Assoc.put line { x with poison := true } s.mem.dram }
        if x.poison then s else s.notePoison line k.toNat 1
      | none =>
        let (d, s) := s.draw 1024
        (s.dramWrite line k.toNat d true).notePoison line k.toNat 1

/-- A scrub read of a DDR5 line: one that carries the poison pattern alone is no error (Table 9.4). -/
def State.scrubDdr (s : State) (ch u : Nat) (err : ErrPattern) (keep : Bool) : State :=
  let line := ddrUnit ch u
  let poisoned := match Assoc.find? line s.mem.dram with | some x => x.poison | none => false
  let s := (s.fixed 13 1).countU 0x700 ch 1
  let (x, s) := s.ddrDecode ch (s.dram (line * 128)).rank poisoned err
  match x.outcome with
  | .corrected _ => if keep then s.addCorrection .ddr5 ch u err else s
  | .uncorrectable => s.withRel { s.rel with lost := s.rel.lost.filter (· != line) ++ [line] }
  | _ => s

/-- One read of a scrub unit. -/
def State.scrubUnit (s : State) (kind : ScrubKind) (row u : Nat) (err : ErrPattern) (keep : Bool) : State :=
  match kind with
  | .tagSets => s.scrubTags row u err keep
  | .kernelData => s.scrubKernel row u err keep
  | .husk => s.scrubHusk row u err keep
  | .ddr5 => s.scrubDdr row u err keep

/-- Scrub reads per stride of a row in 1/256, as the active gait allows, and the limit of its credit, by the Scrub slots that
match the scrubber's group (R50, R80, R372). -/
def State.scrubRate (s : State) (kind : ScrubKind) (row : Nat) : Nat × Nat :=
  match s.activeGait with
  | none => (0, 0)
  | some g =>
    let (t, rows) := kind.rows row
    let n := (g.slotsWith t (rows.headD 0) fun e => e.cls == Cls.sc && ownerMatches e.owner 2 false).length
    (min (s.eff (Obj.scrubRate + kind.num)) (256 * g.scrubSlots t), 256 * n)

/-- Key of a row of a kind. -/
def scrubKey (kind : ScrubKind) (row : Nat) : Nat := kind.num * 32 + row

/-- A row's credit grows at a boundary (R372). -/
def State.scrubAccrue (s : State) (kind : ScrubKind) (row : Nat) : State :=
  let (rate, cap) := s.scrubRate kind row
  let k := scrubKey kind row
  (s.withRel { s.rel with credit := Assoc.putD s.rel.credit k 0 (min cap (Assoc.getD s.rel.credit k 0 + rate)) })

/-- Every row's credit grows in the modes in which the scrubber runs. -/
def State.scrubCredit (s : State) : State :=
  if !s.modes.mode.service then s
  else
    let each : State → ScrubKind → Nat → State := fun s k n => (List.range n).foldl (fun s r => s.scrubAccrue k r) s
    each (each (each (each s .tagSets 16) .kernelData 16) .husk 16) .ddr5 12

/-- Rows of a kind that the scrubber walks. -/
def State.scrubRow (s : State) (kind : ScrubKind) (row : Nat) : Bool :=
  match kind with
  | .husk => s.portInService row
  | .ddr5 => decide (row < 12) && s.obj (Obj.chanState + row * 256) == 2
  | _ => true

/-- SCRUB_READ (R371 to R373): the row's next unit, in a Scrub slot or one that spills to it (R80). A correction of the unit that is
still to be written is dropped (R368). -/
def State.scrubRead (s : State) (kind : ScrubKind) (row slot : Nat) (err : ErrPattern) : State :=
  let k := scrubKey kind row
  let credit := Assoc.getD s.rel.credit k 0
  if !s.modes.mode.service || decide (credit < 256) || s.eff (Obj.scrubRate + kind.num) == 0 || !s.scrubRow kind row then s
  else
    let u := Assoc.getD s.rel.next k 0
    match s.engineSlot kind row slot Cls.sc (s.unitDram kind row u) (unitPlace kind row u) with
    | none => s
    | some s =>
    let s := s.touchUnit kind row u slot true
    let wrap := decide (s.scrubUnits kind ≤ u + 1)
    let out : Correction → Bool := fun c => c.kind == kind && c.row == row && c.unit == u && !c.written
    let n := (s.rel.corrections.filter out).length
    let s := s.withRel { s.rel with
      credit := Assoc.putD s.rel.credit k 0 (credit - 256), next := Assoc.putD s.rel.next k 0 (if wrap then 0 else u + 1),
      corrections := s.rel.corrections.filter fun c => !out c }
    let s := (s.bumpN Obj.scrubDeferred n).scrubUnit kind row u err true
    if wrap then
      let p := Obj.scrubPasses + kind.num
      let s := s.bumpWrap p
      if kind = .ddr5 then
        s.withRel { s.rel with ddrCounts := s.rel.ddrCounts.filter fun x => x.1 / 64 != row }
      else s
    else s

/-! ### Corrections -/

/-- The lines of a unit. -/
def State.unitLines (s : State) (kind : ScrubKind) (row u : Nat) : List Nat :=
  match kind with
  | .tagSets =>
    let mine := (s.home.txns.map (·.line)).filter fun l => match tagUnit row u with
      | .kernel k => ksetOf (l * 128) == k
      | .husk h => hsetOf (l * 128) == h
      | .dir d => dsetOf (l * 128) == d
    let held := match tagUnit row u with
      | .kernel k => (List.range 12).filterMap fun w => (s.ktag k w).map fun t => laOfK k t.tag / 128
      | .husk h => (List.range 16).flatMap fun w => match s.sector h w with
        | some x => ((List.range 32).filter fun n => x.st n != .invalid).map fun n => laOfH h x.tag n / 128
        | none => []
      | .dir d => (List.range 16).filterMap fun w => (s.dirEnt d w).map fun e => laOfD d e.dtag / 128
    (mine ++ held).eraseDups
  | .kernelData =>
    match s.ktag (row * 8192 + u / 12) (u % 12) with
    | some t => [laOfK (row * 8192 + u / 12) t.tag / 128]
    | none => []
  | .husk =>
    let (h, w, n) := huskUnit row u
    match s.sector h w with
    | some x => [laOfH h x.tag n / 128]
    | none => []
  | .ddr5 => [ddrUnit row u]

/-- The home transaction of the slice's oldest DDR5 line that a scrub read found uncorrectable, in the Maintenance slot of cycle
`c` of its slice (R373): where the line is blocked it waits its turn. -/
def State.lostLine (s : State) (line c : Nat) : State :=
  let sl := sliceOf (line * 128)
  match s.jobTurn .scrub sl line with
  | (false, s) => s
  | (true, s) =>
    let s := s.withRel { s.rel with lost := s.rel.lost.filter (· != line) }
    ((s.clearLine line Rsv.maint).scrubLost (chanOf (line * 128)) line c).jobDone .scrub line

/-- CORRECTION_WRITE: the oldest correction of the row is written back in a Maintenance slot (R82, R368). In a tag slice's slot a
line that a scrub read lost comes first (R373; log entry 125). The scrubber's work runs in service modes only (R389, R403). -/
def State.correctionWrite (s : State) (kind : ScrubKind) (row slot : Nat) : State :=
  if !s.modes.mode.service then s else
  let p : Correction → Bool := fun c => c.kind == kind && c.row == row && !c.written
  let lost := if kind = .tagSets then s.rel.lost.find? fun l => sliceOf (l * 128) == row else none
  match lost, s.rel.corrections.find? p with
  | some line, _ => match s.engineSlot kind row slot Cls.mt none with
    | some s => s.lostLine line (s.now * 64 + slot)
    | none => s
  | none, none => s
  | none, some c =>
    if s.unitImage kind row c.unit ≠ c.was then
      s.withRel { s.rel with corrections := dropFirst p s.rel.corrections }
    else
      let lines := s.unitLines kind row c.unit
      if lines.any fun l => s.lineHeld l 0 then s
      else
        match s.engineSlot kind row slot Cls.mt (s.unitDram kind row c.unit) (unitPlace kind row c.unit) with
        | none => s
        | some s =>
        let s := (s.touchUnit kind row c.unit slot false)
        let s := lines.foldl (fun s l => s.clearLine l Rsv.maint) s
        let s := s.withRel { s.rel with corrections := updFirst p (fun c => { c with written := true }) s.rel.corrections }
        match kind with
        | .husk => (s.fixed 16 1).countU 0x801 row 1
        | .ddr5 => (s.fixed 14 1).countU 0x701 row 1
        | _ => s

/-- The hard fault that a correction found wrong again stands for (R369, Table 9.5): its word and bit. -/
def hardFaultOf (kind : ScrubKind) (row u word : Nat) : Option HardFault :=
  match kind with
  | .tagSets =>
    match tagUnit row u with
    | .kernel k => some ⟨16 + row, k % 8192, word⟩
    | .husk h => some ⟨32 + row, h % 32768, word / 2⟩
    | .dir d => some ⟨48 + row, d % 16384, word⟩
  | .kernelData => some ⟨row, u / 12, u % 12⟩
  | .husk => some ⟨64 + row, u / 32, (huskUnit row u).2.1⟩
  | .ddr5 => none

/-- CORRECTION_REREAD: the unit is read again in the Maintenance slot after the write; the same bit or symbol wrong again is a
hard error (R369). -/
def State.correctionReread (s : State) (kind : ScrubKind) (row slot : Nat) (err : ErrPattern) : State :=
  if !s.modes.mode.service then s else
  let p : Correction → Bool := fun c => c.kind == kind && c.row == row && c.written
  match s.rel.corrections.find? p with
  | none => s
  | some c =>
    match s.engineSlot kind row slot Cls.mt (s.unitDram kind row c.unit) (unitPlace kind row c.unit) with
    | none => s
    | some s =>
    let s := (s.touchUnit kind row c.unit slot true)
    let s := s.withRel { s.rel with corrections := dropFirst p s.rel.corrections }
    let again := err.find? fun (x : Nat × Nat) =>
      if kind = .husk then c.bits.any fun (y : Nat × Nat) => y.1 == x.1 else c.bits.contains x
    let hard := match again with
      | some x => hardFaultOf kind row c.unit x.1
      | none => none
    let s := s.scrubUnit kind row c.unit err hard.isNone
    match hard with
    | some f => s.queueFault f
    | none => s

/-! ### Buckets and trends -/

/-- BUCKET_UPDATE of a bucket: the stride's corrections, and the overflow event, which a lowered capacity may bring too
(R375). -/
def State.bucketAdd (s : State) (b : Nat) : State :=
  let n := Assoc.getD s.rel.inStride b 0
  let level := (s.obj (Obj.bucketLevel + b)).toNat + n
  let cap := s.eff (Obj.bucketCapacity + b)
  if n = 0 ∧ level ≤ cap then s
  else
    let s := s.setNat (Obj.bucketLevel + b) (min level cap)
    if cap < level then s.raise b [w64 b, w64 level] else s

/-- BUCKET_UPDATE at a stride boundary. -/
def State.bucketUpdate (s : State) : State :=
  let s := (List.range 64).foldl (fun s b => s.bucketAdd b) s
  (s.withRel { s.rel with inStride := [] })

/-- BUCKET_LEAK: a level falls by one when its leak interval has passed (R375). -/
def State.bucketLeak (s : State) (b : Nat) : State :=
  if Assoc.getD s.rel.lastLeak b 0 + s.eff (Obj.bucketLeak + b) ≤ s.now then
    let k := Obj.bucketLevel + b
    (s.withRel { s.rel with lastLeak := Assoc.put b s.now s.rel.lastLeak }).setNat k ((s.obj k).toNat - 1)
  else s

/-- HUSK_TREND of the data ports at an epoch boundary, with the alarm (R374). -/
def State.trendEpoch (s : State) : State :=
  let s := (List.range 16).foldl (fun s j =>
    let l := ((Assoc.getD s.rel.trendNow j 0) :: Assoc.getD s.rel.trend j []).take 64
    let sum := l.foldl (· + ·) 0
    let limit := s.eff Obj.huskTrendLimit
    let silent := s.rel.trendSilent.contains j
    let l := if sum = 0 then [] else l
    let s := (s.withRel { s.rel with trend := Assoc.putD s.rel.trend j [] l }).setNat (Obj.huskTrend + j) sum
    if limit < sum ∧ silent = false then
      (s.withRel { s.rel with trendSilent := j :: s.rel.trendSilent }).raise 0xBC [w64 j, w64 sum]
    else if silent && decide (2 * sum < limit) then
      s.withRel { s.rel with trendSilent := s.rel.trendSilent.filter (· != j) }
    else s) s
  (s.withRel { s.rel with trendNow := [], strayInEpoch := false, alertCount := [] })

/-! ### Farrier -/

/-- Set FARRIER_STATUS. -/
abbrev State.farrier (s : State) (v : Nat) : State := s.setNat Obj.farrierStatus v

/-- Farrier takes a step of its work. -/
def State.setWork (s : State) (f : HardFault) (step : FarrierStep) (next : Nat) : State :=
  s.withRel { s.rel with work := some (f, step), workSince := s.now, workNext := next }

/-- Farrier ends its work: stopped where Contained has been entered (R385). -/
def State.endWork (s : State) : State :=
  ((s.withRel { s.rel with work := none }).dropJobs .farrier).farrier (if s.rel.stopped then 4 else 0)

/-- A repair or retirement is done (Table 12.1, 0x0B8). -/
def State.workDone (s : State) (f : HardFault) (what stage : Nat) : State :=
  s.endWork.raise 0xB8 [w64 f.array, w64 what, w64 stage]

/-- Set group of a fault. -/
def HardFault.grp (f : HardFault) : Nat := f.place.2 / 1024

/-- Ways of the fault's set group that are lost, drained and failed ports included (R382). -/
def State.groupLost (s : State) (tier slice grp : Nat) : Nat :=
  (s.retiredWays tier slice grp).length + (if tier = 1 then s.portsOut else 0)

/-- The way of a fault is lost already: retired, in a disabled group, or on a Husk port out of service (R355, R382, R383). -/
def State.wayGone (s : State) (f : HardFault) : Bool :=
  s.groupOff f.tier f.place.1 f.grp || (s.retiredWays f.tier f.place.1 f.grp).contains f.way
    || (64 ≤ f.array && 5 ≤ s.portState (f.array - 64))

/-- Stage 3, or stage 4 where the group's budget is spent (R382, R383); a fault in a way that is lost already asks for nothing. -/
def State.startRetire (s : State) (f : HardFault) : State :=
  if s.wayGone f then s.endWork else
  let step : FarrierStep := if s.groupLost f.tier f.place.1 f.grp < 2 then .retiring else .stage4
  (s.setWork f step 0).farrier 3

/-- Key of a field-repair entry (Table 9.6). -/
def fieldKey (array spare : Nat) : Nat := array * 64 + spare

/-- A field-repair entry (Table 9.6). -/
def fieldEntry (st : Nat) (f : HardFault) (spare : Nat) : BitVec 32 :=
  BitVec.ofNat 32 (st <<< 30 + f.array <<< 24 + f.row <<< 6 + spare)

/-- Write a field-repair entry. -/
def State.putField (s : State) (f : HardFault) (spare st : Nat) : State :=
  s.withRel { s.rel with field := Assoc.put (fieldKey f.array spare) (fieldEntry st f spare) s.rel.field }

/-- Begin to program field-repair entry `spare`: its first write (R381). -/
def State.startProgram (s : State) (f : HardFault) (spare : Nat) : State :=
  (((s.dropJobs .farrier).putField f spare 0).setWork f .programming spare).farrier 2

/-- Take the oldest queued fault (R378): stage 2 while the array has budget, else stage 3 or 4. -/
def State.takeFault (s : State) : State :=
  match s.rel.queue with
  | [] => s
  | f :: q =>
    if s.rel.stopped || !s.modes.mode.service then s
    else
      let s := s.withRel { s.rel with queue := q }
      if f.array < 64 ∧ s.fieldUsed f.array < 64 then (s.setWork f .flushing 0).farrier 1 else s.startRetire f

/-- Farrier acts on a line as a home transaction, with `f`, or takes its place on the line's wait list (R155, R378, Table 5.1). It
leaves the wait list of a line that it waited for and that has left the set meanwhile. -/
def State.farrierAct (s : State) (slice line : Nat) (f : State → State) : State :=
  let s := s.dropJobsOf .farrier (· != line)
  match s.jobTurn .farrier slice line with
  | (false, s) => s
  | (true, s) => (f (s.clearLine line Rsv.maint)).jobDone .farrier line

/-- A sector of which no line is owed leaves whole: its Clean lines are touched (Tables 3.9, 6.4). -/
def State.dropSector (s : State) (hset w : Nat) (x : Sector) : State :=
  let lines := ((List.range 32).filter fun n => x.st n != .invalid).map fun n => laOfH hset x.tag n / 128
  (lines.foldl (fun s l => s.clearLine l Rsv.maint) s).setSector hset w none

/-- One Maintenance slot's work on the ways `ways` of a set that Farrier flushes; the first part says that nothing valid is
left there. Farrier waits for no line that has left the set (R378, Table 5.1). -/
def State.flushSet (s : State) (tier slice set : Nat) (ways : List Nat) (c : Nat) : Bool × State :=
  match tier with
  | 0 =>
    let kset := slice * 8192 + set
    let lines := ways.filterMap fun w => (s.ktag kset w).map fun t => laOfK kset t.tag / 128
    match lines.find? fun l => !s.inTransit l with
    | some l => (false, s.farrierAct slice l fun s => s.cleanKernel l true)
    | none => (lines.isEmpty, s.dropJobsOf .farrier fun l => !lines.contains l)
  | 1 =>
    let hset := slice * 32768 + set
    let secs := ways.filterMap fun w => (s.sector hset w).map fun x => (w, x)
    match secs.find? fun y => !s.held hset y.1 && !s.replacing hset with
    | some (w, x) =>
      match x.owedLines.head? with
      | some n =>
        let l := laOfH hset x.tag n / 128
        (false, s.farrierAct slice l fun s => s.cleanHusk l true)
      | none => match s.blockedLine hset x with
        | some l => (false, s.farrierAct slice l fun s => s.cleanHusk l true)
        | none => (false, (s.dropJobs .farrier).dropSector hset w x)
    | none => (secs.isEmpty, s.dropJobsOf .farrier fun l => !secs.any fun y => hsetOf (l * 128) == hset && htagOf (l * 128) == y.2.tag)
  | _ =>
    let dset := slice * 16384 + set
    let ents := ways.filterMap fun w => (s.dirEnt dset w).map fun e => (w, e)
    match ents.head? with
    | some (w, e) => (false, s.farrierAct slice (laOfD dset e.dtag / 128) fun s => (s.openBackInv dset w e c).2)
    | none => (true, s.dropJobs .farrier)

/-- A Maintenance slot of the slice whose sets Farrier's work is in (R82, R378). -/
def State.farrierSlot (s : State) (f : HardFault) (sl cyc : Nat) : Option State :=
  if f.place.1 = sl then s.takeSlot 0 sl cyc Cls.mt 2 else none

/-- FARRIER_FLUSH: Farrier takes a fault, or flushes the sets of the faulty row in a Maintenance slot of their slice (R380, steps 1
and 2), from the stride boundary after the start on, in a service mode (R403). -/
def State.farrierFlush (s : State) (sl cyc : Nat) : State :=
  if !s.modes.mode.service then s else
  match s.rel.work with
  | none => s.takeFault
  | some (f, .flushing) =>
    if s.now ≤ s.rel.workSince then s else
    match s.farrierSlot f sl cyc with
    | none => s
    | some s =>
    let (tier, slice) := (f.tier, f.place.1)
    let n := rowSets f.array
    let sets := (List.range n).map (· + f.row * n)
    let all := List.range (if tier = 0 then 12 else 16)
    let (done, s) := sets.foldl (fun (a : Bool × State) set =>
      if !a.1 then a else a.2.flushSet tier slice set all (s.now * 64 + cyc)) (true, s)
    if done then s.startProgram f (s.fieldUsed f.array) else s
  | some _ => s

/-- FIELD_REPAIR_PROGRAM: programming ends after 1,250 strides, and the entry is read back (R380, R381); not in Rest (R403). -/
def State.fieldProgram (s : State) (good : Bool) : State :=
  match s.rel.work with
  | some (f, .programming) =>
    if s.now < s.rel.workSince + 1250 ∨ s.modes.mode = .rest then s
    else
      let spare := s.rel.workNext
      let s := s.putField f spare (if good then 1 else 3)
      if s.rel.stopped then s.endWork
      else if good then s.setWork f .activating spare
      else if spare + 1 < 64 then s.startProgram f (spare + 1)
      else s.startRetire f
  | _ => s

/-- FIELD_REPAIR_ACTIVATE: at a stride boundary after the good read-back the spare row is in service (R380, step 4). -/
def State.fieldActivate (s : State) : State :=
  match s.rel.work with
  | some (f, .activating) =>
    if s.now ≤ s.rel.workSince ∨ s.modes.mode = .rest then s
    else (s.withRel { s.rel with spares := s.rel.spares ++ [.row f.array f.row] }).workDone f f.row 2
  | _ => s

/-- Add a record to the retirement map. -/
def State.retireRecord (s : State) (r : Retired) : State :=
  if s.rel.retired.contains r then s else s.withRel { s.rel with retired := s.rel.retired ++ [r] }

/-- Flush the next set of the group; answers whether the last one is done. -/
def State.flushGroup (s : State) (f : HardFault) (ways : List Nat) (c : Nat) : Bool × State :=
  let n := s.rel.workNext
  let (done, s) := if 1024 ≤ n then (true, s) else s.flushSet f.tier f.place.1 (f.grp * 1024 + n) ways c
  let n' := if done then n + 1 else n
  (decide (1024 ≤ n'), s.withRel { s.rel with workNext := n' })

/-- WAY_RETIREMENT: the way is flushed in the Maintenance slots of its slice, set by set, and recorded (R82, R382). -/
def State.wayRetirement (s : State) (sl cyc : Nat) : State :=
  if !s.modes.mode.service then s else
  match s.rel.work with
  | some (f, .retiring) =>
    match s.farrierSlot f sl cyc with
    | none => s
    | some s =>
    let (done, s) := s.flushGroup f [f.way] (s.now * 64 + cyc)
    if done then (s.retireRecord (.way f.tier f.place.1 f.grp f.way)).workDone f f.way 3 else s
  | _ => s

/-- A stage-4 action is complete: its record, and Degraded is due (R383, R384). -/
def State.stage4Done (s : State) (f : HardFault) : State :=
  let r : Retired := if f.tier = 2 then .way 2 f.place.1 f.grp f.way else .group f.tier f.place.1 f.grp
  ((s.retireRecord r).workDone f f.way 4).degradeDue f.array

/-- STAGE4_ACTION: the group, or a further directory way, is flushed in the Maintenance slots of its slice and recorded (R82, R383,
R384). -/
def State.stage4 (s : State) (sl cyc : Nat) : State :=
  if !s.modes.mode.service then s else
  match s.rel.work with
  | some (f, .stage4) =>
    if f.tier = 2 then
      if 8 ≤ (s.retiredWays 2 f.place.1 f.grp).length then
        (s.endWork).fatal 0x0F (some f.place.1) f.array
      else
        match s.farrierSlot f sl cyc with
        | none => s
        | some s =>
        let (done, s) := (s.setWork f .stage4 s.rel.workNext).flushGroup f [f.way] (s.now * 64 + cyc)
        if done then s.stage4Done f else s
    else
      match s.farrierSlot f sl cyc with
      | none => s
      | some s =>
      let (done, s) := (s.setWork f .stage4 s.rel.workNext).flushGroup f (List.range (if f.tier = 0 then 12 else 16))
        (s.now * 64 + cyc)
      if done then s.stage4Done f else s
  | _ => s

/-- A stage-4 action that ran in the stride in which a fatal fault was detected is completed before the containment sweep reads its
sets, where its slice is one that is fenced and swept (R398): its record is made, and the sweep writes out the lines that its flush has
not reached (R391). In another slice Farrier stops (R385). -/
def State.stage4Meets (s : State) (fenced : Nat → Bool) : State :=
  match s.rel.work with
  | some (f, .stage4) =>
    if fenced f.place.1 = true ∧ s.rel.workSince = s.rel.fatalAt ∧ ¬(f.tier = 2 ∧ 8 ≤ (s.retiredWays 2 f.place.1 f.grp).length) then s.stage4Done f else s
  | _ => s

/-- Farrier stops: queued faults are discarded, and work ends but for a programming write (R385). -/
def State.farrierStop (s : State) : State :=
  let s := s.withRel { s.rel with queue := [], stopped := true }
  match s.rel.work with
  | some (_, .programming) => s.farrier 4
  | _ => s.endWork

/-! ### Monitors -/

/-- Set a bit of CLOCK_MON_STATUS (Table 9.13). -/
def State.clockBit (s : State) (b : Nat) : State :=
  s.setObj Obj.clockMonStatus (s.obj Obj.clockMonStatus ||| ((1 : Reg) <<< b))

/-- The frequency monitors run from Bring-up onwards (R388). -/
def State.monitorsRun (s : State) : Bool :=
  match s.modes.mode with
  | .off | .keep | .reset => false
  | _ => true

/-- FCLK_OUT_OF_LIMIT: `count` FCLK cycles in 1,000 REFCLK cycles (R388, Table 9.9). -/
def State.fclkCount (s : State) (count : Nat) : State :=
  if s.monitorsRun && (decide (count < 19900) || decide (20100 < count)) then (s.clockBit 0).fatal 0x0C none 0xFF else s

/-- REFCLK_MISSING (R388). -/
def State.refclkLost (s : State) : State := if s.monitorsRun then (s.clockBit 1).fatal 0x0D none 0xFF else s

/-- The message is a CompData that answers the read: to its half, with its TAG and HTID (R390). -/
def IssuedRead.answeredBy (x : IssuedRead) : OutMsg → Bool
  | .compData h g ht _ _ _ _ => h == x.half && g == x.tag && ht == x.htid
  | _ => false

/-- A CompData that carries good data. -/
def OutMsg.goodData : OutMsg → Bool
  | .compData _ _ _ _ _ p _ => !p
  | _ => false

/-- A CompData with POISON = 1. -/
def OutMsg.poisoned : OutMsg → OutMsg
  | .compData h g ht gr pd _ d => .compData h g ht gr pd true d
  | m => m

/-- The CompData that answered a read is Poisoned: the last one that does. -/
def poisonLast (x : IssuedRead) : List OutMsg → List OutMsg
  | [] => []
  | m :: l => if x.answeredBy m && !l.any x.answeredBy then m.poisoned :: l else m :: poisonLast x l

/-- A write is issued again in the channel's next Maintenance slot (R82, R390). -/
def State.reissue (s : State) (ch : Nat) (e : Pwb) : State :=
  let w : Want := { kind := 3, row := 2 * ch, cls := Cls.mt, grp := 2, arrive := s.now * 64, dram := some (s.dram (e.line * 128)) }
  let (b, s) := s.serveWork 0 Leg.ddr5 w [2 * ch, 2 * ch + 1]
  (((s.dramWrite e.line e.keyid.toNat e.data e.poison).touchRow e.line b false).fixed 14 1).countU 0x701 ch 1

/-- The response that answered a read, at its port or sent, is Poisoned, and counted where it was not before (R377). -/
def State.poisonOut (s : State) (x : IssuedRead) : State :=
  let l := s.link x.half
  match ((l.outbox.map (·.2)) ++ s.sent).find? x.answeredBy with
  | none => s
  | some m =>
    let out := List.zipWith (fun (y : Nat × OutMsg) m => (y.1, m)) l.outbox (poisonLast x (l.outbox.map (·.2)))
    let s' : State := { s.setLink x.half { l with outbox := out } with sent := poisonLast x s.sent }
    if m.goodData then (s'.bump Obj.poisonServed).fixed 28 1 else s'

/-- The newest copy of a line, into which data were merged that the channel returned with POISON, becomes Poisoned (R377, R390). -/
def State.poisonNewest (s : State) (line : Nat) : State :=
  let ch := chanOf (line * 128)
  if s.linePoisoned line then s
  else
    match s.kernelHit line, s.huskSector line, s.pwbOf line with
    | some (w, k), _, _ => (s.loseKernel (ksetOf (line * 128)) w k line).notePoison line k.keyid.toNat 1
    | none, some (_, x), _ =>
      if x.st (lineIn (line * 128)) = .invalid then s
      else (s.setHuskState line .poisoned).notePoison line x.keyid.toNat 1
    | none, none, some e =>
      let l := (s.pwb ch).map fun y => if y.id = e.id then { y with poison := true } else y
      (s.withMem { s.mem with pwb := Assoc.putD s.mem.pwb ch [] l }).notePoison line e.keyid.toNat 1
    | none, none, none => s

/-- A clean fill of a line, staged or placed, goes: its data came from the channel with POISON, and DRAM still holds the line
(R124, R390). -/
def State.dropClean (s : State) (line : Nat) : State :=
  let kset := ksetOf (line * 128)
  let fill : Staged → Bool := fun e => e.kind == .cleanFill && e.line == line
  let s := s.withTiers { s.tiers with staging := s.tiers.staging.filter fun e => !fill e }
  match s.kernelHit line with
  | some (w, k) => if k.st = .clean ∧ (s.pendingBank kset w).isNone then s.setKtag kset w none else s
  | none => s

/-- A read issued in the alert window returns with POISON (R390): its answer is Poisoned, a fill of it does not stay, and what the home
merged it into is Poisoned. -/
def State.alertRead (s : State) (x : IssuedRead) : State :=
  let s := s.poisonOut x
  if x.merged then s.poisonNewest x.line else s.dropClean x.line

/-- CA_PARITY_ALERT: writes issued in this stride and the two before it are issued again, reads issued there return Poisoned, and the
third alert of an epoch loses the channel (R390). -/
def State.caAlert (s : State) (ch : Nat) : State :=
  let recent : Nat → Bool := fun t => decide (t ≤ s.now) && decide (s.now ≤ t + 2)
  let writes := (Assoc.getD s.mem.shadow ch []).filter fun x => recent x.1
  let s := writes.foldl (fun s x => s.reissue ch x.2) s
  let s := (s.mem.alerts.filter fun x => recent x.stride && x.chan == ch).foldl State.alertRead s
  let s := s.withMem { s.mem with alerts := s.mem.alerts.filter fun x => x.chan != ch || decide (s.now < x.stride) }
  let n : Nat := Assoc.getD s.rel.alertCount ch 0 + 1
  let s := (s.withRel { s.rel with alertCount := Assoc.put ch n s.rel.alertCount }).bump Obj.ddr5CaAlerts
  let s := s.raise 0xC4 [w64 ch, s.obj Obj.ddr5CaAlerts]
  if n = 3 then s.fatal 0x0E none ch else s

/-- PHY_CLOCK_FAULT (R388, R390, Table 9.9). -/
def State.phyFault (s : State) (u : PhyUnit) : State :=
  if !s.monitorsRun then s
  else
    let s := s.clockBit 2
    match u with
    | .agentLane h => if s.halfUp h.val then s.enterRetrain h.val else s
    | .huskPort p => s.capacityEvent p.val
    | .channel c lost => if lost then s.fatal 0x0E none c.val else s.caAlert c.val

/-- VOTE_MISMATCH: the voted value goes on (R386). -/
def State.voteMismatch (s : State) (timer : Bool) : State := s.fatal (if timer then 1 else 2) none 0xFF

/-- A gait bank's word is uncorrectable (Table 9.1). -/
def State.bankLost (s : State) (b : Nat) : State :=
  let s := s.noteUncorrectable 63
  if s.bankState b = 4 then s.fatal 0x0B none 0xFF
  else
    let s := if s.gait.armBank == some b then s.abortSwap 2 true else s
    if s.bankState b = 0 then s
    else
      let s := if s.bankState b = 1 ∨ s.bankState b = 6 then s.withGait { s.gait with loadDue := none } else s
      s.setBankState b 3

/-- UNCORRECTABLE_STATE_ERROR (R364, R387). -/
def State.stateError (s : State) (u : FatalUnit) : State :=
  match u with
  | .kernelTag sl => (s.noteUncorrectable (16 + sl.val)).fatal 5 (some sl.val) (16 + sl.val)
  | .huskTagLower sl => (s.noteUncorrectable (16 + sl.val)).fatal 6 (some sl.val) (32 + sl.val)
  | .directory sl => (s.noteUncorrectable (16 + sl.val)).fatal 7 (some sl.val) (48 + sl.val)
  | .tracker sl => (s.noteUncorrectable 62).fatal 8 (some sl.val) 0xFF
  | .bufferAddr => (s.noteUncorrectable 62).fatal 9 none 0xFF
  | .keyStore => (s.noteUncorrectable 63).fatal 0x0A none 0xFF
  | .gaitBank b => s.bankLost b.val
  | .ledgerParity => s.fatal 3 none 0xFF
  | .groomInstr => s.noteUncorrectable 63
  | .monitor h q => s.clearMonitor (queueId h.val q.val) Rsv.parity
  | .detector sl h q =>
    s.withTiers { s.tiers with streams := Assoc.drop (sl.val * 16384 + queueId h.val q.val) s.tiers.streams }
  | .comparator sl tier way => (s.retireRecord (.comparator tier.val sl.val way.val)).fatal 4 (some sl.val) 0xFF

/-! ### Contained mode -/

/-- Insert by order of joining the wait list. -/
def insertByJoin (t : Txn) : List Txn → List Txn
  | [] => [t]
  | u :: l => if t.join < u.join then t :: u :: l else u :: insertByJoin t l

/-- What entry to Contained does to a transaction of a fenced slice (R393): a read whose data has not left is answered, and
every other request not yet answered is to be served under Table 9.8. -/
def State.fenceTxn (s : State) (t : Txn) : State :=
  let c := s.now * 64
  let s := (t.snoops.filter Snp.joinedOpen).foldl (fun s x => match x.joined with
    | none => s
    | some j =>
      let q : Req := { opcode := if j.wb then 8 else 9, stream := j.stream, tag := j.tag, keyid := t.req.keyid, partid := j.partid,
                       addr := t.req.addr, data := j.data, poison := j.poison }
      let e : Txn := { id := j.id, slice := t.slice, tracker := none, half := some x.half, req := q, line := t.line,
                       phase := .admitted, entered := s.now, pwbReserved := j.wb }
      s.withHome { s.home with txns := s.home.txns ++ [e] }) s
  if t.job.isSome then s.dropRequest t
  else if t.phase == .active && (t.half.isNone || t.gone) then s.dropRequest t
  else if t.phase == .active && t.performed then s.updTxn t.id fun t => { t with snoops := [], backInv := none, needWay := false, record := none, dirWay := none }
  else if t.phase == .active && isRead t.req.op then
    ((s.sendData { t with grant := 0, pend := false } 0 true [Leg.outKernel, Leg.out] (c + 8)).2.sampleRecord t c).dropRequest t
  else
    s.updTxn t.id fun t => { t with phase := .admitted, snoops := [], base := none, todo := .nothing, arrive := 0,
                                    orderRefuse := false, needAck := false, backInv := none, needWay := false }

/-- Fence slices: their transactions and waiters, and their sweeps (R391, R393). -/
def State.fenceSlices (s : State) (l : List Nat) : State :=
  let s := (s.home.txns.filter fun t => l.contains t.slice).foldl (fun s t => s.fenceTxn t) s
  let waits : Txn → Bool := fun t => l.contains t.slice && t.join != 0 && t.phase == .admitted
  let w := (s.home.txns.filter waits).foldl (fun a t => insertByJoin t a) []
  let s := s.withHome { s.home with txns := (s.home.txns.filter fun t => !waits t) ++ w }
  let s := s.withRel { s.rel with sweep := l.foldl (fun m i => Assoc.put i 0 m) s.rel.sweep }
  if l.isEmpty then s else s.setNat Obj.containSweep 1

/-- CONTAIN_CAUSE of a fault (Table 9.13). -/
def causeWord (code : Nat) (slice : Option Nat) (detail : Nat) : Nat :=
  code <<< 16 + (match slice with | some i => i | none => 0xFF) <<< 8 + detail

/-- Slices that a fault fences (R389). -/
def faultSlices : Option Nat → List Nat
  | some i => [i]
  | none => List.range 16

/-- CONTAINED_ENTRY: at the first boundary after a fatal fault was detected (R389, Table 10.1). In a mode from which Contained
is not entered, the fault raises its alarm. -/
def State.containedEntry (s : State) : State :=
  match s.rel.fatal with
  | [] => s
  | (code, sl, d) :: more =>
    if s.now ≤ s.rel.fatalAt then s else
    let faults := (code, sl, d) :: more
    let cause := causeWord code sl d
    let s := s.withRel { s.rel with fatal := [] }
    let old := (s.obj Obj.fencedSlices).toNat
    let inContained := s.modes.mode == .contained
    let had := if inContained then old else 0
    let mask := faults.foldl (fun m f => (faultSlices f.2.1).foldl (fun m i => m ||| (1 <<< i)) m) had
    let fresh := (List.range 16).filter fun i => mask.testBit i && !had.testBit i
    if inContained then
      let s := s.setNat Obj.fencedSlices mask
      (s.fenceSlices fresh).raise 0xB0 [s.obj Obj.containCause, w64 mask]
    else if s.modes.mode.service || s.modes.mode == .rest then
      let s := (((s.endRequest 0x0B).abortSwap 0x0F true).abortDrain).stage4Meets (fun i => mask.testBit i) |>.farrierStop
      let s := if s.mem.selfRefresh then (s.withMem { s.mem with selfRefresh := false }).setChans 2 else s
      let s := (s.setNat Obj.containCause cause).setNat Obj.fencedSlices mask
      let s := (s.editPaddock 1 fun v => putBits v 63 32 cause).editPaddock 2 fun _ => s.time.stride
      let s := s.enterMode .contained
      (s.fenceSlices fresh).raise 0xB0 [w64 cause, w64 mask]
    else s.raise 0xB0 [w64 cause, 0]

/-- Lines of a set that the sweep writes out (R391): those of entries that decode; every entry that does not is counted. -/
def State.sweepKernel (s : State) (kset : Nat) (bad : List Nat) : State :=
  (List.range 12).foldl (fun s w =>
    match s.ktag kset w with
    | none => if bad.contains w then s.bump Obj.lostLines else s
    | some t =>
      let line := laOfK kset t.tag / 128
      let data := s.kernelData kset w
      let pend := match s.pendingBank kset w with | some e => s.dropStaged e.id | none => s
      let s' := pend.setKtag kset w none
      if bad.contains w then s'.bump Obj.lostLines
      else if t.st.owed then s'.placeUnreserved line t.keyid.toNat data (t.st == .poisoned)
      else s') s

/-- A victim for which a sector was held has no place any more (R561). -/
def State.releaseTarget (s : State) (hset w : Nat) : State :=
  s.withTiers { s.tiers with staging := s.tiers.staging.map fun e => if e.target = some (hset, w) then { e with target := none } else e }

/-- The same of a Husk set, whose lines are read out of their data ports; a victim on its way there is written out at the end (R391). -/
def State.sweepHusk (s : State) (hset : Nat) (bad : List Nat) : State :=
  (List.range 16).foldl (fun s w =>
    match s.sector hset w with
    | none => if bad.contains w then s.bump Obj.lostLines else s
    | some x =>
      let s' := (s.setSector hset w none).releaseTarget hset w
      if bad.contains w then s'.bump Obj.lostLines
      else x.owedLines.foldl (fun s' n =>
        let line := laOfH hset x.tag n / 128
        if (s.tiers.hull.any fun e => e.line == line && e.data.isSome) || (s.tiers.staging.any fun e =>
            e.target == some (hset, w) && e.line == line) then s'
        else
          let (bad, s') := s'.huskTake hset w n x Cls.ev
          s'.placeUnreserved line x.keyid.toNat (s.huskData hset w n) bad) s') s

/-- The end of a slice's sweep: its staged victims are written out, and its tiers are empty (R391). -/
def State.sweepEnd (s : State) (sl : Nat) : State :=
  let v := s.tiers.staging.filter fun (e : Staged) => e.slice == sl && e.kind == .victim
  let s := { s with
    tiers := { s.tiers with
      staging := s.tiers.staging.filter fun (e : Staged) => e.slice != sl || e.kind == StKind.placement,
      repl := s.tiers.repl.filter fun (r : Repl) => r.hset / 32768 != sl },
    rel := { s.rel with sweep := Assoc.drop sl s.rel.sweep } }
  let s := v.foldl (fun (s' : State) (e : Staged) => if e.st.owed then s'.placeUnreserved e.line e.keyid.toNat (s.stagedData e) (e.st == LState.poisoned) else s') s
  if s.rel.sweep.isEmpty then s.setNat Obj.containSweep 2 else s

/-- CONTAINMENT_SWEEP: the slice reads its next tag set, of which the ways `bad` do not decode (R391). -/
def State.containmentSweep (s : State) (sl : Nat) (bad : List Nat) : State :=
  match Assoc.find? sl s.rel.sweep with
  | none => s
  | some n =>
    let total := 8192 + (if s.kernelOnly then 0 else 32768)
    let s' := if n < 8192 then s.sweepKernel (sl * 8192 + n) bad else s.sweepHusk (sl * 32768 + (n - 8192)) bad
    let s' := s'.withRel { s'.rel with sweep := Assoc.put sl (n + 1) s'.rel.sweep }
    if total ≤ n + 1 then s'.sweepEnd sl else s'

/-! ### Meanings -/

/-- SCRUB_READ (R371 to R373). -/
def execScrubRead (kind : ScrubKind) (row : Fin 16) (slot : Fin 64) (err : ErrPattern) (s : State) :
    Host.Outcome State Fault Refusal := .next (s.scrubRead kind row.val slot.val err)

/-- CORRECTION_WRITE (R368). -/
def execCorrectionWrite (kind : ScrubKind) (row : Fin 16) (slot : Fin 64) (s : State) : Host.Outcome State Fault Refusal :=
  .next (s.correctionWrite kind row.val slot.val)

/-- CORRECTION_REREAD (R369). -/
def execCorrectionReread (kind : ScrubKind) (row : Fin 16) (slot : Fin 64) (err : ErrPattern) (s : State) :
    Host.Outcome State Fault Refusal := .next (s.correctionReread kind row.val slot.val err)

/-- BUCKET_LEAK (R375). -/
def execBucketLeak (b : Fin 64) (s : State) : Host.Outcome State Fault Refusal := .next (s.bucketLeak b.val)

/-- FARRIER_FLUSH (R380). -/
def execFarrierFlush (slice : Fin 16) (cyc : Fin 64) (s : State) : Host.Outcome State Fault Refusal :=
  .next (s.farrierFlush slice.val cyc.val)

/-- FIELD_REPAIR_PROGRAM (R380, R381). -/
def execFieldRepairProgram (readbackGood : Bool) (s : State) : Host.Outcome State Fault Refusal :=
  .next (s.fieldProgram readbackGood)

/-- FIELD_REPAIR_ACTIVATE (R380). -/
def execFieldRepairActivate (s : State) : Host.Outcome State Fault Refusal := .next s.fieldActivate

/-- WAY_RETIREMENT (R382). -/
def execWayRetirement (slice : Fin 16) (cyc : Fin 64) (s : State) : Host.Outcome State Fault Refusal :=
  .next (s.wayRetirement slice.val cyc.val)

/-- STAGE4_ACTION (R383, R384). -/
def execStage4Action (slice : Fin 16) (cyc : Fin 64) (s : State) : Host.Outcome State Fault Refusal :=
  .next (s.stage4 slice.val cyc.val)

/-- VOTE_MISMATCH (R386): whichever copy differs. -/
def execVoteMismatch (timer : Bool) (_copy : Fin 3) (s : State) : Host.Outcome State Fault Refusal :=
  .next (s.voteMismatch timer)

/-- FCLK_OUT_OF_LIMIT (R388). -/
def execFclkOutOfLimit (count : Nat) (s : State) : Host.Outcome State Fault Refusal := .next (s.fclkCount count)

/-- REFCLK_MISSING (R388). -/
def execRefclkMissing (s : State) : Host.Outcome State Fault Refusal := .next s.refclkLost

/-- PHY_CLOCK_FAULT (R388). -/
def execPhyClockFault (u : PhyUnit) (s : State) : Host.Outcome State Fault Refusal := .next (s.phyFault u)

/-- CA_PARITY_ALERT (R390). -/
def execCaParityAlert (chan : Fin 12) (s : State) : Host.Outcome State Fault Refusal := .next (s.caAlert chan.val)

/-- CONTAINED_ENTRY (R389). -/
def execContainedEntry (s : State) : Host.Outcome State Fault Refusal := .next s.containedEntry

/-- CONTAINMENT_SWEEP (R391). -/
def execContainmentSweep (slice : Fin 16) (bad : List Nat) (s : State) : Host.Outcome State Fault Refusal :=
  .next (s.containmentSweep slice.val bad)

end Sys2Proof.Machine
end

