-- ==== Sys2Proof/Machine/GroomCtl.lean ====
section
/-!
DEFINITION. Control of Groom (14): operator images and their checks (R532, R533, Table 14.8), restarts and loading
(R515, R534), stopping and the watchdog (R531, R535), and the release of dictionary locks that both need (R449, R450).
-/
namespace Sys2Proof.Machine

/-- Locks whose holder satisfies `p` are freed with a result, and their staged writes are discarded (R449, R450). -/
def State.dropLocks (s : State) (p : Level → Bool) (result : Nat) : State :=
  let free : Nat × Lock → Nat × Lock := fun (a, l) => match l.holder with
    | some v => if p v then (a, { result := result }) else (a, l)
    | none => (a, l)
  (s.withDict { s.dict with locks := s.dict.locks.map free })

/-! ### Images -/

/-- Bytes `lo` to `lo + n - 1` of an image. -/
def imgBytes (segs : List (BitVec 64)) (lo n : Nat) : List Nat := (List.range n).map fun i => imgByte segs (lo + i)

/-- Check 0x01 of an operator image (Table 14.6). -/
def imageShape (segs : List (BitVec 64)) : Bool :=
  let f := imgNum segs
  let isize := f 8 4
  let dsize := f 12 4
  let entry := f 16 4
  decide (8 * segs.length = 512 + isize + dsize) && f 0 4 == 0x4D4F5247 && f 5 1 == 1 && f 6 2 == 512
    && isize % 8 == 0 && decide (isize ≤ 131072) && dsize % 8 == 0 && decide (dsize ≤ 131072)
    && entry % 4 == 0 && decide (entry < isize)
    && (imgBytes segs 0x1A 38).all (· == 0) && (imgBytes segs 0x100 256).all (· == 0)

/-- The first check of Table 14.8 that an image fails, 0 where none does. -/
def State.imageCheck (s : State) (segs : List (BitVec 64)) : Nat :=
  if !imageShape segs then 1
  else
    match s.fuse.keyHash with
    | none => 2
    | some h =>
      if Config.sha384 (imgBytes segs 0x40 96) ≠ h then 3
      else if !Config.ecdsaVerify (imgBytes segs 0 (8 * segs.length)) then 4
      else if imgNum segs 0x18 2 < s.fuse.minSvn.toNat then 5
      else 0

/-- Set STAGE_STATUS (Table 14.10). -/
def State.stageStatus (s : State) (v : Nat) : State := s.setNat Obj.stageStatus v

/-- Replace the staged image. -/
def State.setStage (s : State) (l : List (BitVec 64)) : State :=
  s.withGroom { s.groom with stage := l, stageDue := none }

/-! ### Loading and restarts -/

/-- The debug port may act on Groom (R536). -/
def State.debugOn (s : State) : Bool := s.eff Obj.groomDebugAllow == 1

/-- Groom halts: a watchdog expiry that coincides clears the count, and otherwise the count stands still (R531, R538, R540; log entry
155). -/
def State.haltAt (s : State) : State :=
  let dog := if s.groom.run = .running ∧ s.eff Obj.groomWatchdog ≤ s.groom.dog then 0 else s.groom.dog
  s.withGroom { s.groom with run := .halted, haltWanted := false, dog := dog }

/-- Byte memory from 8-byte segments, from `a`, little-endian. -/
def loadSegs : Nat → List (BitVec 64) → List Host.Cell → List Host.Cell
  | _, [], m => m
  | a, v :: l, m => loadSegs (a + 8) l (memWrite a v.toNat 8 m)

/-- Groom's clock starts: in which Groom cycle of the stride is a free value (log entry 162). -/
def State.clockStarts (s : State) : State :=
  let (c, s) := s.draw 5
  s.withGroom { s.groom with spent := c.toNat }

/-- An instruction has ended: a halt that waits, or a breakpoint at the next instruction, is taken, but not before a delay slot
(R536, R537). -/
def State.groomArrive (s : State) : State :=
  if s.groom.run = .running ∧ s.groom.slot = .none then
    if s.groom.haltWanted || (s.debugOn && s.groom.breaks.any fun b => b.2 == s.groom.pc) then
      s.haltAt
    else s
  else s

/-- An image starts (R515); a breakpoint at its ENTRY is taken (R537). -/
def State.startImage (s : State) (code data : List (BitVec 64)) (entry : Nat) (version : Reg) (staged : Bool) : State :=
  let g := s.groom
  let fresh : Groom := { run := .running, pc := BitVec.ofNat 32 entry, stage := g.stage, breaks := g.breaks, restarts := g.restarts }
  let fresh := { fresh with stageDue := g.stageDue, isram := loadSegs 0 code [], dsram := loadSegs 0x10000000 data [] }
  let s := s.withGroom fresh
  (((s.setNat Obj.groomRunningImage (if staged then 1 else 0)).setObj Obj.groomImageVersion version).clockStarts).groomArrive

/-- GROOM_LOAD_DONE: the image that the restart chose runs, or Groom enters AUTH_FAILED (R534). -/
def State.groomLoadDone (s : State) : State :=
  match s.groom.run with
  | .loading => s.startImage Config.groomRomInstr Config.groomRomData Config.groomRomEntry.toNat (Config.groomRomVersion.setWidth 64) false
  | .authenticating =>
    let segs := s.groom.stage
    match s.imageCheck segs with
    | 0 =>
      let isize := imgNum segs 8 4
      let rest := segs.drop 64
      s.startImage (rest.take (isize / 8)) (rest.drop (isize / 8)) (imgNum segs 16 4) (BitVec.ofNat 64 (imgNum segs 20 4)) true
    | n => (s.withGroom { s.groom with run := .authFailed }).setNat Obj.groomAuthResult n
  | _ => s

/-- A restart (R534, R535): counted, unless it answers a reset or a GROOM_COMMAND; the fourth counted one in a row faults. It loads the
image that GROOM_IMAGE_SELECT was last written to select, in this stride too (Table 14.10, R540). -/
def State.groomRestart (s : State) (counted : Bool) : State :=
  let s := s.dropLocks (· == .groom) 2
  let s := if counted then s.bump Obj.groomRestarts else s
  let n := if counted then s.groom.restarts + 1 else 0
  let staged := s.obj Obj.groomImageSelect == 1
  let g := s.groom
  let fresh : Groom := { run := if staged then .authenticating else .loading, stage := g.stage, breaks := g.breaks, restarts := n }
  let fresh := { fresh with stageDue := g.stageDue, loadStaged := staged }
  if 4 ≤ n then s.withGroom { fresh with run := .faulted } else s.withGroom fresh

/-- GROOM_COMMAND's own rule. -/
def State.ownGroomCommand (v : Nat) (s : State) : Nat × State :=
  if v % 256 = 1 then (0, s.groomRestart false)
  else
    let s := s.dropLocks (· == .groom) 2
    (0, s.withGroom { s.groom with run := .stopped, slot := .none, restarts := 0, dog := 0 })

/-- GROOM_WATCHDOG_EXPIRY (R531); where a halt waits for the end of a delay slot, the count is cleared instead (R540). -/
def State.groomDog (s : State) : State :=
  if s.groom.run = .running ∧ s.eff Obj.groomWatchdog ≤ s.groom.dog then
    (if s.groom.haltWanted then s.withGroom { s.groom with dog := 0 } else s.groomRestart true)
  else s

/-- An uncorrectable word (R364, Table 9.1): one that Groom fetches from its I-SRAM restarts it (R534). -/
def State.wordLost (s : State) (u : FatalUnit) : State :=
  let s' := s.stateError u
  if u = .groomInstr ∧ s.groom.run = .running then s'.groomRestart true else s'

/-! ### Staging -/

/-- BEGIN (R533); a restart that is copying the staged image completes its copy first (R540). -/
def State.ownStageBegin (s : State) : Nat × State :=
  let s := if s.groom.run = .authenticating then s.groomLoadDone else s
  (0, (s.setStage []).stageStatus 1)

/-- STAGE_IMAGE: eight bytes appended (R533, R438). -/
def State.ownStageImage (v : Reg) (s : State) : Nat × State :=
  if s.obj Obj.stageStatus ≠ 1 then (Ref.state, s)
  else if 32832 ≤ s.groom.stage.length then (Ref.length, s)
  else (0, s.withGroom { s.groom with stage := s.groom.stage ++ [v] })

/-- CHECK (R533). -/
def State.ownStageCheck (s : State) : Nat × State :=
  if s.obj Obj.stageStatus ≠ 1 then (Ref.state, s)
  else (0, (s.withGroom { s.groom with stageDue := some (s.now + 62500) }).stageStatus 2)

/-- ABANDON (R533). -/
def State.ownStageAbandon (s : State) : Nat × State := (0, (s.setStage []).stageStatus 0)

/-- STAGE_COMMAND by its code. -/
def State.ownStageCommand (v : Nat) (s : State) : Nat × State :=
  match v % 256 with
  | 1 => s.ownStageBegin
  | 2 => s.ownStageCheck
  | _ => s.ownStageAbandon

/-- STAGE_CHECK_DONE (R533). -/
def State.stageCheckDone (s : State) : State :=
  if s.obj Obj.stageStatus ≠ 2 then s
  else
    let n := s.imageCheck s.groom.stage
    let s := s.withGroom { s.groom with stageDue := none }
    (s.setNat Obj.groomAuthResult n).stageStatus (if n = 0 then 3 else 4)

/-! ### The debug port -/

/-- A halt is taken at an instruction boundary: not before a delay slot, and not before a WAITE has returned (R537). -/
def State.groomHalt (s : State) : State :=
  match s.groom.run, s.groom.slot with
  | .running, .none => s.haltAt
  | .running, _ => s.withGroom { s.groom with haltWanted := true }
  | .waite, _ => s.withGroom { s.groom with haltWanted := true }
  | _, _ => s

/-- The port resumes Groom (R536). -/
def State.groomResume (s : State) : State :=
  if s.groom.run = .halted then
    let s := s.clockStarts
    s.withGroom { s.groom with run := .running }
  else s

/-! ### Meanings -/

/-- GROOM_RESTART (R534). -/
def execGroomRestart (lvl : Level) (s : State) : Host.Outcome State Fault Refusal :=
  .next (s.writeWith lvl Obj.groomCommand 1 (State.ownGroomCommand 1))

/-- GROOM_STOP (R535). -/
def execGroomStop (lvl : Level) (s : State) : Host.Outcome State Fault Refusal :=
  .next (s.writeWith lvl Obj.groomCommand 2 (State.ownGroomCommand 2))

/-- GROOM_WATCHDOG_EXPIRY (R531). -/
def execGroomWatchdogExpiry (s : State) : Host.Outcome State Fault Refusal := .next s.groomDog

/-- GROOM_LOAD_DONE (R534). -/
def execGroomLoadDone (s : State) : Host.Outcome State Fault Refusal := .next s.groomLoadDone

/-- UNCORRECTABLE_STATE_ERROR (R364, R534). -/
def execUncorrectableStateError (u : FatalUnit) (s : State) : Host.Outcome State Fault Refusal := .next (s.wordLost u)

/-- STAGE_BEGIN (R533, R540). -/
def execStageBegin (lvl : Level) (s : State) : Host.Outcome State Fault Refusal :=
  .next (s.writeWith lvl Obj.stageCommand 1 State.ownStageBegin)

/-- STAGE_IMAGE_APPEND (R533). -/
def execStageImageAppend (lvl : Level) (v : Reg) (s : State) : Host.Outcome State Fault Refusal :=
  .next (s.writeWith lvl Obj.stageImage v.toNat (State.ownStageImage v))

/-- STAGE_CHECK (R533). -/
def execStageCheck (lvl : Level) (s : State) : Host.Outcome State Fault Refusal :=
  .next (s.writeWith lvl Obj.stageCommand 2 State.ownStageCheck)

/-- STAGE_ABANDON (R533). -/
def execStageAbandon (lvl : Level) (s : State) : Host.Outcome State Fault Refusal :=
  .next (s.writeWith lvl Obj.stageCommand 3 State.ownStageAbandon)

/-- STAGE_CHECK_DONE (R533). -/
def execStageCheckDone (s : State) : Host.Outcome State Fault Refusal := .next s.stageCheckDone

/-- GROOM_HALT by the debug port (R536, R537). -/
def execGroomHalt (s : State) : Host.Outcome State Fault Refusal := .next (if s.debugOn then s.groomHalt else s)

/-- GROOM_RESUME (R536). -/
def execGroomResume (s : State) : Host.Outcome State Fault Refusal := .next (if s.debugOn then s.groomResume else s)

end Sys2Proof.Machine
end

