-- ==== Sys2Proof/Machine/Modes.lean ====
section
/-!
DEFINITION. Mode requests (R399 to R402), Rest (R403 to R405), the stop and recall phases (R404, Table 10.4), the Drain
walk (R406, R407) and the phases of a Settle (R411, R412, R559).
-/
namespace Sys2Proof.Machine

/-! ### Requests -/

/-- Pairs of Table 10.1 whose trigger is a request (check 1 of R400). -/
def requestPair (cur nxt : Mode) : Bool :=
  (cur.service && (nxt.service || nxt == .rest)) || (cur == .rest && nxt.service) || (cur == .drain && nxt == .keep)
    || (cur == .bringup && nxt == .test)

/-- A gait swap is COMMITTED (Table 2.14). -/
def State.swapCommitted (s : State) : Bool := s.obj Obj.gaitSwapState == 3

/-- The active gait lists a service mode (R96). -/
def State.gaitLists (s : State) (m : Mode) : Bool :=
  match s.activeGait with
  | some g => g.modeMask.testBit m.maskBit
  | none => false

/-- A transition is in progress (check 3 of R400). -/
def State.inTransition (s : State) : Bool :=
  s.modes.trans.isSome || s.modes.testWanted || s.modes.settleWanted || decide (s.modes.settle ≠ 0)

/-- The checks of R400 in order: the first failure's MODE_RESULT, 0 where all pass. A request that falls in the stride of a Settle ends
with RESET, whichever came first (R402). -/
def State.requestCheck (s : State) (lvl : Level) (dest : Mode) : Nat :=
  if !requestPair s.modes.mode dest then 3
  else if (dest == .keep || dest == .test) && lvl != .board then 4
  else if s.modes.resetAt == some s.now then 0x0C
  else if s.inTransition then 5
  else if dest.service && !s.gaitLists dest then 6
  else if (s.obj Obj.reduced == 1 && (dest == .normal || dest == .partitioned))
      || (s.obj Obj.reduced == 0 && dest == .degraded) then 7
  else if dest == .keep && s.obj Obj.drainDone == 0 then 8
  else if dest == .test && !s.pkg.sampled.toNat.testBit 26 then 9
  else 0

/-- Start a requested transition. -/
def State.startRequest (s : State) (dest : Mode) : State :=
  let t : Option Trans := match dest with
    | .rest => some .restStop
    | .keep => some .keepStop
    | .test => none
    | m => if s.modes.mode = .rest then some (.restExit m) else some (.service m)
  (s.withModes { s.modes with trans := t, asked := true, begun := s.now, recalling := false, testWanted := dest == .test })

/-- MODE_REQUEST's own rule (R399, R400, R402). -/
def State.ownModeRequest (lvl : Level) (v : Nat) (s : State) : Nat × State :=
  let v := v % 256
  match Mode.ofCode v with
  | none => (Ref.range, s)
  | some dest =>
    match s.requestCheck lvl dest with
    | 0 => (0, ((s.setNat Obj.modeRequest v).setNat Obj.modeResult 1).startRequest dest)
    | 0x0C => (0, (s.setNat Obj.modeRequest v).setNat Obj.modeResult 0x0C)
    | r => (Ref.state, (s.setNat Obj.modeResult r).bump Obj.modeRefusals)

/-- A mode request of a level. -/
def State.modeRequest (s : State) (lvl : Level) (m : Mode) : State :=
  s.writeWith lvl Obj.modeRequest m.code (State.ownModeRequest lvl m.code)

/-- MODE_TRANSITION: at a boundary after the request, unless a committed swap holds it; the gait then in force is asked
again (R95, R401). A fatal fault goes first (R402). -/
def State.modeTransition (s : State) : State :=
  match s.modes.trans with
  | some (.service m) =>
    if s.now ≤ s.modes.begun || s.swapCommitted || !s.rel.fatal.isEmpty then s
    else if s.gaitLists m then s.completeRequest m
    else (s.endRequest 6).bump Obj.modeRefusals
  | _ => s

/-! ### Stopping -/

/-- The stop phase under way has begun at a boundary and refuses requests (R403, Table 10.4). -/
def State.stopping (s : State) : Bool :=
  match s.modes.trans with
  | some .restStop | some .keepStop => decide (s.modes.begun < s.now)
  | _ => decide (2 ≤ s.modes.settle) || (s.modes.settle == 1 && decide (s.modes.settleSince < s.now))

/-- Every open transaction has ended; home work that waits on a line is none. -/
def State.quiet (s : State) : Bool := s.home.txns.all fun t => t.job.isSome

/-- A transaction that is open at the end of the stop phase ends: its requester receives Error-Timeout unless it has been served
already, and every snoop it awaits takes its timeout outcome (R404), which serves the requester no more. -/
def State.forceEnd (s : State) (t : Txn) : State :=
  let c := s.now * 64
  let s := s.bump Obj.settleForced
  let lost : Snp → Bool := fun x => x.passed && !s.fwdGone t x c
  let s := t.snoops.foldl (fun s x => if lost x then s.recallFwd t x else s) s
  let t := (s.txn t.id).getD t
  let s := if t.performed || t.half.isNone || t.gone then s else (s.returnDat t).fail t Op.errTimeout c
  let s := s.updTxn t.id fun u =>
    let u := { u with needWay := false, waitBack := false, backInv := none }
    if t.performed then u
    else
      let u : Txn := { u with performed := true, todo := .nothing, needAck := false, pend := false, pwbReserved := false,
                              stagingReserved := false }
      if isRead t.req.op then u.clearBit (t.half.getD 0) else u
  let s := t.snoops.foldl (fun s x =>
    if x.retired then s
    else match x.answer with
      | some .crossing => if x.joined.isSome then s.retireAnswer t.id x c else s.timeoutSnoop t.id x.half 3 c
      | some _ => s.retireAnswer t.id x c
      | none => s.timeoutSnoop t.id x.half 3 c) s
  match s.txn t.id with
  | some t => if t.phase = .active then s.endTxn t c else s.dropRequest t
  | none => s

/-- Every open transaction is forced to end. -/
def State.forceAll (s : State) : State := s.home.txns.foldl (fun s t =>
  match s.txn t.id with
  | some t => if t.job.isSome then s else s.forceEnd t
  | none => s) s

/-- STOP_LIMIT_EXPIRY: the stop phase, counted from its boundary, has lasted STOP_LIMIT strides (R404). -/
def State.stopLimitExpiry (s : State) : State :=
  let late : Nat → Bool := fun begun => decide (begun + 1 + s.eff Obj.stopLimit ≤ s.now)
  match s.modes.trans with
  | some .restStop => if late s.modes.begun && !s.quiet then s.endRequest 0x0A else s
  | some .keepStop => if late s.modes.begun && !s.modes.recalling && !s.quiet then s.forceAll else s
  | _ => if s.modes.settle = 1 ∧ late s.modes.settleSince ∧ !s.quiet then s.forceAll else s

/-! ### Rest -/

/-- REST_ENTRY_DONE: with every transaction ended, the stores are in self-refresh, as CHAN_STATE tells (Table 8.7), and the mode is
Rest (R403). No stride of Rest is misaligned: a run of such strides ends (R41). A fatal fault goes first (R402). -/
def State.restEntryDone (s : State) : State :=
  match s.modes.trans with
  | some .restStop =>
    if s.now ≤ s.modes.begun || s.swapCommitted || !s.quiet || !s.rel.fatal.isEmpty then s
    else ((s.withMem { s.mem with selfRefresh := true }).setChans 3).completeRequest .rest |>.withTime { s.time with bad := 0 }
  | _ => s

/-- An agent request that arrives in Rest wakes the device (R405). -/
def State.restWake (s : State) : State :=
  if s.modes.mode = .rest ∧ s.modes.trans = none ∧ s.eff Obj.restWakeOnReq = 1 then
    match Mode.ofCode (s.obj Obj.modePrevious).toNat with
    | some m => s.withModes { s.modes with trans := some (.restExit m), asked := false, begun := s.now }
    | none => s
  else s

/-! ### The phases of a Settle -/

/-- Phase 1 of a Settle begins: swaps that are not committed, held partition values and drains end, Farrier's queue is discarded
(R95, R149, R355, R385, R411). -/
def State.beginSettle (s : State) : State :=
  let s := (((s.abortSwap 0x0E false).discardHeld).abortDrain).farrierStop
  (s.withModes { s.modes with settle := 1, settleSince := s.now, settleWanted := false })

/-- A held Settle proceeds once the committed swap has switched, or has ended on entry to Contained (R95, R411). -/
def State.settleHeld (s : State) : State :=
  let ready := s.modes.mode.service || s.modes.mode == .contained
  if s.modes.settleWanted && ready && !s.swapCommitted then s.beginSettle else s

/-- At a boundary, the stop phase of a request written while a swap is COMMITTED has not begun: it waits for the switch (R95). -/
def State.holdRequest (s : State) : State :=
  match s.modes.trans with
  | some .restStop | some .keepStop =>
    if s.swapCommitted && s.modes.begun + 1 == s.now then s.withModes { s.modes with begun := s.now } else s
  | _ => s

/-- REST_EXIT: the stores have left self-refresh, and the mode takes effect; a Settle that waited begins (R405, R411). -/
def State.restExit (s : State) : State :=
  match s.modes.trans with
  | some (.restExit m) =>
    if s.now ≤ s.modes.begun || s.modes.mode != .rest || !s.rel.fatal.isEmpty then s
    else (((s.withMem { s.mem with selfRefresh := false }).setChans 2).completeRequest m).settleHeld
  | _ => s

/-- Slices that a Settle leaves out of Recall and Drain: those fenced in Contained (R411). -/
def State.skips (s : State) (sl : Nat) : Bool := s.modes.mode == .contained && (s.obj Obj.fencedSlices).toNat.testBit sl

/-- A Recall walk runs (Table 10.4, R416). -/
def State.recalls (s : State) : Bool := s.modes.settle == 2 || (s.modes.trans == some .keepStop && s.modes.recalling)

/-- The Recall walk has passed every set, and every back-invalidation has ended. -/
def State.recalled (s : State) : Bool :=
  s.quiet && (List.range 16).all fun sl => s.skips sl ||
    (Assoc.getD s.modes.recallNext sl 0 == 16384 && s.home.dir.all fun x => x.1 / 262144 != sl)

/-- One slice's Recall walk of a stride: the entries of its next 64 sets are back-invalidated (Table 10.4, R175). -/
def State.recallSlice (s : State) (sl : Nat) : State :=
  let n := Assoc.getD s.modes.recallNext sl 0
  if s.skips sl || decide (16384 ≤ n) then s
  else
    let here := s.home.dir.filter fun x => x.1 / 262144 == sl && decide (n ≤ x.1 / 16 % 16384) && decide (x.1 / 16 % 16384 < n + 64)
    let s := here.foldl (fun s x => if x.2.blocked then s else (s.openBackInv (x.1 / 16) (x.1 % 16) x.2 (s.now * 64)).2) s
    (s.withModes { s.modes with recallNext := Assoc.put sl (n + 64) s.modes.recallNext })

/-- What a stride boundary does for a Recall; Keep entry reaches it when its stop phase is over (R416). -/
def State.recallStride (s : State) : State :=
  let s := if s.modes.trans = some .keepStop ∧ s.modes.begun < s.now ∧ s.modes.recalling = false ∧ s.quiet then
      s.withModes { s.modes with recalling := true, recallNext := [] }
    else s
  if s.recalls then (List.range 16).foldl (fun s sl => s.recallSlice sl) s else s

/-- SETTLE_STOP_DONE: every open transaction has ended (R411). -/
def State.settleStopDone (s : State) : State :=
  if s.modes.settle = 1 ∧ s.modes.settleSince < s.now ∧ s.quiet then
    s.withModes { s.modes with settle := 2, recallNext := [] }
  else s

/-- SETTLE_RECALL_DONE: the data path changes to the drain schedule (R411). -/
def State.settleRecallDone (s : State) : State :=
  if s.modes.settle = 2 ∧ s.recalled then s.withModes { s.modes with settle := 3 } else s

/-- One line is written to DRAM and counted. -/
def State.writeOut (s : State) (line keyid : Nat) (data : Line) (poison : Bool) : State :=
  ((s.dramWrite line keyid data poison).fixed 14 1).countU 0x701 (chanOf (line * 128)) 1

/-- Insert a buffer entry by its order of entry. -/
def insertById (e : Pwb) : List Pwb → List Pwb
  | [] => [e]
  | u :: l => if e.id < u.id then e :: u :: l else u :: insertById e l

/-- Buffer and Hull entries in their order of entry. -/
def State.buffered (s : State) : List Pwb :=
  let hull := s.tiers.hull.map fun h =>
    ({ line := h.line, keyid := h.keyid, data := s.hullData h, poison := h.poison, demand := false, reserved := false, id := h.id } : Pwb)
  (s.mem.pwb.flatMap (·.2) ++ hull).foldl (fun l e => insertById e l) []

/-- Every Dirty and Poisoned line is written to DRAM, older copies of a line first (Table 10.4, R416). -/
def State.writeDirty (s : State) : State :=
  let skip : Nat → Bool := fun line => s.skips (sliceOf (line * 128))
  let coming : Nat → Nat → Nat → Bool := fun h w line => s.tiers.staging.any fun e => e.target == some (h, w) && e.line == line
  let a := s.buffered.foldl (fun a e => a.writeOut e.line e.keyid.toNat e.data e.poison) s
  let a := s.tiers.sectors.foldl (fun a x => x.2.owedLines.foldl (fun a n =>
    let (h, w) := (x.1 / 16, x.1 % 16)
    let line := laOfH h x.2.tag n / 128
    if skip line || coming h w line then a
    else
      let (bad, a) := a.huskChecked h w n x.2
      a.writeOut line x.2.keyid.toNat (s.huskData h w n) bad) a) a
  let a := s.tiers.staging.foldl (fun a e =>
    if (e.kind == .victim || e.kind == .placement) && e.st.owed && !skip e.line then a.writeOut e.line e.keyid.toNat (s.stagedData e) (e.st == .poisoned) else a) a
  s.tiers.ktags.foldl (fun a x =>
    let line := laOfK (x.1 / 12) x.2.tag / 128
    if x.2.st.owed && !skip line then a.writeOut line x.2.keyid.toNat (s.kernelData (x.1 / 12) (x.1 % 12)) (x.2.st == .poisoned)
    else a) a

/-- The tiers and the buffers of the data path are empty; the LFSRs keep their values. -/
def State.emptyTiers (s : State) : State :=
  { s with tiers := { lfsr := s.tiers.lfsr, nextId := s.tiers.nextId }, home := { nextId := s.home.nextId },
           mem := { s.mem with pwb := [], openRows := [], refresh := [], shadow := [], alerts := [], drain := none } }

/-- Objects that the entry to Bring-up after a Settle's phases returns to their defaults (R559). -/
def settleClears (k : Nat) : Bool :=
  let i := k / 256
  let area := areaOf k
  if k = Obj.notHomeCount ∨ k = Obj.modeRefusals ∨ k = Obj.settleIgnored then true
  else if ([2, 3, 4, 5, 6, 7, 9, 0xC].contains area) == false then false
  else if [0x2101, 0x2102, 0x2103, 0x7003, 0xC001].contains i && k != Obj.ddr5CaAlerts then false
  else if [Obj.gaitLoadOffset, Obj.gaitLoadStatus, Obj.gaitRejectDetail, Obj.gaitLoadErrors, Obj.gaitPrevious, Obj.containCause,
      Obj.fencedSlices, Obj.lostLines].contains k then false
  else
    match objRow k with
    | none => false
    | some r =>
      let written := r.board == .rw || r.host == .rw || r.guest == .rw || r.groom == .rw
      !written || (0x9100 ≤ i && i ≤ 0x910F) || i == 0x9140 || i == 0x9141

/-- Accepted writes that await a boundary are in force. -/
def State.applyPending (s : State) : State :=
  let s' := s.dict.pending.foldl (fun s x => s.setEff x.1 x.2) s
  (s'.withDict { s'.dict with pending := [] })

/-- The dictionary at the entry to Bring-up after a Settle (R408, R443, R559), held partition values discarded (R149). SYNC_LOST is among what it clears: R559 names the
entry to Bring-up, R42 the success of the alignment (DESIGN CHOICE, log entry 127: the entry). -/
def State.settleDict (s : State) : State :=
  let s := s.applyPending
  let keep : Nat × Reg → Bool := fun x => !settleClears x.1
  (s.withDict { s.dict with vals := s.dict.vals.filter keep, fallback := s.dict.fallback.filter keep, holding := [],
                                 snapTake := false, snapClear := false, frozen := none,
                                 partHeld := [], partDue := [] })

/-- At an entry to Bring-up the Paddock's CHECK is checked (R414). -/
def State.paddockVerify (s : State) : State :=
  if ((s.modes.paddock.getD 3 0).toNat % 256 == paddockCheck s.modes.paddock) then s
  else (s.withModes { s.modes with causeOpen := false }).paddockReset 8

/-- Runtime of reliability and counters that no reset keeps; the field-repair area, the retirement map and Farrier's work on
an entry under programming stay as they are (Table 10.2, R385). -/
def State.clearRuntime (s : State) : State :=
  let r : Rel := { field := s.rel.field, retired := s.rel.retired }
  { s with rel := r, pmu := {} }

/-- Times counted in strides are carried over to a stride count that starts again at zero. -/
def State.rebase (s : State) : State :=
  let n := s.now
  { s with gait := { s.gait with loadDue := s.gait.loadDue.map (· - n) },
           irq := { s.irq with restartAt := s.irq.restartAt.map fun x => (x.1, x.2 - n) },
           groom := { s.groom with stageDue := s.groom.stageDue.map (· - n) }, modes := { s.modes with resetAt := none }, time := {} }

/-- An arm that a reset drops returns its bank to ACCEPTED (R62). -/
def State.dropArm (s : State) : State :=
  match s.gait.armBank with
  | some b => if s.bankState b = 5 then s.setBankState b 2 else s
  | none => s

/-- SETTLE_DRAIN_DONE: every owed line is in DRAM; phase 4 places the ranks in self-refresh, resets the links and enters
Bring-up at step 2 (Table 10.4, Table 10.2, R559). DESIGN CHOICE (log entry 148): a swap armed or committed after the phases began ends
here, with no result of its own; its bank is ACCEPTED again (R62). -/
def State.settleDrainDone (s : State) : State :=
  if s.modes.settle ≠ 3 ∨ !s.rel.sweep.isEmpty then s
  else
    let s := (s.writeDirty.emptyTiers.keyEffect).clearRuntime.dropArm
    let s := (List.range 16).foldl (fun s p => s.resetPort p) s
    let s := { s with home := { nextId := s.home.nextId },
                      ports := { links := s.ports.links, split := s.ports.split },
                      mem := { s.mem with selfRefresh := true, material := [], keyPending := none, keyAwaits := [] },
                      gait := { s.gait with ledger := [], armBank := none, switchAt := none, shadow := [] } }
    let s := s.settleDict.rebase.setChans 3
    let s := s.withModes { s.modes with settle := 4, steps := 2, cold := false, wake := false, overtime := 0, testWanted := false }
    s.paddockVerify.enterMode .bringup

/-- A Settle arrives with a cause (R402, R411, R415, R450). In Bring-up, which restarts at step 2, a follower's alignment restarts
too (R40, R43), and key material that waits is cleared (R359). In Rest it waits for the exit, and a swap that is pending or armed ends
at once (R95). -/
def State.settleReset (s : State) (cause : Nat) : State :=
  let m := s.modes
  let busy := m.settleWanted || (decide (m.settle ≠ 0) && m.mode != .bringup)
  let s' := ((s.recordCause cause).endRequest 0x0C).dropLocks (fun _ => true) 2
  let s' := s'.withModes { s'.modes with resetAt := if s.timerRuns then some s.now else none }
  match m.mode with
  | .off | .keep | .reset | .test => s.bump Obj.settleIgnored
  | .bringup =>
    let s' := s'.discardHeld
    let s' := s'.withMem { s'.mem with material := [] }
    let s' := s'.withTime { s'.time with phase := .waiting, good := 0 }
    s'.withModes { s'.modes with steps := m.steps &&& 2, overtime := 0, strapError := false }
  | .rest =>
    if busy then s.bump Obj.settleIgnored
    else
      let t := (Mode.ofCode (s.obj Obj.modePrevious).toNat).map Trans.restExit
      let s' := s'.abortSwap 0x0E false
      (s'.withModes { s'.modes with settleWanted := true, trans := t, begun := s.now })
  | _ =>
    if busy then s.bump Obj.settleIgnored
    else if s.swapCommitted then s'.withModes { s'.modes with settleWanted := true }
    else s'.beginSettle

/-! ### The Drain walk -/

/-- The walk of a Kernel set: owed lines go to the posted write buffer (Table 3.8). -/
def State.walkKernel (s : State) (kset : Nat) : State :=
  let lines := (List.range 12).filterMap fun w => match s.ktag kset w with
    | some t => if t.st.owed then some (laOfK kset t.tag / 128) else none
    | none => none
  lines.foldl (fun s l => (s.clearLine l Rsv.maint).cleanKernel l false) s

/-- The walk of a Husk set: owed lines are read into Hull entries; none where they cannot be reserved, a replacement runs in the set
(R407), or a sector of it is held for a victim that is not yet written (R561). -/
def State.walkHusk (s : State) (hset : Nat) : Option State :=
  let secs := (List.range 16).filterMap fun w => match s.sector hset w with
    | some x => if x.dcnt = 0 then none else some (w, x)
    | none => none
  let need := secs.foldl (fun n (x : Nat × Sector) => n + x.2.dcnt) 0
  if s.replacing hset || (List.range 16).any (s.held hset) || decide (4096 < s.tiers.hull.length + need) then none
  else some (secs.foldl (fun s (x : Nat × Sector) => s.startRepl hset x.1 x.2 none true) s)

/-- DRAIN_WALK_SET: the slice's next set, in a Maintenance slot of its row (R82, R407). -/
def State.drainWalkSet (s : State) (sl cyc : Nat) : State :=
  let n := Assoc.getD s.modes.drainNext sl 0
  let next : State → State := fun s =>
    s.withModes { s.modes with drainNext := Assoc.put sl (n + 1) s.modes.drainNext }
  if s.modes.mode ≠ .drain ∨ !s.modes.drainWalk ∨ s.walkSets ≤ n then s
  else
    match s.takeSlot 0 sl cyc Cls.mt 2 with
    | none => s
    | some s =>
      if n < 8192 then next (s.walkKernel (sl * 8192 + n))
      else
        match s.walkHusk (sl * 32768 + (n - 8192)) with
        | some s => next s
        | none => s

/-- DRAIN_DONE_SET: at a boundary at which the walk has ended and nothing is owed (R407). -/
def State.drainDoneSet (s : State) : State :=
  if s.modes.mode = .drain ∧ s.modes.drainWalk ∧ s.dirtyLines = 0
      ∧ ((List.range 16).all fun sl => decide (s.walkSets ≤ Assoc.getD s.modes.drainNext sl 0)) then
    s.setNat Obj.drainDone 1
  else s

/-! ### Meanings -/

/-- MODE_REQUEST_KEEP (R399, R416). -/
def execModeRequestKeep (lvl : Level) (s : State) : Host.Outcome State Fault Refusal := .next (s.modeRequest lvl .keep)

/-- MODE_REQUEST_PASS_THROUGH (R400). -/
def execModeRequestPassThrough (lvl : Level) (s : State) : Host.Outcome State Fault Refusal :=
  .next (s.modeRequest lvl .passThrough)

/-- MODE_REQUEST_NORMAL (R400). -/
def execModeRequestNormal (lvl : Level) (s : State) : Host.Outcome State Fault Refusal := .next (s.modeRequest lvl .normal)

/-- MODE_REQUEST_PARTITIONED (R400). -/
def execModeRequestPartitioned (lvl : Level) (s : State) : Host.Outcome State Fault Refusal :=
  .next (s.modeRequest lvl .partitioned)

/-- MODE_REQUEST_REST (R403). -/
def execModeRequestRest (lvl : Level) (s : State) : Host.Outcome State Fault Refusal := .next (s.modeRequest lvl .rest)

/-- MODE_REQUEST_DRAIN (R406). -/
def execModeRequestDrain (lvl : Level) (s : State) : Host.Outcome State Fault Refusal := .next (s.modeRequest lvl .drain)

/-- MODE_REQUEST_DEGRADED (R400). -/
def execModeRequestDegraded (lvl : Level) (s : State) : Host.Outcome State Fault Refusal :=
  .next (s.modeRequest lvl .degraded)

/-- MODE_REQUEST_TEST (R423). -/
def execModeRequestTest (lvl : Level) (s : State) : Host.Outcome State Fault Refusal := .next (s.modeRequest lvl .test)

/-- MODE_TRANSITION (R401). -/
def execModeTransition (s : State) : Host.Outcome State Fault Refusal := .next s.modeTransition

/-- STOP_LIMIT_EXPIRY (R404). -/
def execStopLimitExpiry (s : State) : Host.Outcome State Fault Refusal := .next s.stopLimitExpiry

/-- REST_ENTRY_DONE (R403). -/
def execRestEntryDone (s : State) : Host.Outcome State Fault Refusal := .next s.restEntryDone

/-- REST_EXIT (R405). -/
def execRestExit (s : State) : Host.Outcome State Fault Refusal := .next s.restExit

/-- DRAIN_WALK_SET (R407). -/
def execDrainWalkSet (slice : Fin 16) (cyc : Fin 64) (s : State) : Host.Outcome State Fault Refusal :=
  .next (s.drainWalkSet slice.val cyc.val)

/-- SETTLE_COMMAND (R411). -/
def execSettleCommand (lvl : Level) (s : State) : Host.Outcome State Fault Refusal :=
  .next (s.writeWith lvl Obj.resetCommand 1 fun s => (0, s.settleReset 5))

/-- SETTLE_N_ASSERT: SETTLE_N low for `ns` (R411, R412). -/
def execSettleNAssert (ns : Nat) (s : State) : Host.Outcome State Fault Refusal :=
  .next (if ns < 1000 then s else (s.withModes { s.modes with settleN := true }).settleReset 4)

/-- SETTLE_N_RELEASE (R412). -/
def execSettleNRelease (s : State) : Host.Outcome State Fault Refusal :=
  .next (s.withModes { s.modes with settleN := false })

/-- SETTLE_STOP_DONE (R411). -/
def execSettleStopDone (s : State) : Host.Outcome State Fault Refusal := .next s.settleStopDone

/-- SETTLE_RECALL_DONE (R411). -/
def execSettleRecallDone (s : State) : Host.Outcome State Fault Refusal := .next s.settleRecallDone

/-- SETTLE_DRAIN_DONE (R411). -/
def execSettleDrainDone (s : State) : Host.Outcome State Fault Refusal := .next s.settleDrainDone

end Sys2Proof.Machine
end

