-- ==== Sys2Proof/Machine/BridleOut.lean ====
section
/-!
DEFINITION. What the device sends on Bridle of itself (11): the frame layout (R452, R454), alarms and their repeats (R461,
R486), heartbeats (R462), and the error states of a bus (R452, R463).
-/
namespace Sys2Proof

/-- Byte `i` of a frame; bytes past its end read zero. -/
def Frame.byte (f : Frame) (i : Nat) : Nat := (f.data.getD i 0).toNat

/-- `n` bytes from `i`. -/
def Frame.num (f : Frame) (i : Nat) : Nat → Nat
  | 0 => 0
  | n + 1 => f.byte i + 256 * f.num (i + 1) n

end Sys2Proof

namespace Sys2Proof.Machine

/-! ### Frames -/

/-- The 29-bit identifier (Table 11.7). -/
def bridleId (prio resp dest src service seq : Nat) : BitVec 29 :=
  BitVec.ofNat 29 (prio <<< 26 + resp <<< 25 + dest <<< 18 + src <<< 12 + service <<< 8 + seq % 256)

/-- Bytes of a number, least significant first. -/
def leBytes (v : Nat) : Nat → List (BitVec 8)
  | 0 => []
  | n + 1 => BitVec.ofNat 8 v :: leBytes (v / 256) n

/-- The smallest CAN FD length of R455 that holds `n` bytes. -/
def fdLen (n : Nat) : Nat := ([8, 12, 16, 20, 24, 32, 48, 64].find? fun l => decide (n ≤ l)).getD 64

/-- Pad with zero bytes to a CAN FD length. -/
def padFd (l : List (BitVec 8)) : List (BitVec 8) := l ++ List.replicate (fdLen l.length - l.length) 0

/-- The node may speak on Bridle: powered, the management domain out of reset, a valid node ID (R22, R422, R453). -/
def State.bridleUp (s : State) : Bool :=
  s.modes.mgmtUp && s.modes.mode != .off && s.modes.mode != .keep && s.bridle.nodeId != 0 && s.bridle.nodeId != 0x3F

/-- A bus. -/
def State.bus (s : State) (b : Nat) : Bus := if b = 0 then s.bridle.busA else s.bridle.busB

/-- Write a bus. -/
def State.setBus (s : State) (b : Nat) (x : Bus) : State :=
  if b = 0 then s.withBridle { s.bridle with busA := x } else s.withBridle { s.bridle with busB := x }

/-- Error state of a CAN node by its counters (ISO 11898-1, Table 11.6). -/
def busStateOf (x : Bus) : Nat := if 256 ≤ x.tec then 2 else if 128 ≤ x.tec ∨ 128 ≤ x.recv then 1 else 0

/-- A bus takes new counters; a change of its state raises an alarm (R463). -/
def State.busCounts (s : State) (b tec recv : Nat) : State :=
  let x : Bus := { tec := tec, recv := recv }
  let x := { x with state := busStateOf x }
  let old := (s.bus b).state
  let s := s.setBus b x
  if old = x.state then s else s.raise 0xBD [w64 s.busStatus]

/-- A frame went well on a bus: its counter moves back by one (ISO 11898-1, Table 11.6). -/
def State.busGood (s : State) (b : Nat) (sent : Bool) : State :=
  let x := s.bus b
  if sent then (if x.tec = 0 then s else s.busCounts b (x.tec - 1) x.recv)
  else if x.recv = 0 then s
  else s.busCounts b x.tec (min (x.recv - 1) 127)

/-- A bus is enabled and not bus-off (R461). -/
def State.busOpen (s : State) (b : Nat) : Bool := (s.eff Obj.busEnable).testBit b && (s.bus b).state != 2

/-- Send a frame on one bus. -/
def State.sendOn (s : State) (b : Nat) (f : Frame) : State :=
  if s.bridleUp && s.busOpen b then (s.emit (.bridle b f)).busGood b true else s

/-- Send a frame on every enabled bus that is not bus-off. -/
def State.sendFrame (s : State) (f : Frame) : State := (s.sendOn 0 f).sendOn 1 f

/-! ### Alarms -/

/-- The ALARM frame of an alarm (Table 11.9). -/
def State.alarmFrame (s : State) (a : Alarm) : Frame :=
  let words := a.words.flatMap fun w => leBytes w.toNat 8
  { ident := bridleId 0 0 0x3F s.bridle.nodeId 3 a.seq.toNat
    data := padFd (leBytes a.seq.toNat 2 ++ leBytes (satCount a.count) 2 ++ leBytes a.source 2 ++ leBytes 0 2
      ++ leBytes a.stride 8 ++ words) }

/-- Push an alarm at a time (R461). -/
def State.pushAlarm (s : State) (a : Alarm) (ms : Nat) : State :=
  let mark : Alarm → Alarm := fun a => { a with pushed := some ms, acked := false, dirty := false }
  let s := s.sendFrame (s.alarmFrame a)
  (s.withBridle { s.bridle with alarms := updFirst (fun x => x.seq == a.seq) mark s.bridle.alarms })

/-- ALARM: the oldest alarm not yet pushed, while fewer than eight are unacknowledged (R461). -/
def State.alarm (s : State) (ms : Nat) : State :=
  if !s.bridleUp || decide (8 ≤ s.unacked) then s
  else
    match s.bridle.alarms.find? fun a => a.pushed.isNone with
    | some a => s.pushAlarm a ms
    | none => s

/-- An alarm's push is due again: it is unacknowledged, or it has coalesced more since its acknowledgement (R461, R486). -/
def Alarm.due (a : Alarm) (repeat_ ms : Nat) : Bool :=
  match a.pushed with
  | some t => decide (t + repeat_ ≤ ms) && (!a.acked || a.dirty)
  | none => false

/-- ALARM_REPEAT: the oldest alarm whose push is due again; one that was acknowledged waits while eight are not (R461, R486). -/
def State.alarmAgain (s : State) (ms : Nat) : State :=
  if !s.bridleUp then s
  else
    match s.bridle.alarms.find? fun a => a.due (s.eff Obj.alarmRepeat) ms && !(a.acked && decide (8 ≤ s.unacked)) with
    | some a => s.pushAlarm a ms
    | none => s

/-- The record of an alarm is still in an alarm ring. -/
def State.inRing (s : State) (seq : BitVec 16) : Bool :=
  [0, 1, 2, 3].any fun r => (s.ring r).records.any fun x => x.seq == seq

/-- ALARM_ACK: an ALARM_SEQ is acknowledged; an alarm whose record has left its ring is then forgotten (R461, R486). -/
def State.alarmAck (s : State) (seq : BitVec 16) : State :=
  let ack : Alarm → Alarm := fun a => if a.pushed.isSome then { a with acked := true } else a
  let l := updFirst (fun a => a.seq == seq) ack s.bridle.alarms
  (s.withBridle { s.bridle with alarms := l.filter fun a => !(a.acked && !a.dirty && !s.inRing a.seq) })

/-- Fields of a received identifier: PRIO, RESP, bit 24, DEST, SRC, SERVICE, SEQ (Table 11.7). -/
def frameField (f : Frame) (hi lo : Nat) : Nat := bitsOf f.ident.toNat hi lo

/-- A frame that the H2C takes in on a bus (Table 11.6, R453, R460): otherwise it is ignored and, where it was addressed
through the node's own ID or its form, counted. -/
def State.takes (s : State) (b : Nat) (f : Frame) : Bool × State :=
  let dest := frameField f 23 18
  if !s.bridleUp || !s.busOpen b then (false, s)
  else
    let s := s.busGood b false
    if !f.fdBrs || frameField f 17 12 == s.bridle.nodeId then (false, s.bump Obj.busIgnored)
    else (dest == s.bridle.nodeId || dest == 0x3F, s)

/-- HEARTBEAT (R462, Table 11.9). -/
def State.heartbeat (s : State) (ms : Nat) : State :=
  let period := s.eff Obj.heartbeatPeriod
  if period = 0 ∨ !s.bridleUp ∨ ms < s.bridle.heartbeatAt + period then s
  else
    let flag : Bool → Nat → Nat := fun b k => if b then 2 ^ k else 0
    let b3 := flag (s.obj Obj.reduced == 1) 0 + flag (s.obj Obj.degradePending == 1) 1
      + flag ((s.eff Obj.busEnable).testBit 0 && s.bridle.busA.state == 0) 2
      + flag ((s.eff Obj.busEnable).testBit 1 && s.bridle.busB.state == 0) 3
    let data := leBytes s.modes.mode.code 1 ++ leBytes s.bringupStep 1 ++ leBytes (s.live Obj.settlePhase).toNat 1 ++ leBytes b3 1
      ++ leBytes (s.obj Obj.resetHoldMs).toNat 4 ++ leBytes s.now 8 ++ leBytes s.unacked 2 ++ leBytes 0 6
    let s := s.sendFrame { ident := bridleId 3 0 0x3F s.bridle.nodeId 5 0, data := data }
    (s.withBridle { s.bridle with heartbeatAt := ms })

/-! ### Bus errors -/

/-- BUS_ERROR: an error frame sent as transmitter, or seen as receiver (R452). -/
def State.busError (s : State) (b : Nat) (transmit : Bool) : State :=
  let x := s.bus b
  if !s.modes.mgmtUp || !(s.eff Obj.busEnable).testBit b || x.state == 2 then s
  else
    let s := s.bump (if b = 0 then Obj.busErrorsA else Obj.busErrorsB)
    if transmit then s.busCounts b (x.tec + 8) x.recv else s.busCounts b x.tec (min (x.recv + 1) 255)

/-- BUS_OFF_RECOVERY: after 128 occurrences of 11 recessive bits the bus is error-active again (R452, R463). -/
def State.busRecovery (s : State) (b occurrences : Nat) : State :=
  if (s.bus b).state = 2 ∧ 128 ≤ occurrences ∧ s.modes.mgmtUp then s.busCounts b 0 0 else s

/-! ### Meanings -/

/-- ALARM (R461). -/
def execAlarm (ms : Nat) (s : State) : Host.Outcome State Fault Refusal := .next (s.alarm ms)

/-- ALARM_REPEAT (R461). -/
def execAlarmRepeat (ms : Nat) (s : State) : Host.Outcome State Fault Refusal := .next (s.alarmAgain ms)

/-- ALARM_ACK (R461). -/
def execAlarmAck (bus : Fin 2) (f : Frame) (s : State) : Host.Outcome State Fault Refusal :=
  .next (let (mine, s) := s.takes bus.val f
         if mine && frameField f 11 8 == 4 then s.alarmAck (BitVec.ofNat 16 (f.num 0 2)) else s)

/-- HEARTBEAT (R462). -/
def execHeartbeat (ms : Nat) (s : State) : Host.Outcome State Fault Refusal := .next (s.heartbeat ms)

/-- BUS_ERROR (R452). -/
def execBusError (bus : Fin 2) (transmit : Bool) (s : State) : Host.Outcome State Fault Refusal :=
  .next (s.busError bus.val transmit)

/-- BUS_OFF_RECOVERY (R463). -/
def execBusOffRecovery (bus : Fin 2) (occurrences : Nat) (s : State) : Host.Outcome State Fault Refusal :=
  .next (s.busRecovery bus.val occurrences)

end Sys2Proof.Machine
end

