-- ==== Sys2Proof/Machine/Bringup.lean ====
section
/-!
DEFINITION. Resets (R409, R410, Table 10.2), Bring-up (R413, Table 10.3), Keep and the Paddock's wakes (R414 to R418), rails
and the management reset (R22, R419, R420, R453, R554).
-/
namespace Sys2Proof.Machine

/-! ### Cold reset -/

/-- The modes' own state after a cold reset: what the Paddock and the pins hold. -/
def Modes.coldClear (m : Modes) : Modes :=
  let n : Modes := { mode := m.mode, paddock := m.paddock, causeOpen := m.causeOpen, resetN := m.resetN, settleN := m.settleN,
                     mgmtUp := m.mgmtUp, pwrEn := m.pwrEn, rails := m.rails, vkeep := m.vkeep, brownout := m.brownout }
  { n with wakeHeld := m.wakeHeld, refclkStopped := m.refclkStopped, wake := m.wake, cold := true }

/-- What a cold reset leaves (Table 10.2, R408, R488): every object at its default, nothing cached, banks 1 to 15 empty; the
field-repair area, the retirement map, the Paddock and Bridle stay. -/
def State.coldClear (s : State) (keepDram : Bool) : State :=
  let mem : Mem := { dram := if keepDram then s.mem.dram else [], keys := s.mem.keys, keyGen := s.mem.keyGen,
                     randoms := s.mem.randoms, huskGen := s.mem.huskGen, selfRefresh := keepDram && s.mem.selfRefresh }
  let rel : Rel := { field := s.rel.field, retired := s.rel.retired }
  let n : State := { free := s.free, bridle := s.bridle, pkg := s.pkg, fuse := s.fuse, sent := s.sent, pending := s.pending,
                     ports := { split := s.ports.split }, irq := { events := s.irq.events } }
  { n with mem := mem, rel := rel, modes := s.modes.coldClear, tiers := { lfsr := s.tiers.lfsr, nextId := s.tiers.nextId },
           home := { nextId := s.home.nextId } }

/-- A cold reset with a cause: a request, a swap, held partition values and a drain in progress end (R95, R149, R355, R402,
R415), and the mode is Reset. -/
def State.coldReset (s : State) (cause : Nat) : State :=
  let s := s.recordCause cause
  let asked := s.modes.asked
  let swap := s.obj Obj.gaitSwapState != 0
  let held := !s.heldParts.isEmpty
  let drain := s.mem.drain.isSome
  let s := s.coldClear false
  let s := if asked then s.setNat Obj.modeResult 0x0C else s
  let s := if swap then s.setNat Obj.gaitSwapResult 0x0E else s
  let s := if held then s.setNat Obj.partApplyResult 2 else s
  let s := if drain then s.setNat Obj.drainStatus 4 else s
  (s.withModes { s.modes with mode := .reset })

/-- Modes that RESET_N and a brownout reset (Table 10.1, "any powered mode"). -/
def Mode.powered : Mode → Bool
  | .off | .keep => false
  | _ => true

/-- RESET_N low for `ns` (R409). -/
def State.resetAssert (s : State) (ns : Nat) : State :=
  if ns < 1000 then s
  else
    let s' := if s.modes.mode.powered && s.modes.mode != .reset then s.coldReset 3 else s
    let s' := if s.modes.resetN then s' else s'.setNat Obj.resetHoldMs 0
    (s'.withModes { s'.modes with resetN := true, brownout := false, holdAlarmMs := if s.modes.resetN then s.modes.holdAlarmMs else 0 })

/-- RESET_HOLD_ALARM: the hold has lasted `ms` (R410). -/
def State.resetHold (s : State) (ms : Nat) : State :=
  if !s.modes.resetN || s.modes.mode != .reset then s
  else
    let s := s.setNat Obj.resetHoldMs (min ms 0xFFFFFFFF)
    if 100 ≤ ms ∧ (s.modes.holdAlarmMs = 0 ∨ s.modes.holdAlarmMs + 1000 ≤ ms) then
      let s := s.withModes { s.modes with holdAlarmMs := ms }
      if s.modes.mgmtUp then s.raise 0xBE [w64 s.bringupStep, s.obj Obj.resetHoldMs] else s
    else s

/-- Bring-up begins (R413, R414). -/
def State.enterBringup (s : State) : State :=
  let m := s.modes
  let s := { s with modes := { m with mode := .bringup, steps := 0, cold := true, onceDone := 0 }, time := {} }
  s.paddockVerify

/-- RESET_N high for `ns`: with the rails in range and REFCLK running, Bring-up follows (R413, R418, R420). -/
def State.resetRelease (s : State) (ns : Nat) : State :=
  if ns < 1000 then s
  else
    let m := s.modes
    let s := s.withModes { m with resetN := false }
    let ready := m.rails == 0x1F && !m.refclkStopped && !m.brownout
    if ready && (m.mode == .reset || (m.mode == .keep && m.pwrEn)) then s.enterBringup else s

/-! ### Bring-up steps -/

/-- The steps that step `n` starts after (Table 10.3). -/
def stepNeeds : Nat → List Nat
  | 2 => [1] | 3 | 4 | 5 | 6 => [2] | 7 => [6] | 8 => [3, 4, 5, 7] | 9 => [8] | 10 => [9] | _ => []

/-- Step `n` is under way. -/
def State.stepRuns (s : State) (n : Nat) : Bool :=
  s.modes.mode == .bringup && !s.stepDone n && (stepNeeds n).all s.stepDone

/-- Step 1: the PLLs have locked; the stride timer starts, the links enter DETECT, and after a cold reset Groom restarts (R44,
R534). -/
def State.pllLock (s : State) : State :=
  if !s.stepRuns 1 then s
  else
    let s := { s.setStep 1 with time := {} }
    let s := (List.range 32).foldl (fun s h => if s.usedHalf h then s.setLinkState h .detect else s) s
    if s.modes.mgmtUp then s.groomRestart false else s

/-- The straps are sampled on a cold reset (R29, R281, R548); NODE_ID is not among them. -/
def State.sampleStraps (s : State) (straps : BitVec 32) : State :=
  let v := straps &&& 0x07FFFFC0
  let s := { s with pkg := { s.pkg with straps := straps, sampled := v },
                    modes := { s.modes with onceDone := s.modes.onceDone ||| 4 } }
  let s := s.setNat Obj.strapStatus (if s.domainSize ≤ s.domainIndex then 1 else 0)
  (List.range 16).foldl (fun s p =>
    let b := v.toNat.testBit (10 + p)
    let s := s.setNat (Obj.portConfig + p * 256) (if b then 1 else 0)
    if b == s.ports.split.toNat.testBit p then s else s.resetPort p) s

/-- A comparator recorded in the retirement map costs its way in every set group of the slice, or the group where its budget
is spent; a directory group that would fall below eight ways is fatal (R382, R383, R387). -/
def State.applyComparator (s : State) (tier slice way : Nat) : State :=
  (List.range (tierGeom tier).1).foldl (fun s g =>
    if s.groupOff tier slice g || (s.retiredWays tier slice g).contains way then s
    else if tier == 2 && decide (8 ≤ (s.retiredWays 2 slice g).length) then s.fatal 0x0F (some slice) (48 + slice)
    else if s.groupLost tier slice g < 2 || tier == 2 then s.retireRecord (.way tier slice g way)
    else s.retireRecord (.group tier slice g)) s

/-- The retirement map applies (R382, R387). -/
def State.applyMap (s : State) : State :=
  s.rel.retired.foldl (fun s r => match r with
    | .comparator tier slice way => s.applyComparator tier slice way
    | _ => s) s

/-- A field-repair entry is in use (Table 9.6); a blank, cancelled or interrupted one is passed over (R381). -/
def spareOfEntry (e : BitVec 32) : Option Spare :=
  if bitsOf e.toNat 31 30 = 1 then some (.row (bitsOf e.toNat 29 24) (bitsOf e.toNat 23 6)) else none

/-- The factory spares of the fuse map apply, then every field-repair entry in use (R379, R381). -/
def State.applySpares (s : State) : State :=
  s.withRel { s.rel with spares := s.fuse.spares ++ s.rel.field.filterMap fun x => spareOfEntry x.2 }

/-- Step 2: straps, fuse map, repairs and retirement map (R379, R381, R382, R413); held while SETTLE_N is asserted (R412) and
where the straps are in error (R29). -/
def State.bringupFuse (s : State) (straps : BitVec 32) : State :=
  if !s.stepRuns 2 || s.modes.strapError then s
  else
    let s := if s.modes.cold && !s.modes.onceDone.getLsbD 2 then s.sampleStraps straps else s
    if s.obj Obj.strapStatus = 1 then
      (s.withModes { s.modes with strapError := true }).raise 0xBE [0x0B, s.obj Obj.resetHoldMs]
    else if s.modes.settleN then s
    else
      let s := (s.applySpares.applyMap.setStep 2).memConfig
      if s.fuse.huskOff then s.setStep 5 else s.setPorts (List.range 18) 1

/-- Step 3: array BIST, on a Settle only with BIST_ON_SETTLE set, and then every tag, directory and data word is initialised (R107,
R413). What BIST makes of the arrays is not in the spec. -/
def State.bringupBist (s : State) : State :=
  if !s.stepRuns 3 then s
  else
    let s := { s with tiers := { s.tiers with ktags := [], kdata := [], sectors := [], hdata := [], hchecks := [], staging := [], hull := [], repl := [] },
                      home := { s.home with dir := [] },
                      modes := { s.modes with bistRan := s.modes.cold || s.obj Obj.bistOnSettle == 1 } }
    s.setStep 3

/-- A draw of the on-die entropy source (R140, R357). -/
def State.drawEntropy (s : State) : BitVec 64 × State := (Config.entropy s.free, s.withFree (s.free + 1))

/-- The seed of LFSR `i`; 16 is the sampler's (R140, R501). -/
def State.lfsrSeed (s : State) (i : Nat) : BitVec 32 × State :=
  let (v, s) := if s.obj Obj.lfsrSeedMode = 1 then
      ((s.obj Obj.lfsrSeed).setWidth 32 ^^^ BitVec.ofNat 32 (i * 0x01010101), s)
    else
      let (e, s) := s.drawEntropy
      (e.setWidth 32, s)
  (if v = 0 then 1 else v, s)

/-- Every KEYID holds a fresh random pair (R357). -/
def State.randomKeys (s : State) : State :=
  let n := s.mem.randoms + 1
  let s := s.withMem { s.mem with randoms := n, keyGen := n, keys := [] }
  (List.range 16).foldl (fun s i => s.setObj (Obj.keyInstalled + i) 0) s

/-- Step 4: the Husk key, the KEYID table after a cold reset or Keep, and the LFSR seeds, which are loaded at the end of the
Bring-up (R140, R357). -/
def State.bringupKeys (s : State) : State :=
  if !s.stepRuns 4 then s
  else
    let s := s.withMem { s.mem with huskGen := s.mem.huskGen + 1 }
    let s := if s.modes.cold && !s.modes.onceDone.getLsbD 4 then
        let s := s.randomKeys
        (s.withModes { s.modes with onceDone := s.modes.onceDone ||| 16 })
      else s
    let (seeds, s) := (List.range 17).foldl (fun (a : List (BitVec 32) × State) i =>
      let (v, s) := a.2.lfsrSeed i
      (a.1 ++ [v], s)) ([], s)
    (s.withTiers { s.tiers with seeds := seeds }).setStep 4

/-- Step 5: GDDR7 training. With no device at all the configuration is Kernel-only; a group whose check port fails, or has no
device while a data port has one, fails as a whole (R10, R349). A failed port is an event of source 0x0B2 (Table 12.1). -/
def State.bringupHusk (s : State) (ports : List TrainResult) : State :=
  if !s.stepRuns 5 then s
  else
    let r := fun j => ports.getD j .absent
    if (List.range 18).all fun j => r j == .absent then
      (((s.setNat Obj.fusedConfig 2).setPorts (List.range 18) 0).huskNeed).setStep 5
    else
      let groupBad : Nat → Bool := fun p =>
        r p == .failed || r p == .mismatch ||
          (r p == .absent && (List.range 8).any fun i => r ((p - 16) * 8 + i) != .absent)
      let st : Nat → Nat := fun j =>
        let p := if j < 16 then checkPort j else j
        if groupBad p then 6
        else match r j with | .trained => 2 | .absent => 0 | _ => 6
      let s := (List.range 18).foldl (fun s j => s.setNat (Obj.huskPortState + j) (st j)) (s.setNat Obj.fusedConfig 0)
      let s := ((List.range 18).filter fun j => st j == 6).foldl (fun s j => s.capacityEvent j) s
      s.huskNeed.setStep 5

/-- Step 7: DDR5 training, or self-refresh exit; a channel that fails keeps the device in Bring-up (R330). -/
def State.bringupDdr5 (s : State) (chans : List TrainResult) : State :=
  match s.popSpeed with
  | none => s
  | some v =>
    if !s.stepRuns 7 then s
    else
      let code : TrainResult → Nat := fun r => match r with | .trained => 2 | .mismatch => 4 | _ => 5
      let s := (List.range 12).foldl (fun s c => s.setNat (Obj.chanState + c * 256) (code (chans.getD c .absent))) s
      if !((List.range 12).all fun c => chans.getD c .absent == .trained) then s
      else
        let n := fun k => (s.obj k).toNat
        let ranks := n Obj.memDpc * n Obj.memRanks
        let rank := 2 ^ (if n Obj.memDensity = 2 then 36 else 35)
        let s := (s.setNat Obj.memSpeed v).setNat Obj.memCapacity (12 * ranks * rank)
        let s := s.setNat Obj.ddr5RefNeed (ceilDiv (ranks * 262144) 3900)
        (s.withMem { s.mem with selfRefresh := false }).setStep 7

/-- The mode that BOOT_MODE names (R413). -/
def State.bootMode (s : State) : Mode := (Mode.ofCode (s.obj Obj.bootMode).toNat).getD .normal

/-- The bank that was active before the Bring-up; none after a cold reset (R62). -/
def State.formerBank (s : State) : Option Nat := (List.range 16).find? fun b => s.bankState b == 4

/-- A bank may be the boot bank (R83, R333): ACCEPTED, or the former active bank, and passing the arm checks of R85 for the mode to
be entered, the seam check against the former active bank's image among them. DESIGN CHOICE (log entry 77): the former active bank
may be chosen again. -/
def State.bootable (s : State) (b : Nat) : Bool :=
  (s.bankState b == 2 || s.bankState b == 4) &&
    match Assoc.find? b s.gait.banks with
    | some g =>
      ((s.withModes { s.modes with mode := s.bootMode }).armChecks48 b g).isNone &&
        match s.formerBank with
        | some o => if o = b then true else
          match Assoc.find? o s.gait.banks with
          | some old => seamOk old g
          | none => true
        | none => true
    | none => false

/-- Step 8: bank 0 is loaded for the trained speed and the boot bank is chosen (R61, R62, R83, R334); the leader skips step 9. -/
def State.bringupGait (s : State) : State :=
  if !s.stepRuns 8 then s
  else
    let speed := (s.obj Obj.memSpeed).toNat
    let g := GaitSrc.rom s.kernelOnly speed
    let s := (s.setBank 0 g).setBankState 0 (if s.formerBank = some 0 then 4 else 2)
    let s := (s.setNat Obj.gaitBankId g.gaitId).setNat Obj.gaitBankSpeed speed
    let b := (s.obj Obj.gaitBootBank).toNat
    let boot := if !s.modes.cold && s.bootable b then b else 0
    let s := (s.withGait { s.gait with boot := boot }).setStep 8
    if s.leader || s.time.phase == .aligned then s.setStep 9 else s

/-- At the end of Bring-up the boot bank becomes ACTIVE and the former active bank returns to ACCEPTED (R62, R83). -/
def State.activateBoot (s : State) : State :=
  let boot := s.gait.boot
  let s := match s.formerBank with
    | some o => if o = boot then s else (s.setBankState o 2).setNat Obj.gaitPrevious o
    | none => s
  ((s.setBankState boot 4).setNat Obj.gaitActive boot).reportClip

/-- At the end of Bring-up the LFSRs are loaded with their seeds (R140). -/
def State.loadSeeds (s : State) : State := s.withTiers { s.tiers with lfsr := s.tiers.seeds }

/-- The Bring-up ends in Degraded (R11, R384): a port is missing, failed or drained, or a stage-4 record applies. -/
def State.bootDegraded (s : State) : Bool :=
  s.reducedNow || (!s.kernelOnly && (List.range 18).any fun j => s.portState j != 2)

/-- BRINGUP_DONE: step 10 after `micros` (R413, R423). DEGRADE_PENDING set is an event of source 0x0B2, whose word 2 names no array or
port there (log entry 151). -/
def State.bringupDone (s : State) (micros : Nat) : State :=
  if !s.stepRuns 10 then s
  else
    let s := s.activateBoot.loadSeeds
    let test := s.modes.testWanted
    let low := s.bootDegraded
    let dest := if test then Mode.test else if low && s.gaitLists .degraded then .degraded else s.bootMode
    let s := (s.setStep 10).setNat Obj.bringupTime (min micros 0xFFFFFFFF)
    let s := s.editPaddock 1 fun v => putBits v 15 0 (min (v.toNat % 65536 + 1) 65535)
    let s := s.withModes { s.modes with causeOpen := true, settle := 0, wake := false }
    let s := if test then (s.randomKeys.withMem { s.randomKeys.mem with keyPending := none, keyAwaits := [] }).endRequest 2 else s
    let s := s.noteReduced.enterMode dest
    if low && !test && dest != .degraded then s.degradeDue 0xFF else s

/-- BRINGUP_STEP_OVERTIME: one alarm for a step that runs past its maximum (R413). -/
def State.stepOvertime (s : State) (n : Nat) : State :=
  if [1, 2, 3, 4, 5, 7, 8].contains n && s.stepRuns n && !s.modes.overtime.getLsbD n then
    let s := s.withModes { s.modes with overtime := s.modes.overtime ||| ((1 : BitVec 16) <<< n) }
    s.raise 0xBE [w64 n, s.obj Obj.resetHoldMs]
  else s

/-! ### Keep -/

/-- KEEP_ENTRY_DONE: after Recall every owed line is in DRAM, the final alarm is pushed, KEEP_ENTRIES counts the entry and
PWR_EN falls (R416). A fatal fault goes first (R402). -/
def State.keepEntryDone (s : State) : State :=
  if !(s.modes.trans == some .keepStop && s.modes.recalling && s.recalled) || !s.rel.fatal.isEmpty then s
  else
    let old := s.modes.mode.code
    let s := s.writeDirty.emptyTiers
    let retain := (s.modes.paddock.getD 0 0).getLsbD 50
    let s := s.endRequest 2
    let (_, s) := s.nextAlarm { source := 0xB1, count := 1, stride := s.now, words := [w64 old, 1, s.obj Obj.modeResult] }
    let s := match s.bridle.alarms.getLast? with
      | some a => s.sendFrame (s.alarmFrame a)
      | none => s
    let s := s.editPaddock 1 fun v => putBits v 31 16 (min (bitsOf v.toNat 31 16 + 1) 65535)
    let s := (s.withMem { s.mem with selfRefresh := retain }).coldClear retain
    let s := s.withBridle { nodeId := s.bridle.nodeId, alarmSeq := s.bridle.alarmSeq }
    (s.withModes { s.modes with mode := .keep, pwrEn := false, keepMs := 0 })

/-- The Paddock wakes the device (R418). -/
def State.wakeUp (s : State) (cause : Nat) : State :=
  let s := s.recordCause cause
  (s.withModes { s.modes with pwrEn := true, wake := true, wakeHeld := false })

/-- In Keep with PWR_EN low. -/
def State.asleep (s : State) : Bool := s.modes.mode == .keep && !s.modes.pwrEn

/-- WAKE_N low for `ns`; during Keep entry the pulse is held (R418). -/
def State.wakePulse (s : State) (ns : Nat) : State :=
  if ns < 5000 || !(s.modes.paddock.getD 0 0).getLsbD 48 then s
  else if s.asleep then s.wakeUp 6
  else if s.modes.trans = some .keepStop then s.withModes { s.modes with wakeHeld := true }
  else s

/-- HELD_WAKE: 1 ms after PWR_EN fell (R418). -/
def State.heldWake (s : State) : State := if s.asleep && s.modes.wakeHeld then s.wakeUp 6 else s

/-- PADDOCK_TIMER_WAKE: the Paddock timer, which counts from the entry or from the return of REFCLK, advances by `ms` milliseconds of
REFCLK and wakes the device where it has reached WAKE_TIMER (R25, R418). -/
def State.timerWake (s : State) (ms : Nat) : State :=
  let w := s.modes.paddock.getD 0 0
  let limit := bitsOf w.toNat 47 16
  if !s.asleep || s.modes.refclkStopped then s
  else
    let s := s.withModes { s.modes with keepMs := s.modes.keepMs + ms }
    if w.getLsbD 49 && limit != 0 && decide (limit ≤ s.modes.keepMs) then s.wakeUp 7 else s

/-- REFCLK stops in Keep (R25). -/
def State.refclkStop (s : State) : State :=
  if s.modes.mode = .keep then s.withModes { s.modes with refclkStopped := true } else s

/-- REFCLK returns: the Paddock timer restarts from zero (R25). -/
def State.refclkBack (s : State) : State :=
  if s.modes.refclkStopped then s.withModes { s.modes with refclkStopped := false, keepMs := 0 } else s

/-! ### Power -/

/-- VKEEP_POWER_ON: the Paddock powers up (R414, Table 10.1). -/
def State.vkeepOn (s : State) : State :=
  if s.modes.mode = .off then
    let s := s.paddockReset 1
    (s.withModes { s.modes with mode := .keep, vkeep := true, pwrEn := false, causeOpen := false, keepMs := 0 })
  else s

/-- The main rails have gone: THERMTRIP_N is released (R554), and the TAP powers up reset, with IDCODE as its instruction (R555). -/
def Pkg.unpowered (p : Pkg) : Pkg := { straps := p.straps, sampled := p.sampled }

/-- VKEEP_REMOVED: the device is Off (R420). -/
def State.vkeepOff (s : State) : State :=
  if s.modes.mode = .off then s
  else
    let s := s.coldClear false
    let m : Modes := { mode := .off, vkeep := false, pwrEn := false, mgmtUp := false, rails := 0, resetN := s.modes.resetN, paddock := [0, 0, 0, 0] }
    { s with modes := m, bridle := { nodeId := s.bridle.nodeId }, pkg := s.pkg.unpowered }

/-- MAIN_RAILS_APPLIED, with RESET_N and MGMT_RESET_N asserted (R419, R415). -/
def State.mainRails (s : State) : State :=
  let on : State → State := fun s =>
    let s := (s.withBridle { nodeId := s.bridle.nodeId, alarmSeq := s.bridle.alarmSeq }).withPkg s.pkg.unpowered
    let m := { s.modes with mode := .reset, rails := 0x1F, resetN := true, pwrEn := true, mgmtUp := false }
    (s.withModes { m with brownout := false, vkeep := true, holdAlarmMs := 0 })
  match s.modes.mode with
  | .off => on ((s.paddockReset 1).coldClear false)
  | .keep => on ((s.recordCause 2).coldClear true)
  | .reset => s.withModes { s.modes with rails := 0x1F }
  | _ => s

/-- A main rail falls out of range (RAIL_STATUS); with VDD, THERMTRIP_N is released (R554). -/
def State.railFalls (s : State) (rail : Nat) : State :=
  let s := s.withModes { s.modes with rails := s.modes.rails &&& ~~~ ((1 : BitVec 5) <<< rail) }
  if rail = 0 then s.withPkg { s.pkg with thermtrip := false } else s

/-- BROWNOUT of a main rail: a cold reset while RESET_N is released (R420); while it is asserted, and in Keep, only the rail's monitor
and THERMTRIP_N show it (R554). -/
def State.brownedOut (s : State) (rail : Nat) : State :=
  if s.modes.mode = .off then s
  else if s.modes.mode = .keep ∨ s.modes.resetN then s.railFalls rail
  else
    let s := if s.modes.mode = .reset then s else s.coldReset 9
    (s.withModes { s.modes with brownout := true }).railFalls rail

/-- MGMT_RESET_N low for `ns`: the management domain is reset (R22, R67, R95, R149, R359, R450, R534). -/
def State.mgmtAssert (s : State) (ns : Nat) : State :=
  if ns < 1000 || !s.modes.mgmtUp then s
  else
    let loads := s.loadRuns
    let s := (List.range 16).foldl (fun s b => if s.bankState b = 1 ∨ s.bankState b = 6 then s.emptyBank b else s) s
    let s := if loads then
        (((s.withGait { s.gait with loadDue := none }).setNat Obj.gaitLoadOffset 0).setNat Obj.gaitLoadStatus 0).bump Obj.gaitLoadErrors
      else s
    let s := ((s.abortSwap 0x0E false).discardHeld).dropLocks (fun _ => true) 2
    let again : Alarm → Alarm := fun a => if a.acked then a else { a with pushed := none }
    let b : Bridle := { nodeId := s.bridle.nodeId, alarmSeq := s.bridle.alarmSeq, alarms := s.bridle.alarms.map again }
    let g := s.groom
    { s with bridle := b, groom := { stage := g.stage, stageDue := g.stageDue, breaks := g.breaks },
             mem := { s.mem with material := [] }, modes := { s.modes with mgmtUp := false, keepMs := 0 } }

/-- MGMT_RESET_N released: NODE_ID is sampled, the bit rates take effect, and Groom restarts (R453, R534). -/
def State.mgmtRelease (s : State) (node : Nat) : State :=
  if s.modes.mgmtUp || !s.modes.mode.powered then s
  else
    let n := (s.obj Obj.bridleNominal).toNat
    let d := (s.obj Obj.bridleData).toNat
    let s := { s with modes := { s.modes with mgmtUp := true }, bridle := { s.bridle with nodeId := node, nominal := n, data := d } }
    if s.modes.mode != .reset && (s.modes.mode != .bringup || s.stepDone 1) then s.groomRestart false else s

/-! ### Meanings -/

/-- RESET_N_ASSERT (R409). -/
def execResetNAssert (ns : Nat) (s : State) : Host.Outcome State Fault Refusal := .next (s.resetAssert ns)

/-- RESET_HOLD_ALARM (R410). -/
def execResetHoldAlarm (ms : Nat) (s : State) : Host.Outcome State Fault Refusal := .next (s.resetHold ms)

/-- RESET_N_RELEASE (R413). -/
def execResetNRelease (ns : Nat) (s : State) : Host.Outcome State Fault Refusal := .next (s.resetRelease ns)

/-- BRINGUP_PLL_LOCK (R413). -/
def execBringupPllLock (s : State) : Host.Outcome State Fault Refusal := .next s.pllLock

/-- BRINGUP_FUSE (R413, R29, R381). -/
def execBringupFuse (straps : BitVec 32) (s : State) : Host.Outcome State Fault Refusal := .next (s.bringupFuse straps)

/-- BRINGUP_BIST (R107, R413). -/
def execBringupBist (s : State) : Host.Outcome State Fault Refusal := .next s.bringupBist

/-- BRINGUP_KEYS (R357). -/
def execBringupKeys (s : State) : Host.Outcome State Fault Refusal := .next s.bringupKeys

/-- BRINGUP_HUSK_TRAINING (R349). -/
def execBringupHuskTraining (ports : List TrainResult) (s : State) : Host.Outcome State Fault Refusal :=
  .next (s.bringupHusk ports)

/-- BRINGUP_DDR5_TRAINING (R330). -/
def execBringupDdr5Training (chans : List TrainResult) (s : State) : Host.Outcome State Fault Refusal :=
  .next (s.bringupDdr5 chans)

/-- BRINGUP_GAIT (R83). -/
def execBringupGait (s : State) : Host.Outcome State Fault Refusal := .next s.bringupGait

/-- BRINGUP_DONE (R413). -/
def execBringupDone (micros : Nat) (s : State) : Host.Outcome State Fault Refusal := .next (s.bringupDone micros)

/-- BRINGUP_STEP_OVERTIME (R413). -/
def execBringupStepOvertime (step : Fin 16) (s : State) : Host.Outcome State Fault Refusal := .next (s.stepOvertime step.val)

/-- KEEP_ENTRY_DONE (R416). -/
def execKeepEntryDone (s : State) : Host.Outcome State Fault Refusal := .next s.keepEntryDone

/-- WAKE_N_PULSE (R418). -/
def execWakeNPulse (ns : Nat) (s : State) : Host.Outcome State Fault Refusal := .next (s.wakePulse ns)

/-- HELD_WAKE (R418). -/
def execHeldWake (s : State) : Host.Outcome State Fault Refusal := .next s.heldWake

/-- PADDOCK_TIMER_WAKE (R418). -/
def execPaddockTimerWake (ms : Nat) (s : State) : Host.Outcome State Fault Refusal := .next (s.timerWake ms)

/-- REFCLK_STOP_IN_KEEP (R25). -/
def execRefclkStopInKeep (s : State) : Host.Outcome State Fault Refusal := .next s.refclkStop

/-- REFCLK_RETURN (R25). -/
def execRefclkReturn (s : State) : Host.Outcome State Fault Refusal := .next s.refclkBack

/-- VKEEP_POWER_ON (R414). -/
def execVkeepPowerOn (s : State) : Host.Outcome State Fault Refusal := .next s.vkeepOn

/-- VKEEP_REMOVED (R420). -/
def execVkeepRemoved (s : State) : Host.Outcome State Fault Refusal := .next s.vkeepOff

/-- MAIN_RAILS_APPLIED (R419). -/
def execMainRailsApplied (s : State) : Host.Outcome State Fault Refusal := .next s.mainRails

/-- BROWNOUT (R420). -/
def execBrownout (rail : Fin 5) (s : State) : Host.Outcome State Fault Refusal := .next (s.brownedOut rail.val)

/-- MGMT_RESET_N_ASSERT (R22). -/
def execMgmtResetNAssert (ns : Nat) (s : State) : Host.Outcome State Fault Refusal := .next (s.mgmtAssert ns)

/-- MGMT_RESET_N_RELEASE (R453). -/
def execMgmtResetNRelease (nodeId : BitVec 6) (s : State) : Host.Outcome State Fault Refusal :=
  .next (s.mgmtRelease nodeId.toNat)

/-- THERMTRIP (R554). -/
def execThermtrip (temp : Nat) (s : State) : Host.Outcome State Fault Refusal := .next (s.tripAt temp)

end Sys2Proof.Machine
end

