-- ==== Sys2Proof/Machine/Irq.lean ====
section
/-!
DEFINITION. The interrupt controller (12): routing at each stride boundary (R470, R471), the messages and their placement
(R473 to R478), IntDone and PrioReport (R468, R469, R472), EVENT_IN (R480), IRQ_STATUS (R479), SW_RAISE and RING_READ.
-/
namespace Sys2Proof.Machine

/-! ### Level inputs (R468) -/

/-- Whether the source is level-triggered, in force (Table 12.2). -/
def State.levelSource (s : State) (n : Nat) : Bool := (s.srcConfig n).testBit 29

/-- An EVENT_IN ball is asserted under its polarity (R480). -/
def State.ballAsserted (s : State) (b : Nat) : Bool :=
  s.irq.events.toNat.testBit b == (s.eff Obj.eventInPolarity).testBit b

/-- Set the level input of a source and hold the source Pending while it is asserted and not Active; a source held
Pending by its level alone, and not yet routed, falls to Idle with it (R468). -/
def State.setLevel (s : State) (n : Nat) (on : Bool) : State :=
  let x := { s.source n with level := on }
  let x := if (s.srcConfig n).testBit 30 then x else match x.st with
    | .idle => if on then { x with st := .pending, counted := false } else x
    | .pending => if !on && x.target.isNone then { x with st := .idle, rearm := false, counted := false } else x
    | .active => x
  s.setSource n x

/-- At a stride boundary the level inputs of the balls follow their polarity, without an event (R480), a software source that is
no longer level-triggered has no level, and one that is while its input is asserted is held Pending (R468). -/
def State.levelBalls (s : State) : State :=
  let soft := (s.irq.sources.map Prod.fst).filter fun n => decide (0x280 ≤ n) && (s.source n).level && !s.levelSource n
  let s := soft.foldl (fun s n => s.setLevel n false) s
  let held := (s.irq.sources.map Prod.fst).filter fun n => decide (0x280 ≤ n) && (s.source n).level && s.levelSource n
  let s := held.foldl (fun s n => s.setLevel n true) s
  (List.range 16).foldl (fun s b =>
    if s.levelSource (0x40 + b) then s.setLevel (0x40 + b) (s.ballAsserted b)
    else if (s.source (0x40 + b)).level then s.setLevel (0x40 + b) false else s) s

/-! ### Routing -/

/-- Entry `e` of a target group, as (half, core), where it is eligible (R470). -/
def State.targetEntry (s : State) (g e : Nat) : Option (Nat × Nat) :=
  let v := s.eff (Obj.targetEntry + g * 256 + e)
  let h := bitsOf v 13 9
  let c := v % 256
  if v.testBit 15 && (s.link h).state == .active && decide (c ≤ (s.link h).cores) then some (h, c) else none

/-- Report in force of a core: priority, masked, asleep (R472). -/
def State.coreReport (s : State) (h c : Nat) : Nat × Bool × Bool := Assoc.getD s.irq.cores (h * 256 + c) (15, false, false)

/-- The entry that routing chooses in a group: lowest priority, a tie going to the first entry after the one chosen last,
counting cyclically (R471). -/
def State.chooseTarget (s : State) (g : Nat) : Option (Nat × Nat × Nat) :=
  let last := Assoc.getD s.irq.last g 15
  let order := (List.range 16).map fun i => (last + 1 + i) % 16
  let ok : List (Nat × Nat × Nat) := order.filterMap fun e => (s.targetEntry g e).map fun x => (e, x.1, x.2)
  let prio : Nat × Nat × Nat → Nat := fun x => (s.coreReport x.2.1 x.2.2).1
  let low := ok.foldl (fun m x => min m (prio x)) 16
  ok.find? fun x => prio x == low

/-- Count a source that has no eligible target, once for each time it becomes Pending (R471). -/
def State.noTarget (s : State) (n : Nat) : State :=
  let x := s.source n
  if x.counted then s else (s.setSource n { x with counted := true }).bump Obj.noTarget

/-- Put a routed message in the outbox (R471, R474). -/
def State.routeTo (s : State) (n e h c vector : Nat) (fast : Bool) : State :=
  let r := s.coreReport h c
  let m : IrqMsg := { source := n, half := h, core := c, vector := vector, fast := fast, wake := r.2.1 || r.2.2,
                      slot := bitsOf (s.srcConfig n) 28 24 }
  (s.withIrq { s.irq with outbox := s.irq.outbox ++ [m],
                               last := Assoc.put (bitsOf (s.srcConfig n) 23 18) e s.irq.last })

/-- Route a normal-class source (R471). -/
def State.routeNormal (s : State) (n : Nat) : State :=
  let x := s.source n
  let c := s.srcConfig n
  if x.st == .pending && x.target.isNone && c.testBit 31 && !c.testBit 30 then
    match s.chooseTarget (bitsOf c 23 18) with
    | none => s.noTarget n
    | some (e, h, k) => (s.routeTo n e h k (bitsOf c 17 10) false).setSource n { x with target := some (h, k), counted := false }
  else s

/-- A write accepted masks or disables a fast source of a slot (R478). -/
def State.fastShut (s : State) (n k : Nat) : Bool :=
  !(s.obj (arr16 Obj.sourceConfig n)).toNat.testBit 31 || (s.obj (arr16 Obj.fastCtrl k)).toNat.testBit 15

/-- Route a fast-class source: PENDING of its slot moves to SENDING (R477); not at the boundary of a write that masks it after
which one delivery has left already (R478). -/
def State.routeFast (s : State) (n : Nat) : State :=
  let c := s.srcConfig n
  let k := bitsOf c 28 24
  let ctrl := s.eff (arr16 Obj.fastCtrl k)
  if Assoc.getD s.irq.fast k 0 == 1 && c.testBit 31 && !ctrl.testBit 15 && !(s.irq.spent.contains k && s.fastShut n k) then
    match s.chooseTarget (bitsOf c 23 18) with
    | none => s.noTarget n
    | some (e, h, core) =>
      let s := (s.routeTo n e h core (ctrl % 256) true).setSource n { s.source n with counted := false }
      (s.withIrq { s.irq with fast := Assoc.put k 2 s.irq.fast })
  else s

/-- Sources of the fast class, in force (R467). -/
def State.fastSources (s : State) : List Nat :=
  s.dict.eff.filterMap fun (k, v) =>
    if Obj.sourceConfig ≤ k ∧ k < Obj.sourceConfig + 0x4000 ∧ v.toNat.testBit 30
    then some ((k - Obj.sourceConfig) / 256 * 16 + (k - Obj.sourceConfig) % 256) else none

/-- No fast message leaves once a write that masks or disables its source has been in force for a stride: it is PENDING again
(R478; log entry 85). -/
def State.dropShut (s : State) : State :=
  let shut : IrqMsg → Bool := fun m =>
    m.fast && (!(s.srcConfig m.source).testBit 31 || (s.eff (arr16 Obj.fastCtrl m.slot)).testBit 15)
  let fast := (s.irq.outbox.filter shut).foldl (fun l m => Assoc.put m.slot 1 l) s.irq.fast
  s.withIrq { s.irq with outbox := s.irq.outbox.filter fun m => !shut m, fast := fast }

/-- Routing at a stride boundary, with the values in force before it (R471, R477, R488, R490). -/
def State.routeInterrupts (s : State) : State :=
  if s.eventsOn then
    let s := s.dropShut
    let s := s.fastSources.foldl (fun s n => s.routeFast n) s
    let s := (s.irq.sources.map Prod.fst).foldl (fun s n => s.routeNormal n) s
    s.withIrq { s.irq with spent := [] }
  else s

/-! ### Messages -/

/-- Payload of IntDeliver and IntWake (Table 12.3). -/
def IrqMsg.payload (m : IrqMsg) : Nat :=
  m.core <<< 34 + m.source <<< 24 + m.vector <<< 16 + (if m.fast then 1 else 0) <<< 15

/-- A message is withdrawn at its flit: normal class, with ENABLE clear in force (R475). -/
def State.withdrawn (s : State) (m : IrqMsg) : Bool := !m.fast && !(s.srcConfig m.source).testBit 31

/-- A withdrawn message leaves the outbox and its source stays Pending (R475). -/
def State.withdraw (s : State) (m : IrqMsg) : State :=
  let x := s.source m.source
  let s := s.withIrq { s.irq with outbox := dropFirst (fun o => o == m) s.irq.outbox }
  if x.st == .pending then s.setSource m.source { x with target := none, counted := false } else s

/-- A fast delivery leaves after a write that masks or disables it: counted, and the last (R478). -/
def State.late (s : State) (k : Nat) : State :=
  let s := s.bump Obj.fastLate
  s.withIrq { s.irq with spent := k :: s.irq.spent }

/-- Place a message in a flit of its link (R468, R473, R474, R477, R478). -/
def State.placeInterrupt (s : State) (m : IrqMsg) : State :=
  let s := s.withIrq { s.irq with outbox := dropFirst (fun o => o == m) s.irq.outbox }
  let s := (s.sendMgt m.half (if m.wake then 0x11 else 0x10) m.payload).fixed 29 1
  let s := s.bump (if m.wake then Obj.wakes else Obj.deliveries)
  if m.fast then
    let k := m.slot
    let s := if s.fastShut m.source k then s.late k else s
    (s.withIrq { s.irq with fast := Assoc.putD s.irq.fast k 0 (Assoc.getD s.irq.fast k 0 % 2) })
  else s.setSource m.source { s.source m.source with st := .active, target := some (m.half, m.core) }

/-- The next message of a half that is not withdrawn is placed; those before it are withdrawn (R474, R475). -/
def State.sendNext (s : State) : List IrqMsg → State
  | [] => s
  | m :: ms => if s.withdrawn m then (s.withdraw m).sendNext ms else s.placeInterrupt m

/-- INTERRUPT_SEND (R474): a flit of the link is assembled while the H2C holds an MGT credit of it. -/
def State.interruptSend (s : State) (h : Nat) : State :=
  let l := s.link h
  if (l.state == .active || l.state == .quiescing) && decide (0 < l.mgtCredit) then
    s.sendNext (s.irq.outbox.filter fun m => m.half == h)
  else s

/-- An MGT message of an agent has been taken in; its credit is returned (R301, R310). -/
def State.mgtTaken (s : State) (h : Nat) : State :=
  let l := s.link h
  s.setLink h { l with mgtReturn := l.mgtReturn + 1 }

/-- INTDONE (R468, R469). -/
def State.intDone (s : State) (h core n : Nat) : State :=
  if !s.halfUp h then s
  else
    let s := s.mgtTaken h
    let x := s.source n
    let fast := (s.srcConfig n).testBit 30
    if !fast && x.st == .active && x.target == some (h, core) then
      let again := x.rearm || (x.level && s.levelSource n)
      s.setSource n { x with st := if again then .pending else .idle, rearm := false, target := none, counted := false }
    else if fast then s
    else s.bump Obj.unmatchedDone

/-- PRIOREPORT (R472). -/
def State.prioReport (s : State) (h core prio : Nat) (masked asleep : Bool) : State :=
  if !s.halfUp h then s
  else
    let s := s.mgtTaken h
    if (s.link h).cores < core then s.bump Obj.prioErrors
    else s.withIrq { s.irq with cores := Assoc.put (h * 256 + core) (prio, masked, asleep) s.irq.cores }

/-! ### Events -/

/-- A source that reports events (Table 12.1); reserved numbers and the drop marker report none. -/
def sourceDefined (n : Nat) : Bool := decide (n ≤ 0xC6) || (decide (0x100 ≤ n) && decide (n ≤ 0x2FF))

/-- An event of a source whose record meets an uncorrectable error of the ring store (R481): the record is rewound and
counted, and that of an Alarm source is written again from its latch (R484). -/
def State.raiseRewound (s : State) (n : Nat) (data : List Reg) : State :=
  if s.eventsOn then
    let r := bitsOf (s.srcConfig n) 5 0
    let s' := s.record n { source := n, count := 1, stride := s.now, words := data.take 6 }
    let out := if (s'.ring r).wptr = (s.ring r).wptr then s'
      else (if alarmSource n then s' else s).bump (arrIx Obj.ringRewound r)
    out.deliver n
  else s.raise n data

/-- SOURCE_EVENT (R465, R468). -/
def State.sourceEvent (s : State) (n : Nat) (data : List Reg) (storeError : Bool) : State :=
  if !sourceDefined n then s
  else if storeError then s.raiseRewound n data
  else s.raise n data

/-- A ball that has stood at its level for so many REFCLK samples of 10 ns stood there when a write to its filter or polarity restarted
the filter, strides of 32 ns ago (R480; log entry 152). -/
def State.stoodAtRestart (s : State) (b samples : Nat) : Bool :=
  match Assoc.find? b s.irq.restartAt with
  | some t => decide (((s.now : Int) - t) * 32 < samples * 10)
  | none => false

/-- EVENT_IN_CHANGE (R480): the ball has stood at `level` for `samples` REFCLK samples; a level that the ball had when its filter was
restarted is taken without an event. -/
def State.eventInChange (s : State) (b : Nat) (level : Bool) (samples : Nat) : State :=
  let n := 0x40 + b
  let quiet := s.stoodAtRestart b samples
  if s.irq.events.toNat.testBit b == level || (!quiet && decide (samples < s.eff (Obj.eventInFilter + b))) then s
  else
    let bit : BitVec 16 := (1 : BitVec 16) <<< b
    let s := s.withIrq { s.irq with events := if level then s.irq.events ||| bit else s.irq.events &&& ~~~ bit }
    let s := if s.ballAsserted b && !quiet then s.raise n [if level then 1 else 0] else s
    if s.levelSource n then s.setLevel n (s.ballAsserted b) else s

/-- EVENT_IN_FILTER and EVENT_IN_POLARITY: a write restarts the filters of its balls (R480). -/
def State.ownEventIn (k v : Nat) (s : State) : Nat × State :=
  let balls := if k = Obj.eventInPolarity then List.range 16 else [k - Obj.eventInFilter]
  let s := s.store k v
  (0, s.withIrq { s.irq with restartAt := balls.foldl (fun m b => Assoc.put b s.now m) s.irq.restartAt })

/-- SW_RAISE of an accepted value (Table 12.8): the data in word 2; a Board or Host source also records the writer's
level (Table 12.1). A level-triggered source follows data bit 16. -/
def State.ownSwRaise (lvl : Level) (v : Nat) (s : State) : Nat × State :=
  let n := v % 1024
  let data : List Reg := if lvl = .groom then [w64 (v / 65536 % 2 ^ 48)] else [w64 (v / 65536 % 2 ^ 48), w64 (levelNum lvl)]
  if s.levelSource n then
    let on := v.testBit 16
    let s := if on && !(s.source n).level then s.raise n data else s
    (0, s.setLevel n on)
  else (0, s.raise n data)

/-- W1C of IRQ_STATUS (R479). -/
def State.ownIrqStatus (k v : Nat) (s : State) : Nat × State := (0, s.setObj k (s.obj k &&& ~~~ BitVec.ofNat 64 v))

/-- IRQ_OUT_N line `n` is driven low: a set IRQ_STATUS bit belongs to a source whose IRQ_LINE is `n` (R479). -/
def State.irqLine (s : State) (n : Nat) : Bool :=
  (List.range 1024).any fun i =>
    (s.obj (Obj.irqStatus + i / 64)).toNat.testBit (i % 64) && bitsOf (s.srcConfig i) 8 7 == n

/-- The FAST slot rule of SOURCE_CONFIG (R467). -/
def State.ownSourceConfig (k v : Nat) (s : State) : Nat × State :=
  let slot := bitsOf v 28 24
  let clash := s.dict.vals.any fun (j, x) =>
    decide (Obj.sourceConfig ≤ j) && decide (j < Obj.sourceConfig + 0x4000) && j != k && x.toNat.testBit 30
      && bitsOf x.toNat 28 24 == slot
  if v.testBit 30 && clash then (Ref.state, s) else (0, s.store k v)

/-! ### The rows -/

/-- INTDONE. -/
def execIntDone (half : Fin 32) (core : BitVec 8) (source : BitVec 10) (s : State) : Host.Outcome State Fault Refusal :=
  .next (s.intDone half core.toNat source.toNat)

/-- PRIOREPORT. -/
def execPrioReport (half : Fin 32) (core : BitVec 8) (prio : BitVec 4) (masked asleep : Bool) (s : State) :
    Host.Outcome State Fault Refusal :=
  .next (s.prioReport half core.toNat prio.toNat masked asleep)

/-- SOURCE_EVENT. -/
def execSourceEvent (source : BitVec 10) (data : List Reg) (storeError : Bool) (s : State) :
    Host.Outcome State Fault Refusal :=
  .next (s.sourceEvent source.toNat data storeError)

/-- INTERRUPT_SEND. -/
def execInterruptSend (half : Fin 32) (s : State) : Host.Outcome State Fault Refusal := .next (s.interruptSend half)

/-- EVENT_IN_CHANGE. -/
def execEventInChange (ball : Fin 16) (level : Bool) (samples : Nat) (s : State) : Host.Outcome State Fault Refusal :=
  .next (s.eventInChange ball level samples)

/-- IRQ_STATUS_CLEAR. -/
def execIrqStatusClear (lvl : Level) (k : Fin 16) (v : Reg) (s : State) : Host.Outcome State Fault Refusal :=
  .next (s.writeWith lvl (Obj.irqStatus + k) v.toNat (State.ownIrqStatus (Obj.irqStatus + k) v.toNat))

/-- RING_READ (R482). -/
def execRingRead (lvl : Level) (ring : Fin 64) (view : View) (s : State) : Host.Outcome State Fault Refusal :=
  let (c, v, s') := s.readRecorded lvl (arrIx Obj.ringRead ring) view 0
  .next (s'.answer lvl (arrIx Obj.ringRead ring) c v)

/-- SW_RAISE. -/
def execSwRaise (lvl : Level) (v : Reg) (s : State) : Host.Outcome State Fault Refusal :=
  .next (s.writeWith lvl Obj.swRaise v.toNat (State.ownSwRaise lvl v.toNat))

end Sys2Proof.Machine
end

