-- ==== Sys2Proof/Machine/Pmu.lean ====
section
/-!
DEFINITION. The counters (13): what each stride boundary folds into them (R491 to R500), the wraps of sampling counters
(R501, R502), allocation to guests (R509), and the histogram windows (R505 to R508).
-/
namespace Sys2Proof.Machine

/-! ### Folding -/

/-- Key of counter `i`: general 0 to 255, fixed 256 to 287 (R512). -/
def ctrKey (i : Nat) : Nat := if i < 256 then arr16 Obj.ctrValue i else arr16 Obj.fixedValue (i - 256)

/-- A write of the counter's value awaits this boundary (R498). -/
def State.ctrWritten (s : State) (i : Nat) : Bool := s.dict.pending.any fun x => x.1 == ctrKey i

/-- CTR_EVENT of a general counter, in force. -/
def State.ctrEvent (s : State) (n : Nat) : Nat := s.eff (arr16 Obj.ctrEvent n)

/-- A counter that samples (Table 13.2). -/
def State.samples (s : State) (i : Nat) : Bool := decide (i < 8) && (s.ctrEvent i).testBit 29

/-- The value a sampling counter reloads with (R501). -/
def State.sampleReload (s : State) (n : Nat) : Nat :=
  let x := (s.lfsrAt 16 0).toNat % 2 ^ s.eff (Obj.sampleJitter + n)
  2 ^ 48 - (s.eff (Obj.samplePeriod + n) + x)

/-- The wrap of a sampling counter starts a search, which finds no request admitted before it, or is missed while its tag is in flight
(R502). -/
def State.sampleWrap (s : State) (n : Nat) : State :=
  let s := (s.setNat (ctrKey n) (s.sampleReload n)).deliver (0x100 + n)
  if s.pmu.tags.any fun t => t.counter == n then s.bump Obj.samplesMissed
  else if s.pmu.armed.contains n then s
  else
    let txns := s.home.txns.map fun (t : Txn) => { t with tagFor := t.tagFor.filter (· != n) }
    (s.withHome { s.home with txns := txns }).withPmu { s.pmu with armed := s.pmu.armed ++ [n] }

/-- The wrap of counter `i` is an event of its source (R500). -/
def State.ctrOverflow (s : State) (i : Nat) : State :=
  if i < 256 then
    let o := s.eff (arr16 Obj.ctrOwner i)
    s.raise (0x100 + i) [w64 ((if o.testBit 15 then 1 else 0) <<< 26 + (o % 1024) <<< 16 + i)]
  else s.raise (0x200 + (i - 256)) [w64 (i - 256)]

/-- The counter above counts this one's wraps (R499). -/
def State.chained (s : State) (n : Nat) : Bool :=
  decide (n < 256) && (s.ctrEvent n).testBit 30 && (s.ctrEvent n).testBit 31

/-- Add `n` to counter `i`, its wrap raising its source and carrying into a chain (R491, R499 to R501). A value that software
has written stands, and the events before it are discarded (R498, R513); the fall-back copy counts them (R441). -/
def State.foldCtr : Nat → State → Nat → Nat → State
  | 0, s, _, _ => s
  | fuel + 1, s, i, n =>
    if n = 0 then s else
    let s := s.setFallback (ctrKey i) (BitVec.ofNat 64 (((Assoc.getD s.dict.fallback (ctrKey i) 0).toNat + n) % 2 ^ 48))
    if s.ctrWritten i then s
    else
      let sum := (s.obj (ctrKey i)).toNat + n
      let wraps := sum / 2 ^ 48
      let s' := s.setNat (ctrKey i) (sum % 2 ^ 48)
      if wraps = 0 then s'
      else
        let s' := if s.samples i then s'.sampleWrap i else s'.ctrOverflow i
        if i < 256 && s.chained (i + 1) then State.foldCtr fuel s' (i + 1) wraps else s'

/-- Fold the accumulators into the counters (R491, R496). -/
def State.foldCounters (s : State) : State :=
  let acc := s.pmu.acc
  let s := s.withPmu { s.pmu with acc := [], armed := s.pmu.armed.filter s.samples }
  acc.foldl (fun s (x : Nat × Nat) => State.foldCtr 257 s x.1 x.2) s

/-! ### Events of a stride -/

/-- A slot of the stride that ends was used: the ledger holds it for work that is done. -/
def State.slotUsed (s : State) (kind row k : Nat) : Bool :=
  s.gait.ledger.any fun b => b.work == 0 && b.kind == kind && b.row == row && b.slot == k && b.stride + 1 == s.now

/-- Slots of a row and class that passed unused in the stride that ends (Table 13.3, group 4). -/
def State.unusedSlots (s : State) (g : GaitSrc) (kind row cls : Nat) : Nat :=
  ((g.slotsWith kind row fun e => e.cls == cls).filter fun k => !s.slotUsed kind row k).length

/-- Slots of a row that passed unused, Idle ones apart (Table 13.1). -/
def State.unusedRow (s : State) (g : GaitSrc) (kind row : Nat) : Nat :=
  ((g.slotsWith kind row fun e => e.cls != Cls.idle).filter fun k => !s.slotUsed kind row k).length

/-- The counters that are enabled on an event code of group 4, as (row kind, class), without repeats. -/
def State.unusedCodes (s : State) : List (Nat × Nat) :=
  (s.dict.eff.filterMap fun (k, v) =>
    if Obj.ctrEvent ≤ k ∧ k < Obj.ctrEvent + 0x1000 ∧ v.toNat.testBit 31 ∧ v.toNat % 4096 / 256 = 4
    then some (v.toNat / 16 % 16, v.toNat % 16) else none).eraseDups

/-- Events of the stride that ends, STRIDE_COUNT standing at the next: its FCLK cycles and its unused slots. An event of no unit
matches no UNIT of a filter (log entry 128). -/
def State.countStrideEnd (s : State) : State :=
  let s := (s.countU 0xB00 32 64).fixed 0 64
  match s.gaitAt (s.now - 1) with
    | none => s
    | some g =>
      let s := s.unusedCodes.foldl (fun (s : State) (x : Nat × Nat) =>
        (List.range (rowsOf x.1)).foldl (fun (s : State) r => s.countU (0x400 + x.1 * 16 + x.2) r (s.unusedSlots g x.1 r x.2)) s) s
      if (s.eff Obj.fixedEnable).testBit 21 then
        s.fixed 21 (((List.range 16).map fun p => s.unusedRow g 4 p).foldl (· + ·) 0)
      else s

/-- Requests that wait for admission, with their queues' halves (Table 13.3, 0x006). -/
def State.waitingRequests (s : State) : List (Nat × Req) :=
  s.ports.queues.foldl (fun l (x : Nat × List QReq) => l ++ x.2.map fun (q : QReq) => (x.1 / 512, q.req)) []

/-- Events of the boundary cycle itself: the stride, and the items present "per stride" (Table 13.3). -/
def State.countStrideStart (s : State) : State :=
  let s := (s.countU 0xB01 32 1).fixed 1 1
  let s := if (s.countersOn 0x006).isEmpty then s
    else s.waitingRequests.foldl (fun s (x : Nat × Req) =>
      s.countR 0x006 (sliceOf (homeOf x.2.addr.toNat s.domainSize).2) x.1 x.2 1) s
  if (s.countersOn 0x705).isEmpty then s
  else (List.range 12).foldl (fun s ch => s.countU 0x705 ch (s.pwb ch).length) s

/-! ### Writes that take effect (R498, R507, R509) -/

/-- An object of the CTR_OWNER array, by counter. -/
def ownerOf (k : Nat) : Option Nat :=
  if Obj.ctrOwner ≤ k ∧ k < Obj.ctrOwner + 0x1000 then some ((k - Obj.ctrOwner) / 256 * 16 + (k - Obj.ctrOwner) % 256) else none

/-- A change of CTR_OWNER zeroes the counter and clears ENABLE, CHAIN and SAMPLE (R509). -/
def State.ownerChanged (s : State) (n : Nat) : State :=
  let k := arr16 Obj.ctrEvent n
  let clear : Reg → Reg := fun v => v &&& 0x1FFFFFFF
  let s := ((s.setObj k (clear (s.obj k))).setEff k (clear (s.effObj k))).setNat (ctrKey n) 0
  (s.withPmu { s.pmu with armed := s.pmu.armed.filter (· != n), acc := Assoc.drop n s.pmu.acc })

/-- A new HIST_WINDOW takes effect at the boundary under way (R507, R513): a window that closes here closes under the
old value, and counting starts at the epoch boundary at or after this one. -/
def State.windowChanged (s : State) : State :=
  let closes := s.epochPhase == 0 && decide (s.eff Obj.histWindow ≤ s.pmu.epochs + 1) && !s.pmu.restart
  (s.withPmu { s.pmu with restart := true, windowDue := s.pmu.windowDue || closes })

/-- A window closes at this boundary: the live values of the enabled halves stand and restart (R507). -/
def State.closeWindow (s : State) : State :=
  let on := fun (x : Nat × Hist) => (s.eff Obj.histEnable).testBit x.1
  s.withPmu { s.pmu with epochs := 0, windowDue := true, closedAt := s.now,
                         closing := s.pmu.live.filter on, live := s.pmu.live.filter fun x => !on x }

/-- At an epoch boundary the window grows by an epoch, or a new count starts there (R507). -/
def State.windowEpoch (s : State) : State :=
  if s.pmu.restart then
    let s := if s.pmu.windowDue then s.closeWindow else s
    s.withPmu { s.pmu with restart := false, epochs := 0, live := [] }
  else if s.eff Obj.histWindow ≤ s.pmu.epochs + 1 then s.closeWindow
  else s.withPmu { s.pmu with epochs := s.pmu.epochs + 1 }

/-! ### Histogram windows -/

/-- The lowest bin whose cumulative count reaches `num / 100` of `reads`; zero without reads (Table 13.6). -/
def percentile (bins : List Nat) (reads num : Nat) : Nat :=
  if reads = 0 then 0
  else ((List.range 32).find? fun b => decide (num * reads ≤ 100 * (bins.take (b + 1)).foldl (· + ·) 0)).getD 31

/-- The window objects of a half take its live values at the boundary that closed the window (R507). -/
def State.copyHist (s : State) (h : Nat) (x : Hist) : State :=
  let cap := fun n => min n 0xFFFFFFFF
  let s := (List.range 32).foldl (fun s b =>
    s.setNat (if b < 16 then Obj.histBinLow + h * 256 + b else Obj.histBinHigh + h * 256 + (b - 16)) (cap (x.bins.getD b 0))) s
  let s := s.setNat (Obj.histSeq + h * 256) (((s.obj (Obj.histSeq + h * 256)).toNat + 1) % 2 ^ 32)
  let s := (s.setNat (Obj.histReads + h * 256) (cap x.reads)).setNat (Obj.histBytesOut + h * 256) x.bytesOut
  let s := (s.setNat (Obj.histBytesIn + h * 256) x.bytesIn).setNat (Obj.histMax + h * 256) (min x.max 0xFFFF)
  (s.setNat (Obj.histOverBound + h * 256) (cap x.overs)).setNat (Obj.histEnd + h * 256) s.pmu.closedAt

/-- Words 2 to 7 of the window record (Table 13.6). -/
def State.windowRecord (s : State) (h : Nat) (x : Hist) : List Reg :=
  let o := fun k => s.obj (k + h * 256)
  [w64 (h <<< 32 + (o Obj.histSeq).toNat), o Obj.histReads, o Obj.histBytesOut, o Obj.histBytesIn,
    w64 ((o Obj.histMax).toNat + (percentile x.bins x.reads 50) <<< 16 + (percentile x.bins x.reads 99) <<< 24),
    o Obj.histOverBound]

/-- One half's window closes (R507). -/
def State.closeHalf (s : State) (h : Nat) : State :=
  let x := Assoc.getD s.pmu.closing h {}
  let s := s.copyHist h x
  s.raise (0x220 + h) (s.windowRecord h x)

/-- HIST_WINDOW_CLOSE (R507). -/
def State.histWindowClose (s : State) : State :=
  if s.pmu.windowDue then
    let s := (setBits (s.eff Obj.histEnable) 32).foldl (fun s h => s.closeHalf h) s
    s.withPmu { s.pmu with windowDue := false, closing := [] }
  else s

/-! ### The rows -/

/-- CTR_VALUE_WRITE: a write to CTR_VALUE or FIXED_VALUE (R498). -/
def execCtrValueWrite (lvl : Level) (fixed : Bool) (n : BitVec 8) (v : Reg) (s : State) : Host.Outcome State Fault Refusal :=
  let k := ctrKey (if fixed then 256 + n.toNat % 32 else n.toNat)
  .next (s.writeWith lvl k v.toNat fun s => (0, s.store k v.toNat))

/-- CTR_OWNER_WRITE (R509). -/
def execCtrOwnerWrite (lvl : Level) (n : BitVec 8) (v : Reg) (s : State) : Host.Outcome State Fault Refusal :=
  let k := arr16 Obj.ctrOwner n.toNat
  .next (s.writeWith lvl k v.toNat fun s => (0, s.store k v.toNat))

/-- HIST_WINDOW_CLOSE. -/
def execHistWindowClose (s : State) : Host.Outcome State Fault Refusal := .next s.histWindowClose

end Sys2Proof.Machine
end

