-- ==== Sys2Proof/Machine/Dict.lean ====
section
/-!
DEFINITION. The dictionary as a whole (11): each object's own rule behind one write (R431, R432), the access ports (R442),
locks (R447 to R450), store errors (R451), snapshots (R443, R444), and Bridle's requests (R455 to R460).
-/
namespace Sys2Proof.Machine

/-! ### Locks -/

/-- DICT_LOCK's own rule (R447, R449). -/
def State.ownDictLock (lvl : Level) (a v : Nat) (s : State) : Nat × State :=
  let l := s.lock a
  match v % 256 with
  | 1 => match l.holder with
    | some _ => (Ref.state, s)
    | none => (0, s.setLock a { holder := some lvl, result := l.result, at_ := s.now })
  | 2 => if l.holder = some lvl ∧ !l.committing then (0, s.setLock a { l with committing := true, at_ := s.now }) else (Ref.state, s)
  | _ => if l.holder = some lvl ∧ !l.committing then (0, s.setLock a { result := 2 }) else (Ref.state, s)

/-- LOCK_EXPIRY (R450): source 0x0BA has its event. -/
def State.lockExpiry (s : State) (a : Nat) : State :=
  let l := s.lock a
  if l.holder.isSome && !l.committing && decide (l.at_ + s.eff Obj.lockTimeout ≤ s.now) then
    let s := (s.setLock a { result := 3 }).bump Obj.lockExpiries
    s.raise 0xBA [w64 a, w64 (s.lock a).code]
  else s

/-- DICT_STORE_ERROR (R451). -/
def State.dictStoreError (s : State) (w : StoreWord) : State :=
  let area := match w with
    | .applied k => areaOf k
    | .staged a => a.val
    | .gaitBlob => 0x2
    | .keyBlob => 0xC
    | .stageBlob => 0xA
    | .holding => 0x1
  let s := match w with
    | .applied _ => s
    | .staged a => if (s.lock a.val).holder.isSome then s.setLock a.val { result := 5 } else s
    | .gaitBlob => s.ownGaitAbandon.2
    | .keyBlob => s.withMem { s.mem with material := [] }
    | .stageBlob => if s.obj Obj.stageStatus = 1 then s.ownStageAbandon.2 else s
    | .holding => s.setNat Obj.snapshotValid 0
  (s.bump Obj.dictStoreErrors).raise 0xBA [w64 area, w64 (s.lock area).code]

/-! ### Snapshots -/

/-- SNAPSHOT_COMMAND's own rule (R443, R444). -/
def State.ownSnapshot (v : Nat) (s : State) : Nat × State :=
  (0, s.withDict { s.dict with snapTake := true, snapClear := s.dict.snapClear || v % 256 == 2, snapAt := s.now })

/-- The object is a counter or a peak (R439). -/
def isCounter (k : Nat) : Bool :=
  match objRow k with
  | some r => r.kind == .counter || r.kind == .peak
  | none => false

/-- An RC read would clear the object's LIVE value (R440). -/
def clearsOnRead (k : Nat) : Bool :=
  match objRow k with
  | some r => isCounter k && (r.board == .rc || r.host == .rc || r.guest == .rc || r.groom == .rc)
  | none => false

/-- The values of every counter and peak object; four of them are Groom's registers (R443, R528). -/
def State.counterValues (s : State) : Assoc Reg :=
  [Obj.brCount, Obj.brCount + 1, Obj.brCount + 2, Obj.brCount + 3].foldl (fun l k => Assoc.putD l k 0 (s.live k))
    (s.dict.vals.filter fun x => isCounter x.1)

/-- The stride boundary of a snapshot: every counter and peak is copied with the events before it (R443, R444, R497). -/
def State.freezeSnapshot (s : State) : State :=
  if s.dict.snapTake && decide (s.dict.snapAt < s.now) then
    s.withDict { s.dict with frozen := some ⟨s.now, s.dict.snapClear, s.counterValues⟩, snapTake := false, snapClear := false }
  else s

/-- SNAPSHOT_CLEAR clears an RC value that was copied: the increments at and after the boundary stay, and a peak restarts from the
current occupancy (R440, R443). -/
def State.clearCopied (s : State) (k : Nat) (v : Reg) : State :=
  match objRow k with
  | some r => if r.kind = .peak then s.setNat k (s.peakNow k) else s.setNat k ((s.obj k).toNat - v.toNat)
  | none => s

/-- SNAPSHOT_TAKEN: the holding registers are filled with the boundary's copy, and with SNAPSHOT_CLEAR the RC values restart
(R443, R444, R497). -/
def State.snapshotTaken (s : State) : State :=
  match s.dict.frozen with
  | none => s
  | some f =>
    let s := s.withDict { s.dict with holding := f.vals, frozen := none }
    let s := (if f.clear then f.vals.filter fun x => clearsOnRead x.1 else []).foldl (fun s x => s.clearCopied x.1 x.2) s
    let s := (s.setNat Obj.snapshotSeq (((s.obj Obj.snapshotSeq).toNat + 1) % 2 ^ 32)).setNat Obj.snapshotStride f.at_
    (s.setNat Obj.snapshotValid 1).raise 0xBB [s.obj Obj.snapshotSeq]

/-! ### Own rules -/

/-- DDR5_MARKED: writable in Bring-up, before MEM_CONFIG_VALID is set; hardware-owned otherwise (R370). -/
def State.ownMarked (k v : Nat) (s : State) : Nat × State :=
  if s.modes.mode = .bringup ∧ s.obj Obj.memConfigValid = 0 then (0, s.store k v) else (Ref.hwOwned, s)

/-- The Paddock's RW (Board) fields take the value (R414, Table 10.6). -/
def State.ownPaddock (w v : Nat) (s : State) : Nat × State :=
  match w with
  | 0 => (0, s.editPaddock 0 fun x => putBits x 50 16 (bitsOf v 50 16))
  | 3 => (0, s.editPaddock 3 fun x => putBits x 63 8 (bitsOf v 63 8))
  | _ => (0, s)

/-- A Guest's counter: its CTR_VALUE, or ENABLE and EVENT of its CTR_EVENT (R510, R511). -/
def State.ownGuest (k v partid : Nat) (s : State) : Nat × State :=
  match s.guestCounter partid k with
  | none => (Ref.noObject, s)
  | some n =>
    if k / 256 = 0x9500 then (0, s.store (arr16 Obj.ctrValue n) v)
    else
      let e := arr16 Obj.ctrEvent n
      let v' := ((s.obj e).toNat &&& 0x7FFFF000) ||| (v &&& 0x80000FFF)
      match s.checkRange e v' with
      | 0 => (0, s.store e v')
      | c => (c, s)

/-- The own rule of an object (R432); an object without one stores the value (R431). -/
def State.own (lvl : Level) (k v partid : Nat) (s : State) : Nat × State :=
  let i := k / 256
  let sub := k % 256
  let r : Reg := BitVec.ofNat 64 v
  match i with
  | 0x1004 => s.ownDictLock lvl (sub - 1) v
  | 0x1020 => s.ownSnapshot v
  | 0x2100 =>
    if k = Obj.gaitLoadBank then s.ownGaitLoadBank v
    else if k = Obj.gaitLoadImage then s.ownGaitLoadImage r
    else if k = Obj.gaitLoadCommand then s.ownGaitLoadCommand v
    else (0, s.store k v)
  | 0x2104 =>
    if k = Obj.gaitSelect then s.ownGaitSelect v
    else if k = Obj.gaitSwapCommit then s.ownGaitSwapCommit v
    else (0, s.store k v)
  | 0x3100 => s.ownPartApply v
  | 0x3400 => if k = Obj.maintCommand then s.ownMaintCommand v else (0, s.store k v)
  | 0x6000 => if 1 ≤ sub ∧ sub ≤ 6 then s.ownPopulation k v else (0, s.store k v)
  | 0x6200 => if k = Obj.drainCommand then s.ownDrainCommand v else (0, s.store k v)
  | 0x7003 => s.ownMarked k v
  | 0x8080 => s.ownIrqStatus k v
  | 0x8410 | 0x8411 => s.ownEventIn k v
  | 0x8420 => s.ownSwRaise lvl v
  | 0xA000 => if k = Obj.groomCommand then s.ownGroomCommand v else (0, s.store k v)
  | 0xA100 => if k = Obj.stageCommand then s.ownStageCommand v else s.ownStageImage r
  | 0xB000 => if k = Obj.modeRequest then s.ownModeRequest lvl v else (0, s.store k v)
  | 0xB001 => if k = Obj.resetCommand then (0, s.settleReset 5) else (0, s.store k v)
  | 0xB100 => s.ownPaddock (sub - 1) v
  | 0xC000 =>
    if k = Obj.keyIndex then s.ownKeyIndex v
    else if k = Obj.keyMaterial then s.ownKeyMaterial r
    else s.ownKeyCommand v
  | _ =>
    if (0x3200 ≤ i ∧ i ≤ 0x3207) ∨ (0x3300 ≤ i ∧ i ≤ 0x3303) then s.ownPartition k v
    else if 0x4100 ≤ i ∧ i ≤ 0x413F then
      (if sub = 3 then s.ownRegionAttr (i - 0x4100) v else s.ownRegionBound k v)
    else if 0x5100 ≤ i ∧ i ≤ 0x510F ∧ sub = 2 then s.ownLinkCommand (i - 0x5100) v
    else if 0x8000 ≤ i ∧ i ≤ 0x803F then s.ownSourceConfig k v
    else if guestObject k then s.ownGuest k v partid
    else (0, s.store k v)

/-! ### Access ports (R442) -/

/-- PORT_SELECT of port `p` in force: the selected key and view. -/
def State.portSelected (s : State) (p : Nat) : Nat × View :=
  let v := s.eff (Obj.portSelect + p)
  (v / 65536 % 65536 * 256 + v / 256 % 256,
    match v / 64 % 4 with | 0 => .live | 1 => .peek | 2 => .fallback | _ => .snapshot)

/-- The selected object is one of the ports' own (R442); at a sub-index of theirs that no table names there is no object. -/
def isPortObject (k : Nat) : Bool := decide (0x1010 ≤ k / 256) && decide (k / 256 ≤ 0x1012) && (objRow k).isSome

/-- A write that has passed every other check is refused in a view other than LIVE: VIEW is the last of Table 11.4 (R439). -/
def State.lastView (s : State) (lvl : Level) (k : Nat) (view : View) (r : Nat × State) : Nat × State :=
  if r.1 = 0 ∧ view ≠ .live then (Ref.view, s.refuse lvl k Ref.view) else r

/-- A write through a port, with Host rights. -/
def State.portWrite (s : State) (p v : Nat) : Nat × State :=
  let (k, view) := s.portSelected p
  let c := if isPortObject k then Ref.access else s.checkWrite .host k v 0
  if c ≠ 0 then (c, s.recordRefusal .host k c)
  else s.lastView .host k view (s.guarded .host k v 0 (State.own .host k v 0))

/-- A read through a port, with Host rights. -/
def State.portRead (s : State) (p : Nat) : Nat × Reg × State :=
  let (k, view) := s.portSelected p
  if isPortObject k then (Ref.access, 0, s.recordRefusal .host k Ref.access)
  else
    let (c, v, s') := s.readObj .host k view 0
    if c = 0 then (0, v, s') else (c, 0, s'.recordRefusal .host k c)

/-- PORT_STATUS takes the code (R442). -/
def State.portStatus (s : State) (p c : Nat) : State := s.setNat (Obj.portStatus + p) c

/-! ### Reads and writes of every object -/

/-- A write at a level through Table 11.4; PORT_DATA writes the selected object. -/
def State.writeObj (s : State) (lvl : Level) (k v partid : Nat) : Nat × State :=
  if k / 256 = 0x1011 then
    let p := k % 256 - 1
    let c := s.checkWrite lvl k v partid
    if c ≠ 0 then (c, s.refuse lvl k c)
    else
      let (c, s') := s.portWrite p v
      (c, s'.portStatus p c)
  else s.guarded lvl k v partid (State.own lvl k v partid)

/-- A read at a level; PORT_DATA reads the selected object, at JTAG in the PEEK view and without a trace. -/
def State.readAny (s : State) (lvl : Level) (k : Nat) (view : View) (partid : Nat) : Nat × Reg × State :=
  if k / 256 = 0x1011 ∧ (objRow k).isSome ∧ lvl = .jtag then
    let x := (s.portSelected (k % 256 - 1)).1
    if isPortObject x then (Ref.access, 0, s) else s.readObj .jtag x .peek partid
  else if k / 256 = 0x1011 then
    let (c, v, s') := s.readRecorded lvl k view partid
    if c ≠ 0 then (c, v, s')
    else
      let p := k % 256 - 1
      let (c, v, s') := s'.portRead p
      (c, v, s'.portStatus p c)
  else s.readRecorded lvl k view partid

/-! ### Writes taking effect -/

/-- A value comes into force, with what its object does then: a partition change clears every monitor (Table 6.4) and is held
while PART_APPLY is AT_SWITCH; HIST_WINDOW starts a new count (R507). -/
def State.takeEffect (s : State) (k : Nat) (v : Reg) : State :=
  let i := k / 256
  if (0x3200 ≤ i ∧ i ≤ 0x3207) ∨ (0x3300 ≤ i ∧ i ≤ 0x3303) then (s.setEff k v).clearMonitors Rsv.partition fun _ _ => true
  else if k = Obj.histWindow then s.windowChanged.setEff k v
  else s.setEff k v

/-- The writes accepted before a boundary take effect at it (R431); changes of CTR_OWNER last (R509). -/
def State.takeWrites (s : State) (l : List (Nat × Reg)) : State :=
  let moved := (l.map fun (x : Nat × Reg) => x.1).filterMap fun k =>
    match ownerOf k with
    | some n => if l.any (fun (x : Nat × Reg) => x.1 == k && x.2 != s.effObj k) then some n else none
    | none => none
  let s := l.foldl (fun s (x : Nat × Reg) => s.takeEffect x.1 x.2) s
  moved.foldl (fun s n => s.ownerChanged n) s

/-- At a stride boundary every pending write takes effect. -/
def State.takePending (s : State) : State :=
  let l := s.dict.pending
  (s.withDict { s.dict with pending := [] }).takeWrites l

/-- The staged writes in order, each through its own rule: the state after them, or the first that fails with its code. A staged
PART_APPLY is in force for the writes staged after it, which take effect at the same boundary (R149, R449). -/
def State.applyStaged : List StagedWrite → State → State ⊕ (StagedWrite × Nat)
  | [], s => .inl s
  | w :: ws, s =>
    let c := s.checkRange w.key w.v.toNat
    if c ≠ 0 then .inr (w, c)
    else match State.own w.lvl w.key w.v.toNat 0 s with
      | (0, s') => State.applyStaged ws (if w.key = Obj.partApply then s'.setEff w.key (s'.obj w.key) else s')
      | (c, _) => .inr (w, c)

/-- LOCK_COMMIT_APPLY (R449). -/
def State.commitApply (s : State) (a : Nat) : State :=
  let l := s.lock a
  if l.committing && decide (l.at_ < s.now) then
    let n := s.dict.pending.length
    match State.applyStaged l.staged (s.setLock a { result := 1 }) with
    | .inl s' =>
      let now := s'.dict.pending.drop n
      (s'.withDict { s'.dict with pending := s'.dict.pending.take n }).takeWrites now
    | .inr (w, c) => (s.setLock a { result := 4 }).recordRefusal w.lvl w.key c
  else s

/-! ### Bridle requests -/

/-- Key that a READ or WRITE frame names (Table 11.8). -/
def frameKey (f : Frame) : Nat := f.num 2 2 * 256 + f.byte 4

/-- View of a frame (Table 11.8, R439). -/
def frameView (f : Frame) : View := match f.byte 1 % 4 with | 0 => .live | 1 => .peek | 2 => .fallback | _ => .snapshot

/-- Segments of a BLOB received so far: its append offset (R438, R458). -/
def State.appendOffset (s : State) (k : Nat) : Nat :=
  if k = Obj.gaitLoadImage then (s.obj Obj.gaitLoadOffset).toNat / 8
  else if k = Obj.stageImage then s.groom.stage.length
  else s.mem.material.length

/-- Size of a BLOB in segments. -/
def blobSegments (k : Nat) : Nat := if k = Obj.gaitLoadImage then 1736 else if k = Obj.stageImage then 32832 else 8

/-- A READ or WRITE frame with a reserved byte that is not zero (R455). -/
def frameOdd (f : Frame) (blob : Bool) : Bool :=
  f.byte 0 != 0 || f.byte 1 / 4 != 0 || (!blob && f.num 6 2 != 0) || ((f.data.drop (8 + f.byte 5)).any (· != 0))

/-- Response identifier of a request (Table 11.7, R457). -/
def State.responseId (s : State) (f : Frame) : BitVec 29 :=
  bridleId 1 1 (frameField f 17 12) s.bridle.nodeId (frameField f 11 8) (frameField f 7 0)

/-- A response in the form of Table 11.8: STATUS, VIEW, INDEX and SUB echoed, OFFSET and DATA. -/
def State.readWriteResponse (s : State) (f : Frame) (code offset : Nat) (data : List (BitVec 8)) : Frame :=
  { ident := s.responseId f
    data := padFd (leBytes code 1 ++ leBytes (f.byte 1) 1 ++ leBytes (f.num 2 2) 2 ++ leBytes (f.byte 4) 1
      ++ leBytes data.length 1 ++ leBytes offset 2 ++ data) }

/-- The type of an object is BLOB. -/
def isBlob (k : Nat) : Bool := match objRow k with | some r => r.ty == .blob | none => false

/-- Append whole segments, as so many register writes (R458). -/
def State.appendAll (k : Nat) (f : Frame) : Nat → Nat → State → Nat × State
  | 0, _, s => (0, s)
  | n + 1, i, s =>
    match s.guarded .board k (f.num (8 + 8 * i) 8) 0 (State.own .board k (f.num (8 + 8 * i) 8) 0) with
    | (0, s') => State.appendAll k f n (i + 1) s'
    | r => r

/-- What a WRITE frame does: its code (R455, R458, Table 11.4). -/
def State.frameWrite (s : State) (f : Frame) : Nat × State :=
  let k := frameKey f
  let len := f.byte 5
  let c := s.checkWrite .board k (f.num 8 8) 0
  let size := match objRow k with | some r => r.ty.bytes | none => 0
  let c := if c ≠ 0 then c
    else if decide (f.data.length < 8 + len) || decide (56 < len) then Ref.length
    else if isBlob k then
      (if len = 0 ∨ len % 8 ≠ 0 ∨ blobSegments k < s.appendOffset k + len / 8 then Ref.length
       else if f.num 6 2 ≠ s.appendOffset k then Ref.sequence else 0)
    else if len ≠ size then Ref.length else 0
  if c ≠ 0 then (c, (if c = Ref.length ∧ k = Obj.gaitLoadImage then s.bump Obj.gaitLoadErrors else s).refuse .board k c)
  else s.lastView .board k (frameView f)
    (if isBlob k then State.appendAll k f (len / 8) 0 s else s.writeObj .board k (f.num 8 len) 0)

/-- Response bytes of IDENTIFY (Table 11.9). -/
def State.identity (s : State) : List (BitVec 8) :=
  let v := fun k n => leBytes (s.live k).toNat n
  leBytes 0 8 ++ v Obj.vendorCode 2 ++ v Obj.partCode 2 ++ v Obj.stepping 1 ++ v Obj.fusedConfig 1 ++ v Obj.dictVersion 2
    ++ v Obj.bridleVersion 2 ++ v Obj.domainIndex 1 ++ v Obj.modeCurrent 1 ++ v Obj.serial 8

/-- Execute a request: its response (R455, R456). -/
def State.execFrame (s : State) (f : Frame) : Frame × State :=
  let k := frameKey f
  match frameField f 11 8 with
  | 0 => ({ ident := s.responseId f, data := padFd s.identity }, s)
  | 1 =>
    let s := if frameOdd f (isBlob k) then s.bump Obj.busIgnored else s
    let (c, v, s) := s.readAny .board k (frameView f) 0
    let n := match objRow k with | some r => r.ty.bytes | none => 0
    (s.readWriteResponse f c 0 (if c = 0 then leBytes v.toNat n else []), s)
  | 2 =>
    let s := if frameOdd f (isBlob k) then s.bump Obj.busIgnored else s
    let (c, s) := s.frameWrite f
    (s.readWriteResponse f c (if isBlob k then s.appendOffset k else 0) [], s)
  | _ =>
    let s := s.refuse .board 0 Ref.noService
    ({ ident := s.responseId f, data := padFd (leBytes Ref.noService 8) }, s)

/-- The request matches one executed within the last 50 ms (R459). -/
def Executed.same (e : Executed) (f : Frame) (ms : Nat) : Bool :=
  e.src == frameField f 17 12 && e.service == frameField f 11 8 && e.seq == frameField f 7 0 && decide (ms ≤ e.ms + 50)

/-- Requests of a source that may await their responses yet: each is answered within 1 ms (R457). -/
def State.openRequests (s : State) (src ms : Nat) : Nat := (s.bridle.executed.filter fun e => e.src == src && decide (ms ≤ e.ms + 1)).length

/-- The response BUSY of a request that is not executed (R457), recorded under R433. -/
def State.busyFrame (s : State) (f : Frame) : Frame × State :=
  let service := frameField f 11 8
  if service = 1 ∨ service = 2 then (s.readWriteResponse f Ref.busy 0 [], s.refuse .board (frameKey f) Ref.busy)
  else ({ ident := s.responseId f, data := padFd (leBytes Ref.busy 8) }, s.refuse .board 0 Ref.busy)

/-- A request frame on a bus: answered with the stored response where it repeats one, else executed and answered (R457,
R459, R460). Where four or more of its source may be open, a free value says whether four are (log entry 163). -/
def State.bridleRequest (s : State) (bus : Nat) (f : Frame) (ms : Nat) (serves : Nat → Bool) : State :=
  let (mine, s) := s.takes bus f
  let service := frameField f 11 8
  if !mine || frameField f 25 25 == 1 || !serves service then s
  else
    match s.bridle.executed.find? fun e => e.same f ms with
    | some e => (s.bump Obj.bridleDuplicates).sendOn bus e.resp
    | none =>
      let (full, s) : BitVec 1 × State := if 4 ≤ s.openRequests (frameField f 17 12) ms then s.draw 1 else (0, s)
      if full = 1 then
        let (r, s) := s.busyFrame f
        s.sendOn bus r
      else
      let (r, s) := s.execFrame f
      let e : Executed := { src := frameField f 17 12, service := service, seq := frameField f 7 0, ms := ms, resp := r }
      let kept := s.bridle.executed.filter fun e => decide (ms ≤ e.ms + 50)
      (s.withBridle { s.bridle with executed := kept ++ [e] }).sendOn bus r

/-! ### The rows -/

/-- IDENTIFY (R456). -/
def execIdentify (bus : Fin 2) (f : Frame) (ms : Nat) (s : State) : Host.Outcome State Fault Refusal :=
  .next (s.bridleRequest bus.val f ms (· == 0))

/-- BRIDLE_READ (R455); reserved services are answered here too (Table 11.9). -/
def execBridleRead (bus : Fin 2) (f : Frame) (ms : Nat) (s : State) : Host.Outcome State Fault Refusal :=
  .next (s.bridleRequest bus.val f ms fun n => n == 1 || decide (6 ≤ n))

/-- BRIDLE_WRITE (R455). -/
def execBridleWrite (bus : Fin 2) (f : Frame) (ms : Nat) (s : State) : Host.Outcome State Fault Refusal :=
  .next (s.bridleRequest bus.val f ms (· == 2))

/-- Key of an index and sub-index. -/
abbrev keyOf (index : BitVec 16) (sub : BitVec 8) : Nat := index.toNat * 256 + sub.toNat

/-- DICT_WRITE (R431, R432). -/
def execDictWrite (lvl : Level) (index : BitVec 16) (sub : BitVec 8) (v : Reg) (s : State) : Host.Outcome State Fault Refusal :=
  let (c, s') := s.writeObj lvl (keyOf index sub) v.toNat 0
  .next (s'.answer lvl (keyOf index sub) c 0)

/-- RC_READ (R440). -/
def execRcRead (lvl : Level) (index : BitVec 16) (sub : BitVec 8) (view : View) (s : State) : Host.Outcome State Fault Refusal :=
  let (c, v, s') := s.readAny lvl (keyOf index sub) view 0
  .next (s'.answer lvl (keyOf index sub) c v)

/-- PORT_DATA_ACCESS (R442). -/
def execPortDataAccess (p : Fin 16) (write : Option Reg) (s : State) : Host.Outcome State Fault Refusal :=
  let k := Obj.portData + p.val
  match write with
  | some v =>
    let (c, s') := s.writeObj .host k v.toNat 0
    .next (s'.answer .host k c 0)
  | none =>
    let (c, v, s') := s.readAny .host k .live 0
    .next (s'.answer .host k c v)

/-- LOCK_ACQUIRE (R447). -/
def execLockAcquire (lvl : Level) (area : Fin 16) (s : State) : Host.Outcome State Fault Refusal :=
  .next (s.writeWith lvl (Obj.dictLock + area.val) 1 (State.ownDictLock lvl area.val 1))

/-- LOCK_COMMIT (R449). -/
def execLockCommit (lvl : Level) (area : Fin 16) (s : State) : Host.Outcome State Fault Refusal :=
  .next (s.writeWith lvl (Obj.dictLock + area.val) 2 (State.ownDictLock lvl area.val 2))

/-- LOCK_COMMIT_APPLY (R449). -/
def execLockCommitApply (area : Fin 16) (s : State) : Host.Outcome State Fault Refusal := .next (s.commitApply area.val)

/-- LOCK_ABANDON (R449). -/
def execLockAbandon (lvl : Level) (area : Fin 16) (s : State) : Host.Outcome State Fault Refusal :=
  .next (s.writeWith lvl (Obj.dictLock + area.val) 3 (State.ownDictLock lvl area.val 3))

/-- LOCK_EXPIRY (R450). -/
def execLockExpiry (area : Fin 16) (s : State) : Host.Outcome State Fault Refusal := .next (s.lockExpiry area.val)

/-- DICT_STORE_ERROR (R451). -/
def execDictStoreError (w : StoreWord) (s : State) : Host.Outcome State Fault Refusal := .next (s.dictStoreError w)

/-- SNAPSHOT (R443). -/
def execSnapshot (lvl : Level) (s : State) : Host.Outcome State Fault Refusal :=
  .next (s.writeWith lvl Obj.snapshotCommand 1 (State.ownSnapshot 1))

/-- SNAPSHOT_CLEAR (R443, R444). -/
def execSnapshotClear (lvl : Level) (s : State) : Host.Outcome State Fault Refusal :=
  .next (s.writeWith lvl Obj.snapshotCommand 2 (State.ownSnapshot 2))

/-- SNAPSHOT_TAKEN (R443). -/
def execSnapshotTaken (s : State) : Host.Outcome State Fault Refusal := .next s.snapshotTaken

end Sys2Proof.Machine
end

