-- ==== Sys2Proof/Machine/GroomIsa.lean ====
section
/-!
DEFINITION. Groom's instructions (14): registers (R514, Table 14.2), traps (R522, Table 14.3), delay slots, prediction and the
return stack (R523 to R528), loads, stores and the dictionary window (R516 to R519), WAITE (R529), and stepping by the
debug port (R537). An instruction command runs at Groom's program counter while Groom runs.
-/
namespace Sys2Proof.Machine

/-! ### Registers -/

/-- A general register; n0 reads as zero (R514). -/
def State.greg (s : State) (n : GReg) : GWord := if n = 0 then 0 else s.groom.regs.get n

/-- Write a general register; a write to n0 is discarded (R514). -/
def State.setGreg (s : State) (n : GReg) (v : GWord) : State :=
  if n = 0 then s else s.withGroom { s.groom with regs := s.groom.regs.set n.val v n.isLt }

/-- Read a special register (Table 14.2): STRIDE_LO latches STRIDE_HI. None for a number above 0x0F. -/
def State.special (s : State) (n : Nat) : Option (GWord × State) :=
  let g := s.groom
  match n with
  | 0x00 => some (g.status, s)
  | 0x01 => some (g.epc, s)
  | 0x02 => some (g.cause, s)
  | 0x03 => some (g.tvec, s)
  | 0x04 => some (g.badaddr, s)
  | 0x05 => some (g.dstat, s)
  | 0x06 => some (BitVec.ofNat 32 (s.now / 1024), s)
  | 0x07 => some (BitVec.ofNat 32 s.now, s.withGroom { g with strideHi := BitVec.ofNat 32 (s.now / 2 ^ 32) })
  | 0x08 => some (g.strideHi, s)
  | 0x09 => some (g.cycle, s)
  | 0x0A => some (g.brCount, s)
  | 0x0B => some (g.brMiss, s)
  | 0x0C => some (g.retCount, s)
  | 0x0D => some (g.retMiss, s)
  | 0x0E => some (g.overruns, s)
  | 0x0F => some (BitVec.ofNat 32 (s.epochPhase * 65536 + g.spent % 32), s)
  | _ => none

/-- Write a special register; none where it is RO or absent (Table 14.2). -/
def State.setSpecial (s : State) (n : Nat) (v : GWord) : Option State :=
  let g := s.groom
  match n with
  | 0x00 => some (s.withGroom { g with status := v &&& 3 })
  | 0x01 => some (s.withGroom { g with epc := v })
  | 0x03 => some (s.withGroom { g with tvec := v })
  | 0x0A => some (s.withGroom { g with brCount := v })
  | 0x0B => some (s.withGroom { g with brMiss := v })
  | 0x0C => some (s.withGroom { g with retCount := v })
  | 0x0D => some (s.withGroom { g with retMiss := v })
  | 0x0E => some (s.withGroom { g with overruns := v })
  | _ => none

/-- Set the program counter and the slot that the next instruction stands in. -/
def State.groomAt (s : State) (pc : GWord) (slot : Slot) : State := s.withGroom { s.groom with pc := pc, slot := slot }

/-- An instruction's Groom cycles pass (CYCLE and PHASE, Table 14.2), with those that the control transfer before it lost (R525). -/
def State.groomCycles (s : State) (n : Nat) : State :=
  let g := s.groom
  s.withGroom { g with cycle := g.cycle + BitVec.ofNat 32 (n + g.lost), spent := g.spent + n + g.lost, lost := 0 }

/-- A control transfer has executed: it loses cycles, counted after its delay slot (R525, Table 14.5). -/
def State.groomLoses (s : State) (n : Nat) : State := s.withGroom { s.groom with lost := n }

/-! ### The flow of control -/

/-- Address of the instruction after the one at the program counter, by its slot (R523). -/
def State.groomNextPc (s : State) : GWord :=
  match s.groom.slot with
  | .none => s.groom.pc + 4
  | .taken _ target => target
  | .fall from_ => from_ + 8
  | .annulled from_ => from_ + 8

/-- An instruction retires after `n` cycles, and the next one follows. -/
def State.groomRetire (s : State) (n : Nat) : State := ((s.groomAt s.groomNextPc .none).groomCycles n).groomArrive

/-- A trap (R522): EPC, CAUSE, BADADDR, T and BD, then the handler; taken in a handler, Groom restarts (R534). -/
def State.groomTrap (s : State) (cause : Nat) (bad : GWord) : State :=
  if s.groom.status.getLsbD 0 then s.groomRestart true
  else
    let g := s.groom
    let (epc, status) : GWord × GWord := match g.slot with
      | .none => (g.pc, 1)
      | .taken from_ _ => (from_, 3)
      | .fall from_ => (from_, 3)
      | .annulled from_ => (from_, 3)
    let g' := { g with epc := epc, status := status, cause := BitVec.ofNat 32 cause, badaddr := bad }
    (((s.withGroom g').groomAt g.tvec .none).groomCycles 1).groomArrive

/-- A trap whose BADADDR the manual does not state: it takes a free value. -/
def State.groomTrapOpen (s : State) (cause : Nat) : State :=
  let (v, s) := s.draw 32
  s.groomTrap cause v

/-- An illegal instruction (Table 14.3, 0x01). -/
def State.groomIllegal (s : State) : State := s.groomTrapOpen 1

/-- Run an instruction at the program counter while Groom runs: the fetch check (Table 14.3, 0x02), an annulled slot, which
passes without effect, and the rule that a control transfer in a delay slot is illegal (R523). -/
def State.groomDo (s : State) (transfer : Bool) (body : State → State) : State :=
  if s.groom.run ≠ .running then s
  else if s.groom.pc.toNat % 4 ≠ 0 ∨ 0x20000 ≤ s.groom.pc.toNat then s.groomTrap 2 s.groom.pc
  else
    match s.groom.slot with
    | .annulled _ => s.groomRetire 1
    | .none => body s
    | _ => if transfer then s.groomIllegal else body s

/-- An instruction that writes one register. -/
def State.groomAlu (s : State) (nd : GReg) (cycles : Nat) (f : State → GWord) : State :=
  s.groomDo false fun s => (s.setGreg nd (f s)).groomRetire cycles

/-- IMM, sign-extended (R521). -/
abbrev simm (imm : BitVec 17) : GWord := imm.signExtend 32

/-- IMM, zero-extended (R521). -/
abbrev zimm (imm : BitVec 17) : GWord := imm.setWidth 32

/-- Leading zeros of a word (Table 14.4). -/
def clz32 (v : GWord) : Nat := if v = 0 then 32 else 31 - Nat.log2 v.toNat

/-! ### Loads and stores -/

/-- An address in the D-SRAM (Table 14.1). -/
def inDsram (a : Nat) : Bool := decide (0x10000000 ≤ a) && decide (a < 0x10020000)

/-- An address in the dictionary window (Table 14.1). -/
def inDictWindow (a : Nat) : Bool := decide (0x40000000 ≤ a) && decide (a < 0x60000000)

/-- A load of `n` bytes at na + IMM, extended by `ext` (Table 14.4): outside the D-SRAM it traps with 0x03, misaligned with
0x04, on an uncorrectable word with 0x05. -/
def State.groomLoad (s : State) (nd na : GReg) (imm : BitVec 17) (err : Bool) (n : Nat) (ext : Nat → GWord) : State :=
  s.groomDo false fun s =>
    let a := s.greg na + simm imm
    if !inDsram a.toNat then s.groomTrap 3 a
    else if a.toNat % n ≠ 0 then s.groomTrap 4 a
    else if err then s.groomTrap 5 a
    else (s.setGreg nd (ext (memRead a.toNat n s.groom.dsram))).groomRetire 1

/-- A store of `n` bytes of nd at na + IMM (Table 14.4). -/
def State.groomStore (s : State) (nd na : GReg) (imm : BitVec 17) (n : Nat) : State :=
  s.groomDo false fun s =>
    let a := s.greg na + simm imm
    if !inDsram a.toNat then s.groomTrap 3 a
    else if a.toNat % n ≠ 0 then s.groomTrap 4 a
    else (s.withGroom { s.groom with dsram := memWrite a.toNat (s.greg nd).toNat n s.groom.dsram }).groomRetire 1

/-- Key and view of a dictionary window address (R517). -/
def windowKey (a : Nat) : Nat × View :=
  let o := a - 0x40000000
  (o / 0x800 % 65536 * 256 + o / 8 % 256,
    match o / 0x08000000 % 4 with | 0 => .live | 1 => .peek | 2 => .fallback | _ => .snapshot)

/-- The register above nd. -/
abbrev pairOf (nd : GReg) : GReg := nd + 1

/-- Write a register pair (R518). -/
def State.setPair (s : State) (nd : GReg) (v : Nat) : State :=
  (s.setGreg nd (BitVec.ofNat 32 v)).setGreg (pairOf nd) (BitVec.ofNat 32 (v / 2 ^ 32))

/-- A window access has been answered: DSTAT takes its code, after up to 64 cycles (R518, R519). -/
def State.windowDone (s : State) (code : Nat) : State :=
  let (n, s) := s.draw 6
  (s.withGroom { s.groom with dstat := BitVec.ofNat 32 code }).groomRetire (n.toNat + 1)

/-- LDX (R518, R519). -/
def State.groomLdx (s : State) (nd na : GReg) (imm : BitVec 17) (err : Bool) : State :=
  s.groomDo false fun s =>
    let a := s.greg na + simm imm
    if nd.val % 2 = 1 then s.groomIllegal
    else if !inDsram a.toNat && !inDictWindow a.toNat then s.groomTrap 3 a
    else if a.toNat % 8 ≠ 0 then s.groomTrap 4 a
    else if inDsram a.toNat then
      (if err then s.groomTrap 5 a else (s.setPair nd (memRead a.toNat 8 s.groom.dsram)).groomRetire 1)
    else
      let (k, view) := windowKey a.toNat
      let (c, v, s) := s.readAny .groom k view 0
      (s.setPair nd (if c = 0 then v.toNat else 0)).windowDone c

/-- STX (R518, R519); only the LIVE view can be written (R439). -/
def State.groomStx (s : State) (nd na : GReg) (imm : BitVec 17) : State :=
  s.groomDo false fun s =>
    let a := s.greg na + simm imm
    let v := (s.greg nd).toNat + (s.greg (pairOf nd)).toNat * 2 ^ 32
    if nd.val % 2 = 1 then s.groomIllegal
    else if !inDsram a.toNat && !inDictWindow a.toNat then s.groomTrap 3 a
    else if a.toNat % 8 ≠ 0 then s.groomTrap 4 a
    else if inDsram a.toNat then
      (s.withGroom { s.groom with dsram := memWrite a.toNat v 8 s.groom.dsram }).groomRetire 1
    else
      let (k, view) := windowKey a.toNat
      let (c, s) := s.lastView .groom k view (s.writeObj .groom k v 0)
      s.windowDone c

/-! ### Prediction and the return stack -/

/-- Push a return address: the pointer moves up one and the entry is written (R526). -/
def State.stackPush (s : State) (a : GWord) : State :=
  let g := s.groom
  let top := g.top + 1
  (s.withGroom { g with top := top, stack := g.stack.set top.toNat a top.isLt })

/-- The prediction of a return (R526). -/
def State.stackTop (s : State) : GWord := s.groom.stack.get s.groom.top.toFin

/-- Pop: the pointer moves down one (R526). -/
def State.stackPop (s : State) : State := s.withGroom { s.groom with top := s.groom.top - 1 }

/-- The instruction word at an I-SRAM address. -/
def State.groomWord (s : State) (pc : GWord) : GWord := BitVec.ofNat 32 (memRead pc.toNat 4 s.groom.isram)

/-- A control transfer with a delay slot (R523). -/
def isTransfer : Instr → Bool
  | .beq .. | .bne .. | .blt .. | .bge .. | .blo .. | .bhs .. | .jmp _ | .call _ | .jmpr _ | .callr .. => true
  | _ => false

/-- What decoding one word of a wrong path does to the return stack (R526, R527). -/
def State.wrongDecode (s : State) (pc : GWord) : State :=
  match groomDecode (s.groomWord pc) with
  | some (.call _) => s.stackPush (pc + 8)
  | some (.callr _ _) => s.stackPush (pc + 8)
  | some (.jmpr na) => if na = 30 then s.stackPop else s
  | _ => s

/-- The two instructions of the predicted path that are decoded before a mispredicted branch resolves (R527); the second is no
transfer where it is the delay slot of the first. -/
def State.wrongPath (s : State) (pc : GWord) : State :=
  let first := match groomDecode (s.groomWord pc) with | some i => isTransfer i | none => false
  let s := s.wrongDecode pc
  if first then s else s.wrongDecode (pc + 4)

/-- A conditional branch (R523 to R525, R527, R528). -/
def State.groomBranch (s : State) (na nb : GReg) (off : BitVec 12) (annul hint : Bool) (cond : GWord → GWord → Bool) : State :=
  s.groomDo true fun s =>
    let pc := s.groom.pc
    let target := pc + (off.signExtend 32 <<< 2)
    let taken := cond (s.greg na) (s.greg nb)
    let predicted := (decide (off.toInt ≤ 0)) != hint
    let miss := taken != predicted
    let g := s.groom
    let s := s.withGroom { g with brCount := g.brCount + 1, brMiss := if miss then g.brMiss + 1 else g.brMiss }
    let s := s.fallWrap Obj.brCount
    let s := if miss then s.fallWrap (Obj.brCount + 1) else s
    let s := if miss then s.wrongPath (if predicted then target else pc + 8) else s
    let slot := if taken then Slot.taken pc target else if annul then Slot.annulled pc else Slot.fall pc
    ((s.groomAt (pc + 4) slot).groomCycles 1).groomLoses (if miss then 3 else if taken then 1 else 0)

/-- An unconditional transfer to an address (R523, R525); one that is not word aligned traps (Table 14.3, 0x02). -/
def State.groomJump (s : State) (target : GWord) (lost : Nat) : State :=
  if target.toNat % 4 ≠ 0 then s.groomTrap 2 target
  else ((s.groomAt (s.groom.pc + 4) (.taken s.groom.pc target)).groomCycles 1).groomLoses lost

/-- A return: predicted from the return stack (R524 to R526, R528). -/
def State.groomReturn (s : State) : State :=
  let hit := s.stackTop == s.greg 30
  let s := s.stackPop
  if (s.greg 30).toNat % 4 ≠ 0 then s.groomTrap 2 (s.greg 30)
  else
    let g := s.groom
    let s := s.withGroom { g with retCount := g.retCount + 1, retMiss := if hit then g.retMiss else g.retMiss + 1 }
    let s := s.fallWrap (Obj.brCount + 2)
    let s := if hit then s else s.fallWrap Obj.retMiss
    s.groomJump (s.greg 30) (if hit then 1 else 3)

/-! ### System instructions -/

/-- GETS (Table 14.4). -/
def State.groomGets (s : State) (nd : GReg) (n : Nat) : State :=
  s.groomDo false fun s =>
    match s.special n with
    | some (v, s) => (s.setGreg nd v).groomRetire 1
    | none => s.groomIllegal

/-- PUTS (Table 14.4). -/
def State.groomPuts (s : State) (nd : GReg) (n : Nat) : State :=
  s.groomDo false fun s =>
    match s.setSpecial n (s.greg nd) with
    | some s => s.groomRetire 1
    | none => s.groomIllegal

/-- WAITE (R529, R531): Groom stalls with the program counter past it; a halt that waits is taken when it returns (R537). -/
def State.groomWaite (s : State) (nd : GReg) : State :=
  s.groomDo false fun s =>
    let s := (s.groomAt s.groomNextPc .none).groomCycles 1
    s.withGroom { s.groom with run := .waite, waitReg := nd, dog := 0 }

/-- BRK (R537): a halt where the debug port is allowed, else a trap (Table 14.3, 0x07). -/
def State.groomBrk (s : State) : State :=
  s.groomDo false fun s =>
    if s.debugOn then (s.withGroom { s.groom with haltWanted := true }).groomRetire 1 else s.groomTrapOpen 7

/-- TRET (Table 14.4): it transfers control, so in a delay slot it is illegal (R523). -/
def State.groomTret (s : State) : State :=
  s.groomDo true fun s =>
    let s := s.withGroom { s.groom with status := s.groom.status &&& ~~~ 3 }
    ((s.groomAt s.groom.epc .none).groomCycles 1).groomArrive

/-! ### The instructions -/

/-- ADD (Table 14.4). -/
def execAdd (nd na nb : GReg) (s : State) : Host.Outcome State Fault Refusal :=
  .next (s.groomAlu nd 1 fun s => s.greg na + s.greg nb)

/-- SUB (Table 14.4). -/
def execSub (nd na nb : GReg) (s : State) : Host.Outcome State Fault Refusal :=
  .next (s.groomAlu nd 1 fun s => s.greg na - s.greg nb)

/-- AND (Table 14.4). -/
def execAnd (nd na nb : GReg) (s : State) : Host.Outcome State Fault Refusal :=
  .next (s.groomAlu nd 1 fun s => s.greg na &&& s.greg nb)

/-- OR (Table 14.4). -/
def execOr (nd na nb : GReg) (s : State) : Host.Outcome State Fault Refusal :=
  .next (s.groomAlu nd 1 fun s => s.greg na ||| s.greg nb)

/-- XOR (Table 14.4). -/
def execXor (nd na nb : GReg) (s : State) : Host.Outcome State Fault Refusal :=
  .next (s.groomAlu nd 1 fun s => s.greg na ^^^ s.greg nb)

/-- SHL (Table 14.4). -/
def execShl (nd na : GReg) (sh : BitVec 5) (s : State) : Host.Outcome State Fault Refusal :=
  .next (s.groomAlu nd 1 fun s => s.greg na <<< sh.toNat)

/-- SHR (Table 14.4). -/
def execShr (nd na : GReg) (sh : BitVec 5) (s : State) : Host.Outcome State Fault Refusal :=
  .next (s.groomAlu nd 1 fun s => s.greg na >>> sh.toNat)

/-- SAR (Table 14.4). -/
def execSar (nd na : GReg) (sh : BitVec 5) (s : State) : Host.Outcome State Fault Refusal :=
  .next (s.groomAlu nd 1 fun s => (s.greg na).sshiftRight sh.toNat)

/-- SHLV (Table 14.4). -/
def execShlv (nd na nb : GReg) (s : State) : Host.Outcome State Fault Refusal :=
  .next (s.groomAlu nd 1 fun s => s.greg na <<< ((s.greg nb).toNat % 32))

/-- SHRV (Table 14.4). -/
def execShrv (nd na nb : GReg) (s : State) : Host.Outcome State Fault Refusal :=
  .next (s.groomAlu nd 1 fun s => s.greg na >>> ((s.greg nb).toNat % 32))

/-- CMPLT (Table 14.4). -/
def execCmplt (nd na nb : GReg) (s : State) : Host.Outcome State Fault Refusal :=
  .next (s.groomAlu nd 1 fun s => if (s.greg na).slt (s.greg nb) then 1 else 0)

/-- CMPLTU (Table 14.4). -/
def execCmpltu (nd na nb : GReg) (s : State) : Host.Outcome State Fault Refusal :=
  .next (s.groomAlu nd 1 fun s => if (s.greg na).ult (s.greg nb) then 1 else 0)

/-- MULLO (Table 14.4, R525). -/
def execMullo (nd na nb : GReg) (s : State) : Host.Outcome State Fault Refusal :=
  .next (s.groomAlu nd 3 fun s => s.greg na * s.greg nb)

/-- MULHI (Table 14.4, R525). -/
def execMulhi (nd na nb : GReg) (s : State) : Host.Outcome State Fault Refusal :=
  .next (s.groomAlu nd 3 fun s => BitVec.ofNat 32 ((s.greg na).toNat * (s.greg nb).toNat / 2 ^ 32))

/-- QUOU (Table 14.4, R525). -/
def execQuou (nd na nb : GReg) (s : State) : Host.Outcome State Fault Refusal :=
  .next (s.groomAlu nd 34 fun s => if s.greg nb = 0 then 0xFFFFFFFF else s.greg na / s.greg nb)

/-- MODU (Table 14.4, R525). -/
def execModu (nd na nb : GReg) (s : State) : Host.Outcome State Fault Refusal :=
  .next (s.groomAlu nd 34 fun s => if s.greg nb = 0 then s.greg na else s.greg na % s.greg nb)

/-- CLZ (Table 14.4). -/
def execClz (nd na : GReg) (s : State) : Host.Outcome State Fault Refusal :=
  .next (s.groomAlu nd 1 fun s => BitVec.ofNat 32 (clz32 (s.greg na)))

/-- POPC (Table 14.4). -/
def execPopc (nd na : GReg) (s : State) : Host.Outcome State Fault Refusal :=
  .next (s.groomAlu nd 1 fun s => BitVec.ofNat 32 (popN (s.greg na).toNat 32))

/-- ADDI (Table 14.4). -/
def execAddi (nd na : GReg) (imm : BitVec 17) (s : State) : Host.Outcome State Fault Refusal :=
  .next (s.groomAlu nd 1 fun s => s.greg na + simm imm)

/-- ANDI (Table 14.4). -/
def execAndi (nd na : GReg) (imm : BitVec 17) (s : State) : Host.Outcome State Fault Refusal :=
  .next (s.groomAlu nd 1 fun s => s.greg na &&& zimm imm)

/-- ORI (Table 14.4). -/
def execOri (nd na : GReg) (imm : BitVec 17) (s : State) : Host.Outcome State Fault Refusal :=
  .next (s.groomAlu nd 1 fun s => s.greg na ||| zimm imm)

/-- XORI (Table 14.4). -/
def execXori (nd na : GReg) (imm : BitVec 17) (s : State) : Host.Outcome State Fault Refusal :=
  .next (s.groomAlu nd 1 fun s => s.greg na ^^^ zimm imm)

/-- CMPLTI (Table 14.4). -/
def execCmplti (nd na : GReg) (imm : BitVec 17) (s : State) : Host.Outcome State Fault Refusal :=
  .next (s.groomAlu nd 1 fun s => if (s.greg na).slt (simm imm) then 1 else 0)

/-- CMPLTIU (Table 14.4). -/
def execCmpltiu (nd na : GReg) (imm : BitVec 17) (s : State) : Host.Outcome State Fault Refusal :=
  .next (s.groomAlu nd 1 fun s => if (s.greg na).ult (simm imm) then 1 else 0)

/-- LDHI (Table 14.4). -/
def execLdhi (nd : GReg) (imm : BitVec 15) (s : State) : Host.Outcome State Fault Refusal :=
  .next (s.groomAlu nd 1 fun _ => imm.setWidth 32 <<< 17)

/-- LD4 (Table 14.4). -/
def execLd4 (nd na : GReg) (imm : BitVec 17) (err : Bool) (s : State) : Host.Outcome State Fault Refusal :=
  .next (s.groomLoad nd na imm err 4 (BitVec.ofNat 32))

/-- LD2S (Table 14.4). -/
def execLd2s (nd na : GReg) (imm : BitVec 17) (err : Bool) (s : State) : Host.Outcome State Fault Refusal :=
  .next (s.groomLoad nd na imm err 2 (fun v => (BitVec.ofNat 16 v).signExtend 32))

/-- LD2U (Table 14.4). -/
def execLd2u (nd na : GReg) (imm : BitVec 17) (err : Bool) (s : State) : Host.Outcome State Fault Refusal :=
  .next (s.groomLoad nd na imm err 2 (BitVec.ofNat 32))

/-- LD1S (Table 14.4). -/
def execLd1s (nd na : GReg) (imm : BitVec 17) (err : Bool) (s : State) : Host.Outcome State Fault Refusal :=
  .next (s.groomLoad nd na imm err 1 (fun v => (BitVec.ofNat 8 v).signExtend 32))

/-- LD1U (Table 14.4). -/
def execLd1u (nd na : GReg) (imm : BitVec 17) (err : Bool) (s : State) : Host.Outcome State Fault Refusal :=
  .next (s.groomLoad nd na imm err 1 (BitVec.ofNat 32))

/-- ST4 (Table 14.4). -/
def execSt4 (nd na : GReg) (imm : BitVec 17) (s : State) : Host.Outcome State Fault Refusal :=
  .next (s.groomStore nd na imm 4)

/-- ST2 (Table 14.4). -/
def execSt2 (nd na : GReg) (imm : BitVec 17) (s : State) : Host.Outcome State Fault Refusal :=
  .next (s.groomStore nd na imm 2)

/-- ST1 (Table 14.4). -/
def execSt1 (nd na : GReg) (imm : BitVec 17) (s : State) : Host.Outcome State Fault Refusal :=
  .next (s.groomStore nd na imm 1)

/-- LDX (R518, R519). -/
def execLdx (nd na : GReg) (imm : BitVec 17) (err : Bool) (s : State) : Host.Outcome State Fault Refusal :=
  .next (s.groomLdx nd na imm err)

/-- STX (R518, R519). -/
def execStx (nd na : GReg) (imm : BitVec 17) (s : State) : Host.Outcome State Fault Refusal :=
  .next (s.groomStx nd na imm)

/-- BEQ (Table 14.4, R523). -/
def execBeq (na nb : GReg) (off : BitVec 12) (annul hint : Bool) (s : State) : Host.Outcome State Fault Refusal :=
  .next (s.groomBranch na nb off annul hint fun a b => a == b)

/-- BNE (Table 14.4, R523). -/
def execBne (na nb : GReg) (off : BitVec 12) (annul hint : Bool) (s : State) : Host.Outcome State Fault Refusal :=
  .next (s.groomBranch na nb off annul hint fun a b => a != b)

/-- BLT (Table 14.4, R523). -/
def execBlt (na nb : GReg) (off : BitVec 12) (annul hint : Bool) (s : State) : Host.Outcome State Fault Refusal :=
  .next (s.groomBranch na nb off annul hint fun a b => a.slt b)

/-- BGE (Table 14.4, R523). -/
def execBge (na nb : GReg) (off : BitVec 12) (annul hint : Bool) (s : State) : Host.Outcome State Fault Refusal :=
  .next (s.groomBranch na nb off annul hint fun a b => !a.slt b)

/-- BLO (Table 14.4, R523). -/
def execBlo (na nb : GReg) (off : BitVec 12) (annul hint : Bool) (s : State) : Host.Outcome State Fault Refusal :=
  .next (s.groomBranch na nb off annul hint fun a b => a.ult b)

/-- BHS (Table 14.4, R523). -/
def execBhs (na nb : GReg) (off : BitVec 12) (annul hint : Bool) (s : State) : Host.Outcome State Fault Refusal :=
  .next (s.groomBranch na nb off annul hint fun a b => !a.ult b)

/-- JMP (Table 14.4). -/
def execJmp (target : BitVec 15) (s : State) : Host.Outcome State Fault Refusal :=
  .next (s.groomDo true fun s => s.groomJump (target.setWidth 32 <<< 2) 1)

/-- CALL (Table 14.4, R526). -/
def execCall (target : BitVec 15) (s : State) : Host.Outcome State Fault Refusal :=
  .next (s.groomDo true fun s =>
    ((s.setGreg 30 (s.groom.pc + 8)).stackPush (s.groom.pc + 8)).groomJump (target.setWidth 32 <<< 2) 1)

/-- JMPR (Table 14.4): through n30 it is a return (R524). -/
def execJmpr (na : GReg) (s : State) : Host.Outcome State Fault Refusal :=
  .next (s.groomDo true fun s => if na = 30 then s.groomReturn else s.groomJump (s.greg na) 3)

/-- CALLR (Table 14.4, R526); the target is read before nd is written. -/
def execCallr (nd na : GReg) (s : State) : Host.Outcome State Fault Refusal :=
  .next (s.groomDo true fun s =>
    let s' := s.stackPush (s.groom.pc + 8)
    if (s.greg na).toNat % 4 ≠ 0 then s'.groomJump (s.greg na) 3
    else (s'.setGreg nd (s.groom.pc + 8)).groomJump (s.greg na) 3)

/-- GETS (Table 14.4). -/
def execGets (nd : GReg) (special : BitVec 17) (s : State) : Host.Outcome State Fault Refusal :=
  .next (s.groomGets nd special.toNat)

/-- PUTS (Table 14.4). -/
def execPuts (nd : GReg) (special : BitVec 17) (s : State) : Host.Outcome State Fault Refusal :=
  .next (s.groomPuts nd special.toNat)

/-- WAITE (R529). -/
def execWaite (nd : GReg) (s : State) : Host.Outcome State Fault Refusal :=
  .next (s.groomWaite nd)

/-- TRAP (Table 14.4): cause 0x06, the code to BADADDR. -/
def execTrap (code : BitVec 16) (s : State) : Host.Outcome State Fault Refusal :=
  .next (s.groomDo false fun s => s.groomTrap 6 (code.setWidth 32))

/-- BRK (R537). -/
def execBrk (s : State) : Host.Outcome State Fault Refusal :=
  .next (s.groomBrk)

/-- TRET (Table 14.4). -/
def execTret (s : State) : Host.Outcome State Fault Refusal :=
  .next (s.groomTret)

/-! ### Stepping -/

/-- Run a decoded Groom instruction. -/
def groomRun (i : Instr) (s : State) : Host.Outcome State Fault Refusal :=
  match i with
  | .add nd na nb => execAdd nd na nb s
  | .sub nd na nb => execSub nd na nb s
  | .and nd na nb => execAnd nd na nb s
  | .or nd na nb => execOr nd na nb s
  | .xor nd na nb => execXor nd na nb s
  | .shl nd na sh => execShl nd na sh s
  | .shr nd na sh => execShr nd na sh s
  | .sar nd na sh => execSar nd na sh s
  | .shlv nd na nb => execShlv nd na nb s
  | .shrv nd na nb => execShrv nd na nb s
  | .cmplt nd na nb => execCmplt nd na nb s
  | .cmpltu nd na nb => execCmpltu nd na nb s
  | .mullo nd na nb => execMullo nd na nb s
  | .mulhi nd na nb => execMulhi nd na nb s
  | .quou nd na nb => execQuou nd na nb s
  | .modu nd na nb => execModu nd na nb s
  | .clz nd na => execClz nd na s
  | .popc nd na => execPopc nd na s
  | .addi nd na imm => execAddi nd na imm s
  | .andi nd na imm => execAndi nd na imm s
  | .ori nd na imm => execOri nd na imm s
  | .xori nd na imm => execXori nd na imm s
  | .cmplti nd na imm => execCmplti nd na imm s
  | .cmpltiu nd na imm => execCmpltiu nd na imm s
  | .ldhi nd imm => execLdhi nd imm s
  | .ld4 nd na imm err => execLd4 nd na imm err s
  | .ld2s nd na imm err => execLd2s nd na imm err s
  | .ld2u nd na imm err => execLd2u nd na imm err s
  | .ld1s nd na imm err => execLd1s nd na imm err s
  | .ld1u nd na imm err => execLd1u nd na imm err s
  | .st4 nd na imm => execSt4 nd na imm s
  | .st2 nd na imm => execSt2 nd na imm s
  | .st1 nd na imm => execSt1 nd na imm s
  | .ldx nd na imm err => execLdx nd na imm err s
  | .stx nd na imm => execStx nd na imm s
  | .beq na nb off annul hint => execBeq na nb off annul hint s
  | .bne na nb off annul hint => execBne na nb off annul hint s
  | .blt na nb off annul hint => execBlt na nb off annul hint s
  | .bge na nb off annul hint => execBge na nb off annul hint s
  | .blo na nb off annul hint => execBlo na nb off annul hint s
  | .bhs na nb off annul hint => execBhs na nb off annul hint s
  | .jmp target => execJmp target s
  | .call target => execCall target s
  | .jmpr na => execJmpr na s
  | .callr nd na => execCallr nd na s
  | .gets nd special => execGets nd special s
  | .puts nd special => execPuts nd special s
  | .waite nd => execWaite nd s
  | .trap code => execTrap code s
  | .brk => execBrk s
  | .tret => execTret s
  | _ => .next s

/-- The instruction at the program counter runs: an illegal word traps (R521). -/
def State.groomStepOne (s : State) : State :=
  match groomDecode (s.groomWord s.groom.pc) with
  | some i => match groomRun i s with
    | .next s' => s'
    | _ => s
  | none => s.groomDo false State.groomIllegal

/-- Back to the halt after a step: a WAITE halts when it returns (R537); one that stopped Groom stays there. -/
def State.groomRehalt (s : State) : State :=
  match s.groom.run with
  | .running => s.withGroom { s.groom with run := .halted, haltWanted := false }
  | .waite => s.withGroom { s.groom with haltWanted := true }
  | _ => s

/-- GROOM_STEP: one instruction, or a control transfer together with its delay slot (R537). -/
def State.groomDebugStep (s : State) : State :=
  if s.debugOn && s.groom.run == .halted then
    let s := s.clockStarts
    let s := s.withGroom { s.groom with run := .running, breaks := [] }
    let s' := s.groomStepOne
    (if s'.groom.run = .running ∧ s'.groom.slot ≠ .none then s'.groomStepOne else s').groomRehalt
  else s

/-- GROOM_STEP (R537). -/
def execGroomStep (s : State) : Host.Outcome State Fault Refusal :=
  let s' := s.groomDebugStep
  .next (s'.withGroom { s'.groom with breaks := s.groom.breaks })

end Sys2Proof.Machine
end

