-- ==== Sys2Proof/Machine/Jtag.lean ====
section
/-!
DEFINITION. The TAP (15, R555): its instructions, boundary scan, dictionary reads at the JTAG level (R428, R433) and the Groom
debug port (R536).
-/
namespace Sys2Proof.Machine

/-- The device is without its main rails: Off, or Keep (R22). -/
def State.dark (s : State) : Bool := s.modes.mode == .off || s.modes.mode == .keep

/-- JTAG answers while the device is powered (R422). -/
def State.jtagUp (s : State) : Bool := !s.dark

/-- What a TAP command does, where JTAG is available (R422). -/
def State.tap (s : State) (f : State → State) : State := if s.jtagUp then f s else s

/-- Select an instruction. -/
def State.selectIr (s : State) (code : BitVec 8) : State := s.withPkg { s.pkg with ir := code }

/-- IDCODE (Table 15.11): STEPPING[7:4], PART_CODE, 0x4B4, 1. -/
def State.idcode (s : State) : Nat :=
  ((s.live Obj.stepping).toNat / 16) <<< 28 + (s.live Obj.partCode).toNat <<< 12 + 0x4B4 <<< 1 + 1

/-- EXTEST, CLAMP and HIGHZ act on the balls: only in Reset or Test (R555). -/
def State.scanOn (s : State) : Bool := s.modes.mode == .reset || s.modes.mode == .test

/-- Levels that boundary scan drives on the balls, if it does. -/
def State.scanDrives (s : State) : Option (List Bool) :=
  if s.scanOn && (s.pkg.ir == 3 || s.pkg.ir == 4) then some s.pkg.preload else none

/-- The outputs are in high impedance under HIGHZ. -/
def State.scanHighZ (s : State) : Bool := s.scanOn && s.pkg.ir == 5

/-- One bit through the bypass register, which captures zero (IEEE 1149.1). -/
def State.shiftBypass (s : State) (tdi : Bool) : State :=
  (s.withPkg { s.pkg with bypass := tdi }).emit (.tdo 1 0)

/-- Bits shifted through the bypass register: a zero comes out first, and the last bit in stays. -/
def State.bypassBits (s : State) (bits : List Bool) : State :=
  let out := (false :: bits).dropLast
  (s.withPkg { s.pkg with bypass := bits.getLastD false }).emit (.tdo out.length (out.foldr (fun b n => 2 * n + b.toNat) 0))

/-- Shift the boundary-scan register: the levels it captured, which are the balls' and a free value here, come out, and the cells take
what came in. The order of the cells is the vendor's description file's (R555; log entry 165). -/
def State.loadCells (s : State) (cells : List Bool) : State :=
  let (v, s) := s.draw cells.length
  (s.withPkg { s.pkg with preload := cells }).emit (.tdo cells.length v.toNat)

/-- The EXTEST instruction with cells shifted in; in other modes it acts as BYPASS (R555). -/
def State.extest (s : State) (cells : List Bool) : State :=
  let s := s.selectIr 3
  if s.scanOn then s.loadCells cells else s.bypassBits cells

/-- DICT_READ: code in bits [71:64], value in [63:0] (R433). -/
def State.jtagRead (s : State) (k : Nat) : State :=
  let (c, v, s) := (s.selectIr 0x20).readAny .jtag k .peek 0
  s.emit (.tdo 72 (c <<< 64 + (if c = 0 then v.toNat else 0)))

/-- Write a general or an RW special register, a D-SRAM byte or a breakpoint through the debug port (R536). -/
def State.debugWrite (s : State) : DebugOp → State
  | .writeReg n v => s.setGreg n v
  | .writeSpecial n v => (s.setSpecial n.val v).getD s
  | .writeMem a v =>
    if inDsram a.toNat then s.withGroom { s.groom with dsram := memSet a.toNat v s.groom.dsram } else s
  | .setBreak n a =>
    let rest := s.groom.breaks.filter fun b => b.1 != n
    (s.withGroom { s.groom with breaks := match a with | some x => rest ++ [(n, x)] | none => rest })
  | _ => s

/-- What a read through the debug port answers, as (bits, value); with GROOM_DEBUG_ALLOW clear only GROOM_STATE and GROOM_PC
(R536). -/
def State.debugValue (s : State) : DebugOp → Option (Nat × Nat)
  | .readState => some (8, s.groom.run.code)
  | .readPc => some (32, s.groom.pc.toNat)
  | .readReg n => if s.debugOn then some (32, (s.greg n).toNat) else none
  | .readSpecial n => if s.debugOn then (s.special n.val).map fun x => (32, x.1.toNat) else none
  | .readMem a => if s.debugOn && inDsram a.toNat then some (8, (memByte a.toNat s.groom.dsram).toNat) else none
  | _ => none

/-- GROOM_DEBUG with one access. -/
def State.groomDebug (s : State) (op : DebugOp) : State :=
  let s := s.selectIr 0x21
  match s.debugValue op with
  | some (n, v) => s.emit (.tdo n v)
  | none => if s.debugOn then s.debugWrite op else s

/-! ### The rows -/

/-- IDCODE (R555). -/
def execIdcode (s : State) : Host.Outcome State Fault Refusal := .next (s.tap fun s => (s.selectIr 1).emit (.tdo 32 s.idcode))

/-- SAMPLE_PRELOAD (R555). -/
def execSamplePreload (cells : List Bool) (s : State) : Host.Outcome State Fault Refusal :=
  .next (s.tap fun s => (s.selectIr 2).loadCells cells)

/-- EXTEST (R555). -/
def execExtest (cells : List Bool) (s : State) : Host.Outcome State Fault Refusal := .next (s.tap fun s => s.extest cells)

/-- CLAMP (R555). -/
def execClamp (s : State) : Host.Outcome State Fault Refusal := .next (s.tap fun s => s.selectIr 4)

/-- HIGHZ (R555). -/
def execHighz (s : State) : Host.Outcome State Fault Refusal := .next (s.tap fun s => s.selectIr 5)

/-- DICT_READ (R428, R433). -/
def execDictRead (index : BitVec 16) (sub : BitVec 8) (s : State) : Host.Outcome State Fault Refusal :=
  .next (s.tap fun s => s.jtagRead (keyOf index sub))

/-- GROOM_DEBUG (R536). -/
def execGroomDebug (op : DebugOp) (s : State) : Host.Outcome State Fault Refusal := .next (s.tap fun s => s.groomDebug op)

/-- BYPASS (R555). -/
def execBypass (tdi : Bool) (s : State) : Host.Outcome State Fault Refusal := .next (s.tap fun s => (s.selectIr 0xFF).shiftBypass tdi)

/-- TAP_RESET (R555): IDCODE is the instruction after it. -/
def execTapReset (s : State) : Host.Outcome State Fault Refusal := .next (s.tap fun s => s.selectIr 1)

end Sys2Proof.Machine
end

