-- ==== Sys2Proof/Machine/Time.lean ====
section
/-!
DEFINITION. The stride and the policy epoch (01): what each stride boundary does (R44, and the rules that name it), what each
epoch boundary does (R37), and a follower's alignment and its check of the leader's pulses (R40, R41).
-/
namespace Sys2Proof.Machine

/-! ### Stride boundaries -/

/-- Pulse that the leader drives at a boundary, in FCLK cycles (R37); a follower drives none (R38). -/
def State.pulseWidth (s : State) : Nat := if !s.leader then 0 else if s.epochPhase = 0 then 16 else 8

/-- STRIDE_COUNT increments (R44), and the leader drives its pulse. -/
def State.nextStride (s : State) : State :=
  let s := s.withTime { s.time with stride := s.time.stride + 1 }
  (s.withTime { s.time with syncOut := s.pulseWidth })

/-- The LFSRs take the 64 steps of a stride, in every mode in which FCLK runs (R139). -/
def State.stepLfsrs (s : State) : State := s.withTiers { s.tiers with lfsr := s.tiers.lfsr.map (lfsrSteps 64) }

/-- DIE_TEMP, the highest sensor reading within its range of 0 to 150, and its peak (Table 15.13, R554; log entry 164). -/
def State.dieTemp (s : State) (t : Nat) : State :=
  ((s.setNat Obj.dieTemp (min t 150)).peak Obj.dieTempPeak (min t 150)).tripAt t

/-- The DDR5 commands of the stride that ends have acted (R338), its counters are folded (R491, R496), and a snapshot copies them
(R443, R497). -/
def State.boundaryCounters (s : State) : State :=
  (((s.stepLfsrs.applyRowUses (s.now * 64)).countStrideEnd.dueEvents).foldCounters).freezeSnapshot

/-- Interrupts are routed and the buckets updated with the values in force before the boundary, and the pending writes take effect
(R149, R375, R398, R431, R471, R490). -/
def State.boundaryWrites (s : State) : State :=
  let s := s.routeInterrupts.bucketUpdate.applyDue
  s.takePending.levelBalls.applyLate s.dict.pending

/-- Memory and reliability at a boundary (R338 to R340, R352, R372, R375). -/
def State.boundaryMemory (s : State) : State :=
  s.applyHot.refreshPlan.ageRows.drainBoundary.scrubCredit.noteReduced

/-- Modes at a boundary (R95, R407, R411, R416). -/
def State.boundaryModes (s : State) : State := s.settleHeld.holdRequest.recallStride.drainDoneSet

/-- Alarm latches whose ring has found room by a change of configuration are written (R484). -/
def State.latchesAll (s : State) : State := (List.range 4).foldl (fun s r => s.flushLatches r) s

/-- Groom's clock at a stride boundary: it makes 32 cycles in a stride, in WAITE too, and stands still while Groom is halted (R518, R538,
Table 14.2). -/
def State.groomStride (s : State) : State :=
  let g := s.groom
  if g.run = .running ∨ g.run = .waite then
    let rest := 32 - g.spent
    s.withGroom { g with cycle := g.cycle + BitVec.ofNat 32 rest, spent := g.spent + rest - 32 }
  else s

/-- STRIDE_BOUNDARY (R44). -/
def State.strideBoundary (s : State) (temp : Nat) : State :=
  if s.timerRuns then
    let s := ((s.sentBy (s.now * 64 + 64)).nextStride).sendFlits.boundaryCounters.boundaryWrites.commitTaken
    (s.boundaryMemory.boundaryModes.groomStride.pruneLedger.latchesAll.dieTemp temp).countStrideStart
  else s

/-! ### Epoch boundaries -/

/-- Mean tracker holds of the epoch (R223); TRACKER_HOLD_MEAN is the largest. -/
def State.holdEpoch (s : State) : State :=
  let means : Assoc Nat := s.home.holdCnt.foldl (fun m (x : Nat × Nat) =>
    Assoc.put x.1 (max 1 (ceilDiv (Assoc.getD s.home.holdSum x.1 0) x.2)) m) s.home.holdMean
  let s := s.withHome { s.home with holdMean := means, holdSum := [], holdCnt := [] }
  s.setNat Obj.trackerHoldMean (min 65535 ((List.range 16).foldl (fun m i => max m (Assoc.getD means i 1)) 1))

/-- The epoch's temperature readout of the Husk ports (R348). -/
def State.huskTemps (s : State) (temps : List (BitVec 8)) : State :=
  let t : Nat → Nat := fun j => (temps.getD j 0).toNat
  let s := (List.range 18).foldl (fun s j =>
    if s.portInService j then s.setRefresh (64 + j) { s.refresh (64 + j) with hot := decide (85 < t j) } else s) s
  s.setNat Obj.huskTempMax ((List.range 18).foldl (fun m j => if s.portInService j then max m (t j) else m) 0)

/-- WAITE returns: nd takes the epoch boundaries passed since the previous WAITE returned, this one included (R529). -/
def State.waiteReturns (s : State) : State :=
  let n := s.groom.missed + 1
  let s := s.setGreg s.groom.waitReg (BitVec.ofNat 32 n)
  (s.withGroom { s.groom with run := .running, missed := 0, restarts := 0, dog := 0 }).groomArrive

/-- Groom at an epoch boundary: an overrun while it runs (R530, R531), the return of WAITE, or a halted epoch (R538). -/
def State.groomEpoch (s : State) : State :=
  match s.groom.run with
  | .running =>
    let g := s.groom
    let s := s.withGroom { g with overruns := g.overruns + 1, missed := g.missed + 1, dog := g.dog + 1 }
    (s.bump Obj.groomOverruns).fixed 31 1
  | .waite => s.waiteReturns
  | .halted => s.bump Obj.groomHaltEpochs
  | _ => s

/-- EPOCH_BOUNDARY (R37): once at each boundary whose STRIDE_COUNT[9:0] is zero. -/
def State.epochBoundary (s : State) (temps : List (BitVec 8)) : State :=
  if s.timerRuns && s.epochPhase == 0 && s.time.epochAt != some s.now then
    let s := s.withTime { s.time with epochAt := some s.now, syncOut := s.pulseWidth }
    ((s.windowEpoch.trendEpoch.holdEpoch).huskTemps temps).groomEpoch
  else s

/-! ### Followers -/

/-- The pulse's rising edge, less STRIDE_SYNC_DELAY, lies within 2 cycles of the boundary (R39 to R41). -/
def State.pulseNear (s : State) (edge : Option Int) : Bool :=
  match edge with
  | none => false
  | some e =>
    let d := e - (s.time.delay : Int)
    decide (-2 ≤ d) && decide (d ≤ 2)

/-- The stride is aligned (R41): its pulse is near the boundary, with the width of the epoch phase. -/
def State.pulseGood (s : State) (edge : Option Int) (width : Nat) : Bool :=
  s.pulseNear edge && width == (if s.epochPhase = 0 then 16 else 8)

/-- STRIDE_SYNC_PULSE (R41): after two consecutive misaligned strides SYNC_LOST is set, the alarm raised and the event counted.
DESIGN CHOICE (log entry 127): all this happens once in a run of misaligned strides, at its second, and ALIGNED stays set. -/
def State.syncPulse (s : State) (edge : Option Int) (width : Nat) : State :=
  if s.leader || !s.modes.mode.service then s
  else if s.pulseGood edge width then s.withTime { s.time with bad := 0 }
  else
    let n := s.time.bad + 1
    let s := s.withTime { s.time with bad := n }
    if n = 2 then
      let s := (s.setObj Obj.strideSyncStatus (s.obj Obj.strideSyncStatus ||| 2)).bump Obj.strideSyncErrors
      s.raise 0xB9 [s.obj Obj.strideSyncErrors]
    else s

/-- The first valid epoch pulse aligns the follower: its boundary, its epoch phase, the delay in force and STRIDE_AT_SYNC (R40,
R43); bits [63:10] of STRIDE_COUNT are a free value (log entry 9). -/
def State.syncAlign (s : State) : State :=
  let (u, s) := s.draw 54
  let n := u.toNat * 1024
  let t : Time := { s.time with stride := BitVec.ofNat 64 n, phase := .counting, good := 0, bad := 0,
                                delay := (s.obj Obj.strideSyncDelay).toNat }
  let moved := s.irq.restartAt.map fun x => (x.1, x.2 + ((n : Int) - s.now))
  ((s.withTime t).withIrq { s.irq with restartAt := moved }).setNat Obj.strideAtSync n

/-- FOLLOWER_ALIGNMENT (R40): step 9 of Bring-up ends after 1,024 further strides in tolerance, whatever their widths; then ALIGNED
is set and SYNC_LOST is clear (R42). DESIGN CHOICE (log entry 127): a stride out of tolerance starts the count again, and the
leader never sets ALIGNED. -/
def State.followerAlignment (s : State) (edge : Option Int) (width : Nat) : State :=
  if s.leader || !s.stepRuns 9 then s
  else
    match s.time.phase with
    | .waiting => if edge.isSome && width == 16 then s.syncAlign else s
    | .counting =>
      let n := if s.pulseNear edge then s.time.good + 1 else 0
      let s := s.withTime { s.time with good := n }
      if 1024 ≤ n then ((s.withTime { s.time with phase := .aligned }).setNat Obj.strideSyncStatus 1).setStep 9 else s
    | .aligned => s

/-! ### The rows -/

/-- STRIDE_BOUNDARY. -/
def execStrideBoundary (dieTemp : BitVec 8) (s : State) : Host.Outcome State Fault Refusal := .next (s.strideBoundary dieTemp.toNat)

/-- EPOCH_BOUNDARY. -/
def execEpochBoundary (huskTemps : List (BitVec 8)) (s : State) : Host.Outcome State Fault Refusal :=
  .next (s.epochBoundary huskTemps)

/-- STRIDE_SYNC_PULSE. -/
def execStrideSyncPulse (edge : Option Int) (width : Nat) (s : State) : Host.Outcome State Fault Refusal :=
  .next (s.syncPulse edge width)

/-- FOLLOWER_ALIGNMENT. -/
def execFollowerAlignment (edge : Option Int) (width : Nat) (s : State) : Host.Outcome State Fault Refusal :=
  .next (s.followerAlignment edge width)

end Sys2Proof.Machine
end

