-- ==== Sys2Proof/Machine/Requests.lean ====
section
/-!
DEFINITION. Requests from their commit to their look-up (06, 07): Tether queues and replay hold (R312 to R314), admission
with its refusals (R70, R71, R223, R315 to R319) and bookings, the input checks of a request (Table 9.9), the register
window (R244, R434 to R437), Barriers (R260, R261), the heads of wait lists (R209 to R211) and Spur promotion (R226).
-/
namespace Sys2Proof.Machine

/-! ### Tether queues -/

/-- Requests of a Tether queue that wait for admission, oldest first. -/
def State.queue (s : State) (q : Nat) : List QReq := Assoc.getD s.ports.queues q []

/-- Write a Tether queue. -/
def State.setQueue (s : State) (q : Nat) (l : List QReq) : State :=
  s.withPorts { s.ports with queues := Assoc.putD s.ports.queues q [] l }

/-- Refused requests of a queue that are recorded and not replayed (R312). -/
def State.refusedOf (s : State) (q : Nat) : List Refused := Assoc.getD s.ports.replay q []

/-- Write the recorded refusals of a queue. -/
def State.setRefused (s : State) (q : Nat) (l : List Refused) : State :=
  s.withPorts { s.ports with replay := Assoc.putD s.ports.replay q [] l }

/-- The oldest request of a list by its first entry. -/
def oldest (l : List QReq) : Option QReq :=
  l.foldl (fun (m : Option QReq) x => match m with
    | none => some x
    | some y => if x.id < y.id then some x else m) none

/-- The request that a queue offers: in replay hold the replay of the refused request that first entered it earliest, and
none while that replay has not come (R312). -/
def State.headOf (s : State) (q : Nat) : Option QReq :=
  let l := s.queue q
  let reps := l.filter (·.replay)
  let recs := s.refusedOf q
  if reps.isEmpty && recs.isEmpty then l.head?
  else match oldest reps with
    | none => none
    | some x => if recs.all fun r => decide (x.id < r.id) then some x else none

/-- A request's TAG is open on its half: neither completed nor refused (R300). -/
def State.tagOpen (s : State) (half : Nat) (tag : BitVec 12) : Bool :=
  s.ports.queues.any (fun x => x.1 / 512 == half && x.2.any fun y => y.req.tag == tag)
    || s.home.txns.any (fun t => t.half == some half && t.req.tag == tag && !t.performed)
    || (s.home.txns.any fun t => t.snoops.any fun x => x.half == half && x.joinedOpen && x.joined.any fun j => j.tag == tag)
    || s.ports.barriers.any fun x => x.1 / 512 == half && x.2.req.tag == tag

/-! ### Addresses -/

/-- TYPE of a physical address: true for Device (R243, R280). -/
def State.isDevice (s : State) (pa : Nat) : Bool :=
  let hit := (List.range 64).find? fun n =>
    (s.eff (arrIx Obj.regionAttr n)).testBit 0 && decide (s.eff (arrIx Obj.regionBase n) ≤ pa)
      && decide (pa < s.eff (arrIx Obj.regionLimit n))
  match hit with
  | some n => (s.eff (arrIx Obj.regionAttr n)).testBit 1
  | none => s.eff Obj.regionDefault == 1

/-- What a request's address names. -/
inductive Target where
  /-- Offset in this device's register window (R434). -/
  | window (off : Nat)
  /-- Local address in this device's memory (R30). -/
  | memory (la : Nat)
  | notHome | unmapped
deriving DecidableEq, Repr

/-- Where an address leads (R30, R32, R33, R434). -/
def State.target (s : State) (pa : Nat) : Target :=
  if inWindow pa then
    if windowBase s.domainIndex ≤ pa ∧ pa < windowBase s.domainIndex + 0x1000000 then .window (pa - windowBase s.domainIndex)
    else .notHome
  else
    let (dev, la) := homeOf pa s.domainSize
    if dev ≠ s.domainIndex then .notHome
    else if (s.obj Obj.memCapacity).toNat ≤ la then .unmapped
    else .memory la

/-- The slice number that counter filters see; 32 matches no unit. -/
def State.unitOf (s : State) (r : Req) : Nat := (s.sliceOfReq r).getD 32

/-! ### Credits and answers at the port -/

/-- A request's REQ credit returns once it has been admitted or refused. -/
def State.returnReq (s : State) (half : Nat) : State :=
  let l := s.link half
  if s.halfUp half then s.setLink half { l with reqReturn := l.reqReturn + 1 } else s

/-- A DAT credit of discarded or placed data returns. -/
def State.returnData (s : State) (half : Nat) (r : Req) : State :=
  let l := s.link half
  if hasData r.op && s.halfUp half then s.setLink half { l with datReturn := l.datReturn + 1 } else s

/-- A request completes at its port with an error response (R251, Table 9.9); answers the first cycle of its egress slot. -/
def State.portErrorAt (s : State) (half : Nat) (r : Req) (op c : Nat) : Nat × State :=
  let (e, s) := s.egress 0 [] (outWant half (rspClass r.op op) 1 (c + 8) 1)
  let s := s.toHalf half e (.rsp half (BitVec.ofNat 6 op) r.tag 0)
  (e, ((s.countR 0x108 (s.unitOf r) half r 1).returnReq half).returnData half r)

/-- The same. -/
def State.portError (s : State) (half : Nat) (r : Req) (op c : Nat) : State := (s.portErrorAt half r op c).2

/-- The head of a queue ends so: it is performed when the response has been sent (R251). -/
def State.headError (s : State) (half : Nat) (x : QReq) (op c : Nat) : State :=
  let device := x.req.op != Op.barrier && (inWindow x.req.addr.toNat || s.isDevice x.req.addr.toNat)
  let (e, s) := s.portErrorAt half x.req op c
  s.noteOutcome { id := x.id, queue := queueId half x.req.stream.toNat, cycle := e, device := device }

/-! ### Input checks -/

/-- The request opcodes of Table 4.5. -/
def knownOp (op : Nat) : Bool := isRead op || isEvict op || op == Op.wrInvAll || isMerge op || op == Op.barrier

/-- The feature bit that a request needs on its link: RESERVE, ATOMICS, CACHING (Table 7.6, R293). -/
def needsFeature (op : Nat) : Option Nat :=
  if op = Op.rdRsv ∨ op = Op.wrCond then some 6
  else if isAtomic op then some 7
  else if op = Op.rdShared ∨ op = Op.rdOwn ∨ op = Op.upgrade ∨ isEvict op then some 5
  else none

/-- SIZE and alignment of a request are among those of R275 and R299. -/
def sizeOk (r : Req) : Bool :=
  let n := r.size.toNat
  let allowed := if r.op = Op.rdCur then n ≤ 2 else if isAtomic r.op then n == 1 || n == 2 else n == 0
  allowed && (r.op == Op.barrier || r.addr.toNat % sizeBytes n == 0)

/-- Unused bytes of an 8-byte atomic's operand block are zero (R276). -/
def operandsOk (r : Req) : Bool :=
  !isAtomic r.op || r.size != 1
    || ((r.data >>> 64).toNat % 2 ^ 64 == 0 && (r.data >>> 192).toNat % 2 ^ 64 == 0)

/-- A field that Table 7.10 marks zero is not (R395). -/
def zeroField (r : Req) : Bool := r.rsv != 0 || (r.op == Op.barrier && r.addr != 0)

/-- The counter of the first input check of Table 9.9 that a request fails, ending in Error-Opcode. -/
def State.inputError (s : State) (half : Nat) (r : Req) : Option Nat :=
  let l := s.link half
  let newer := match needsFeature r.op with
    | some b => (b != 5 && decide (l.revision < 0x11)) || !l.features.getLsbD b
    | none => false
  if !knownOp r.op || newer then some Obj.opcodeErrors
  else if zeroField r then some Obj.rsvFieldErrors
  else if !sizeOk r || !operandsOk r then some Obj.opcodeErrors
  else none

/-! ### Commit -/

/-- A request that enters a queue counts as an intervening one for the queue's reservation (Table 6.4, cause 0x09), and for
each RdRsv of the queue that has not looked up. -/
def State.noteEntry (s : State) (q : Nat) (op : Nat) : State :=
  if op = Op.barrier ∨ op = Op.wrCond then s
  else
    let s := s.setQueue q ((s.queue q).map fun x => { x with after := x.after + 1 })
    let s := s.setRefused q ((s.refusedOf q).map fun x => { x with after := x.after + 1 })
    let txns := s.home.txns.map fun (t : Txn) =>
      if t.half == some (q / 512) && t.queue == q && t.phase != .active then { t with after := t.after + 1 } else t
    let s := s.withHome { s.home with txns := txns }
    match Assoc.find? q s.ports.monitors with
    | none => s
    | some m =>
      let s := s.withPorts { s.ports with monitors := Assoc.put q { m with intervening := m.intervening + 1 } s.ports.monitors }
      if 1 ≤ m.intervening then s.clearMonitor q Rsv.intervening else s

/-- A new request, whose packet commits in cycle `c`, takes its place at the tail of its queue; its flit's last bit crossed the balls the
constant receive delay of 8 cycles earlier (R24, R503; log entry 154). -/
def State.enqueue (s : State) (q : Nat) (r : Req) (c : Nat) : Nat × State :=
  let id := s.home.nextId
  let s := s.noteEntry q r.op
  let s := s.setQueue q (s.queue q ++ [{ id := id, req := r, entered := s.now, crossed := c - 8 }])
  (id, s.withHome { s.home with nextId := id + 1 })

/-- The replay of a recorded request takes back its age and its order (R225, R271, R312). -/
def State.enqueueReplay (s : State) (q : Nat) (r : Req) (x : Refused) (c : Nat) : State :=
  let y : QReq := { id := x.id, req := r, entered := x.entered, ageStart := x.ageStart, promoted := x.promoted,
                    replay := true, refusals := x.refusals, after := x.after, tracker := x.tracker, trackerAt := x.trackerAt, crossed := c - 8 }
  (s.setRefused q ((s.refusedOf q).filter fun z => z.id != x.id)).setQueue q (s.queue q ++ [y])

/-! ### Refusals at admission -/

/-- The device's mode serves agent requests (Table 7.13, R403, R404). -/
def State.serves (s : State) : Bool := (s.modes.mode.service || s.modes.mode == .contained) && !s.stopping

/-- Requests that Contained mode admits (R318). -/
def containedOp (op : Nat) : Bool :=
  op == Op.rdCur || op == Op.wrInvAll || op == Op.wrPartial || op == Op.wbData || op == Op.evictClean

/-- REFUSE_CONTAINED or MODE, as (REASON, cause) (R318, R319). -/
def State.earlyRefusal (s : State) (op : Nat) : Option (Nat × Nat) :=
  if s.modes.mode = .contained ∧ !containedOp op then some (3, 0)
  else if !s.serves then some (1, 6)
  else none

/-- Groups under which a request may be admitted: those with slots of its class that match (R50, R59). -/
def State.admGroups (s : State) (half : Nat) (r : Req) (sl : Nat) : List Nat :=
  match s.activeGait with
  | none => []
  | some g =>
    (s.groupsOf half r.partid.toNat).filter fun n =>
      !(g.slotsWith 0 sl fun e => e.cls == admClass r.op && (e.owner == 1 || e.owner == n)).isEmpty

/-- A request of a half comes after its QuiesceReq (R321). -/
def State.afterQuiesce (s : State) (half id : Nat) : Bool :=
  (s.link half).state == .quiescing && decide ((s.link half).quiesceFrom ≤ id)

/-- COVERAGE or QUIESCE, as (REASON, cause) (R319 to R321), for request `id`. -/
def State.lateRefusal (s : State) (half id : Nat) (r : Req) : Option (Nat × Nat) :=
  let covered := match s.sliceOfReq r with
    | some sl => !(s.admGroups half r sl).isEmpty
    | none => true
  if !covered then some (1, 5)
  else if s.afterQuiesce half id then some (1, 8)
  else none

/-- Refuse a request: Refused is sent, its data is discarded, and it is recorded for its replay (R312, R315); an agent
request in Rest wakes the device (R405). -/
def State.refuseReq (s : State) (q : Nat) (x : QReq) (why : Nat × Nat) (wait c : Nat) (record : Bool) : State :=
  let half := q / 512
  let s := s.sendRefused half x.req why.1 why.2 wait (s.unitOf x.req) c
  let s := (s.returnReq half).returnData half x.req
  let s := if record then
      s.recordRefused q { id := x.id, req := headerOf x.req, entered := x.entered,
                          ageStart := some (x.ageStart.getD s.now), promoted := x.promoted, at_ := s.now,
                          refusals := x.refusals + 1, after := x.after, tracker := x.tracker, trackerAt := x.trackerAt }
    else s
  if why = (1, 6) then s.restWake else s

/-- REQUEST_PACKET_COMMIT: a request enters the Tether queue of its half and STREAM, as a replay where it matches a recorded
refusal; answers its number (R300, R312, R314). One that fails an input check ends in Error-Opcode and counts, and changes nothing else
(R394, R395). A queue of 64, the recorded refusals whose replays it awaits among them (log entry 119), refuses it (QUEUE); the refusal
of a replay that finds 64 requests there stays recorded. -/
def State.commit (s : State) (half cyc : Nat) (r : Req) : Option Nat × State :=
  if !s.halfUp half then (none, s)
  else
    let c := s.now * 64 + cyc
    let q := queueId half r.stream.toNat
    let s := if hasData r.op then s.datIn half (reqDataBytes r.op) else s
    let s := if zeroField r then s.bump Obj.rsvFieldErrors else s
    if s.tagOpen half r.tag then (none, (s.bump (arrIx Obj.tagErrors half)).portError half r Op.errOpcode c)
    else if (s.inputError half r).isSome then
      let s := if s.inputError half r = some Obj.opcodeErrors then s.bump Obj.opcodeErrors else s
      (none, s.portError half r Op.errOpcode c)
    else
      match if r.rpl then (s.refusedOf q).find? fun x => x.req.tag == r.tag else none with
      | some x =>
        if 64 ≤ (s.queue q).length then
          let again : List Refused → List Refused := updFirst (fun y => y.id == x.id) fun y =>
            { y with at_ := s.now, refusals := y.refusals + 1 }
          let why := ((s.earlyRefusal r.op).or (s.lateRefusal half x.id r)).getD (1, 4)
          let s := s.refuseReq q { id := x.id, req := r, entered := x.entered } why (if why = (1, 4) then 1 else 255) c false
          (none, s.setRefused q (again (s.refusedOf q)))
        else (some x.id, s.enqueueReplay q r x c)
      | none =>
        if 64 ≤ (s.queue q).length + (s.refusedOf q).length then
          let why := ((s.earlyRefusal r.op).or (s.lateRefusal half s.home.nextId r)).getD (1, 4)
          (none, s.refuseReq q { id := 0, req := r, entered := s.now } why (if why = (1, 4) then 1 else 255) c false)
        else
          let (id, s) := s.enqueue q r c
          (some id, s)

/-! ### Bookings -/

/-- A request whose path is to be booked. -/
structure Path where
  id : Nat
  req : Req
  line : Nat
  slice : Nat
  half : Nat
  /-- Partition class of its PARTID. -/
  pc : Nat
  promoted : Bool
  /-- FCLK cycle at which it reaches its slice. -/
  arrive : Nat
deriving DecidableEq, Repr

/-- The tag-slice slot that the path waits for (R70). -/
def Path.tagWant (p : Path) (grp : Nat) : Want :=
  { kind := 0, row := p.slice, cls := admClass p.req.op, grp := grp, promoted := p.promoted, arrive := p.arrive, half := p.half,
    pc := p.pc, spur := p.promoted }

/-- A slot of another row that the path may need from cycle `arrive` on. -/
def Path.want (p : Path) (grp kind row cls arrive : Nat) : Want :=
  { kind := kind, row := row, cls := cls, grp := grp, promoted := p.promoted, arrive := arrive, half := p.half, pc := p.pc }

/-- Book a slot, and the egress slot of what arrives at the port `after` cycles after the slot begins; the want that failed
otherwise. -/
def State.bookLeg (s : State) (now : Nat) (p : Path) (grp leg out : Nat) (after : Nat → Nat) (w : Want) : Want ⊕ State :=
  match s.bookFirst now p.id leg w with
  | none => .inl w
  | some (b, s) =>
    let e := p.want grp 4 (p.half / 2) Cls.dr (b + after b)
    match s.bookFirst now p.id out e with
    | none => .inl e
    | some (_, s) => .inr s

/-- The same slot of the partner row: the check port, whose slot makes the moves of eight data ports (R346), or the other subchannel
(R71). -/
def State.bookTwin (s : State) (id leg row : Nat) : State :=
  match s.bookingOf id leg with
  | some b => s.book { b with row := row, size := rowShare b.kind row b.size }
  | none => s

/-- The further slots of a read whose look-up runs in cycle `k` (R71): the Kernel bank, the Husk port that holds its sector
(log entry 26) and the DDR5 channel at the trained speed (R331, R332), each with its egress slot. -/
def State.bookRead (s : State) (now : Nat) (p : Path) (grp k : Nat) : Want ⊕ State :=
  let la := p.line * 128
  match s.bookLeg now p grp Leg.bank Leg.outKernel (fun _ => 9) (p.want grp 1 p.slice Cls.dr (k + 4)) with
  | .inl w => .inl w
  | .inr s =>
    let husk : Want ⊕ State := match s.huskSector p.line with
      | none => .inr s
      | some (w, _) =>
        let port := portOfWay (hsetOf la) w
        match s.bookLeg now p grp Leg.husk Leg.outHusk (fun _ => 70) { p.want grp 2 port Cls.dr (k + 8) with place := some (hsetOf la, lineIn la) } with
        | .inl w => .inl w
        | .inr s => .inr (s.bookTwin p.id Leg.husk (checkPort port))
    match husk with
    | .inl w => .inl w
    | .inr s =>
      let ch := chanOf la
      let w : Want := { p.want grp 3 (2 * ch) Cls.dr (k + 8) with dram := some (s.dram la) }
      match s.bookLeg now p grp Leg.ddr5 Leg.outDdr5 (s.ddr5Tail (2 * ch)) w with
      | .inl w => .inl w
      | .inr s => .inr (s.bookTwin p.id Leg.ddr5 (2 * ch + 1))

/-- Book the path of a request under a group (R70, R71): the want that failed otherwise. -/
def State.bookPath (s : State) (now : Nat) (p : Path) (grp : Nat) : Want ⊕ State :=
  match s.bookFirst now p.id Leg.tag (p.tagWant grp) with
  | none => .inl (p.tagWant grp)
  | some (k, s) =>
    if isRead p.req.op then s.bookRead now p grp k
    else
      let e := { p.want grp 4 (p.half / 2) (outClass p.req.op) (k + 8) with size := if isAtomic p.req.op then 8 else 1 }
      match s.bookFirst now p.id Leg.out e with
      | none => .inl e
      | some (_, s) => .inr s

/-- Book under the lowest-numbered group that has a free slot (R59); the first group's failed want otherwise. DESIGN CHOICE (log
entry 130): a group has a free slot where the whole path can be booked under it. -/
def State.bookGroups (s : State) (now : Nat) (p : Path) (groups : List Nat) : Option Want ⊕ (Nat × State) :=
  match groups.findSome? fun g => match s.bookPath now p g with
      | .inr s => some (g, s)
      | .inl _ => none with
  | some x => .inr x
  | none => .inl <| match groups with
    | g :: _ => match s.bookPath now p g with
      | .inl w => some w
      | .inr _ => none
    | [] => none

/-- Cycle from which a refresh-busy bank is free again (R339). -/
def State.refreshFree (s : State) (ch : Nat) (d : DramAddr) (t : Nat) : Nat :=
  (s.refreshTimes ch d.rank d.bank).foldl (fun m b => if b ≤ t ∧ t < b + Config.tRfcSb then max m (b + Config.tRfcSb) else m) t

/-- Cycle from which the banks of a Husk line and its check entry that are refresh-busy in cycle `t` are free again (R339, R348). -/
def State.huskFree (s : State) (port t : Nat) : Nat :=
  ([port, checkPort port].flatMap fun p => (s.refresh (64 + p)).busy ++ (s.refresh (64 + p)).plan).foldl
    (fun m b => if b.1 ≤ t ∧ t < b.1 + Config.tRfcPb then max m (b.1 + Config.tRfcPb) else m) t

/-- A failed want fails because its bank is refresh-busy in slots that it could book otherwise (R339, R348): the cycle from which the
bank is free again. -/
def State.refreshHit (s : State) (now : Nat) (w : Want) : Option Nat :=
  let busy : Nat → Bool := fun t =>
    (match w.dram with | some d => s.refreshBusy (w.row / 2) d t | none => false)
      || match w.place with | some x => !s.huskLegal w.row x t | none => false
  let hits := if w.dram.isNone && w.place.isNone then [] else (List.range 5).flatMap fun i =>
    ((List.range (slotsOf w.kind)).filter fun k => s.canBook now { w with dram := none, place := none } (s.now + i) k
      && busy ((s.now + i) * 64 + slotCycle w.kind k)).map fun k => (s.now + i) * 64 + slotCycle w.kind k
  hits.getLast?.map fun t => match w.dram with
    | some d => s.refreshFree (w.row / 2) d t
    | none => s.huskFree w.row t

/-- WAIT of a SLOT refusal: strides to the first stride with a matching slot free (Table 7.13); past the ledger's reach of
four strides every slot is free. -/
def State.slotWait (s : State) (now : Nat) (w : Want) : Nat :=
  ((List.range 5).find? fun i => (List.range (slotsOf w.kind)).any fun k =>
    s.canBook now { w with free := true } (s.now + i) k).getD 5

/-! ### Acceptance -/

/-- The age of an accepted request enters SPUR_AGE_PEAK (R225). -/
def State.noteAge (s : State) (start : Option Nat) : State :=
  match start with
  | some a => s.peak Obj.spurAgePeak (min (s.now - a) 0xFFFF)
  | none => s

/-- A request that is served at its port is accepted: it counts, and its REQ credit returns. -/
def State.noteAccepted (s : State) (half : Nat) (x : QReq) (c : Nat) : State :=
  let unit := s.unitOf x.req
  let s := ((s.noteAge x.ageStart).countAccepted unit half x.req x.replay).returnReq half
  s.tagAccepted x.id c x.crossed (s.searching unit half x.req)

/-- A transaction that no tracker holds, for the record of a request that is served at its port. -/
def QReq.pseudo (x : QReq) (half : Nat) : Txn :=
  { id := x.id, slice := 0, tracker := none, half := some half, req := x.req, line := 0, phase := .active, entered := x.entered,
    promoted := x.promoted, refusals := x.refusals }

/-- The sample of a request served at its port, whose outcome leaves in the egress slot of cycle `c` (Table 13.5). A register read and a
Barrier are among none of the table's outcomes: a free value (log entry 157). -/
def State.portSample (s : State) (half : Nat) (x : QReq) (outcome : Option Nat) (c : Nat) : State :=
  if s.pmu.tags.any fun g => g.id == x.id then
    let (o, s) : Nat × State := match outcome with
      | some o => (o, s)
      | none => let (o, s) := s.draw 4; (o.toNat, s)
    ((s.tagOutcome x.id o).stampOut x.id c 0).sampleRecord (x.pseudo half) c
  else s

/-! ### The register window -/

/-- Level of a window access (Table 11.2). -/
def winLevel (r : Req) : Level := if 2 ≤ r.priv.toNat then .host else .guest

/-- The register that a window request names, as (key, byte offset in the line); none where it is not one of the two
requests of R244. -/
def windowReg (r : Req) (off : Nat) : Option (Nat × Nat) :=
  let key : Nat → Nat := fun o => o / 256 * 256 + o % 256 / 8
  if r.op = Op.rdCur ∧ r.size = 1 ∧ off % 8 = 0 then some (key off, off % 128)
  else if r.op = Op.wrPartial then
    match (List.range 16).find? fun j => r.mask == (0xFF : BitVec 128) <<< (8 * j) with
    | some j => some (key (off + 8 * j), 8 * j)
    | none => none
  else none

/-- A response of a window access takes an egress Maintenance slot where the row holds one (R437). -/
def State.windowEgress (s : State) (half : Nat) (r : Req) (c size : Nat) : Nat × State :=
  let mt := match s.activeGait with
    | some g => !(g.slotsWith 4 (half / 2) fun e => e.cls == Cls.mt).isEmpty
    | none => false
  s.egress 0 [] (outWant half (if mt then Cls.mt else outClass r.op) 1 (c + 8) size)

/-- The object that a window write writes: the one that its port selects (R442), the counter's own where it is one of R511 (R513). -/
def State.writtenKey (s : State) (k partid : Nat) : Nat :=
  if k / 256 = 0x1011 then (s.portSelected (k % 256 - 1)).1
  else if guestObject k then
    match s.guestCounter partid k with
    | some n => if k / 256 = 0x9500 then arr16 Obj.ctrValue n else arr16 Obj.ctrEvent n
    | none => k
  else k

/-- A window write in cycle `c`: a write of its object by another level in that cycle goes before it, and it is refused with CONFLICT
(R446, R513). DESIGN CHOICE (log entry 39): writes of one cycle come in the order of R446. -/
def State.windowWrite (s : State) (lvl : Level) (k v partid c : Nat) : Nat × State :=
  let key := s.writtenKey k partid
  if s.checkWrite lvl k v partid = 0 ∧ s.dict.written.any (fun w => w.1 == c && w.2.1 == key && w.2.2 != lvl) then
    if k / 256 = 0x1011 then (Ref.conflict, (s.recordRefusal .host key Ref.conflict).portStatus (k % 256 - 1) Ref.conflict)
    else (Ref.conflict, s.refuse lvl k Ref.conflict)
  else
    let (code, s) := s.writeObj lvl k v partid
    (code, if code = 0 then s.withDict { s.dict with written := (s.dict.written.filter (·.1 == c)) ++ [(c, key, lvl)] } else s)

/-- Serve a window request: a register is read or written, and it completes (R244, R436, R437). What a PORT_DATA access finds at the
object selected is PORT_STATUS's matter (R442). -/
def State.window (s : State) (half : Nat) (x : QReq) (off c : Nat) : State :=
  let r := x.req
  match windowReg r off with
  | none => (s.bump Obj.typeErrors).headError half x Op.errType c
  | some (k, o) =>
    let s := s.noteAccepted half x c
    let lvl := winLevel r
    let port := 0x101101 ≤ k && k ≤ 0x101110 && lvl == .host
    let hidden : Nat → Bool := fun code => code == Ref.noObject || code == Ref.access
    let outcome : Nat → Outcome := fun e => { id := x.id, queue := queueId half r.stream.toNat, cycle := e, device := true }
    if r.op = Op.rdCur then
      let (code, v, s) := s.readAny lvl k .live r.partid.toNat
      let absent := hidden code && !port
      let (e, s) := s.windowEgress half r c (if absent then 1 else 8)
      let out := outcome e
      let s := if absent then
          (s.toHalf half e (.rsp half (BitVec.ofNat 6 Op.errUnmapped) r.tag 0)).countR 0x108 32 half r 1
        else
          let d : Line := setBytes 0 o 8 v.toNat
          let s := (s.toHalf half e (.compData half r.tag 0 0 false false d)).datOut half (r.addr.toNat / 128) r.tag false e
          (s.histRead half (c - 13) (s.link half).lost e).stamp x.id 4 (c + 8)
      (s.noteOutcome out).portSample half x (if absent then some 6 else none) e
    else
      let v := (r.data >>> (8 * o)).toNat % 2 ^ 64
      let own := s.checkWrite lvl k v r.partid.toNat
      let (code, s) := s.windowWrite lvl k v r.partid.toNat c
      let absent := hidden (if port then own else code)
      let (e, s) := s.windowEgress half r c 1
      let out := outcome e
      let s := s.returnData half r
      let s := if absent then
          (s.toHalf half e (.rsp half (BitVec.ofNat 6 Op.errUnmapped) r.tag 0)).countR 0x108 32 half r 1
        else s.toHalf half e (.rsp half (BitVec.ofNat 6 Op.comp) r.tag 0)
      (s.noteOutcome out).portSample half x (some (if absent then 6 else 5)) e

/-! ### Admission -/

/-- General trackers that requests of a partition class hold, those that have passed to promoted requests among them (R227), and their
posted write buffer reservations, with those of evictions that have joined a transaction (R215, R317). DESIGN CHOICE (log entry 147): an
entry that a placed write occupies is no reservation any more. -/
def State.classHolds (s : State) (cls : Nat) : Nat × Nat :=
  let mine := s.home.txns.filter fun t => t.half.isSome && s.partClass t.req.partid.toNat == cls
  let joined := s.home.txns.foldl (fun n t => n + (t.snoops.filter fun x =>
    x.holdsData && x.joined.any fun j => s.partClass j.partid.toNat == cls).length) 0
  let passed := ((List.range 16).flatMap s.passed).filter fun x => s.partClass x.2.partid.toNat == cls
  ((mine.filter fun t => match t.tracker with | some k => decide (k < 480) | none => false).length + passed.length,
    (mine.filter (·.pwbReserved)).length + joined)

/-- The quota that an admission would break (R317): 0 trackers, 1 buffer entries. -/
def State.quotaBroken (s : State) (r : Req) : Option Nat :=
  if s.modes.mode ≠ .partitioned ∨ isEvict r.op then none
  else
    let cls := s.partClass r.partid.toNat
    let v := s.eff (arr16 Obj.classQuota cls)
    let (trk, buf) := s.classHolds cls
    if v % 65536 ≠ 0 ∧ v % 65536 < trk + 1 then some 0
    else if hasData r.op ∧ v / 65536 ≠ 0 ∧ v / 65536 < buf + 1 then some 1
    else none

/-- Cycle at which a request accepted in cycle `c` reaches its slice: after the wire, and after the look-up booked for an
earlier request of its queue on its line (R252). -/
def State.reaches (s : State) (q line c : Nat) : Nat :=
  s.home.txns.foldl (fun m t =>
    if t.half == some (q / 512) && t.queue == q && t.line == line && t.phase == .admitted then
      match s.bookingOf t.id Leg.tag with
      | some b => max m (b.cycle + 1)
      | none => m
    else m) (c + 4)

/-! ### The heads of wait lists -/

/-- A head waiter makes its bookings (R209): accepted at this boundary (R211), or it tries again at the next (R210). -/
def State.bookHead (s : State) (t : Txn) : State :=
  let c := s.now * 64
  let half := t.half.getD 0
  let p : Path := { id := t.id, req := t.req, line := t.line, slice := t.slice, half := half,
                    pc := s.partClass t.req.partid.toNat, promoted := t.promoted, arrive := c }
  match s.bookGroups c p (s.admGroups half t.req t.slice) with
  | .inl _ => (s.bump Obj.headRetries).updTxn t.id fun t => { t with triedAt := some s.now }
  | .inr (grp, s) =>
    let s := s.updTxn t.id fun t => { t with group := grp, arrive := c, acceptAt := c - 4, lostAt := (s.link half).lost }
    let s := s.noteAge t.ageStart
    if t.counted then s
    else
      let s := (s.countAccepted t.slice half t.req t.replay).tagAccepted t.id c (c - 17) (s.searching t.slice half t.req)
      s.updTxn t.id fun t => { t with counted := true }

/-- A line is reserved for the request since an earlier stride, and it has neither booked nor tried in this one (R209, R210). -/
def State.headDue (s : State) (t : Txn) : Bool :=
  t.phase == .reserved && t.job.isNone && (s.bookingOf t.id Leg.tag).isNone && decide (t.reservedAt < s.now)
    && t.triedAt != some s.now

/-- The due heads of a slice's wait lists make their bookings, promoted ones first and oldest first among them (R209, R227). -/
def State.headsOf (s : State) (sl : Nat) : State :=
  let heads := s.home.txns.filter fun t => t.slice == sl && s.headDue t
  let early := (heads.filter (·.promoted)).foldl (fun l t => insertAged s.now t l) []
  let s := early.foldl (fun s t => s.bookHead t) s
  (heads.filter fun t => !t.promoted).foldl (fun s t => s.bookHead t) s

/-- Accept a request whose path is booked: its tracker and reservations (R121, R223, R316). DESIGN CHOICE (log entry 131): a WrCond,
which Table 3.6 does not name, reserves no staging entry. -/
def State.accept (s : State) (q : Nat) (x : QReq) (p : Path) (grp c : Nat) (device : Bool) : State :=
  let half := q / 512
  let op := x.req.op
  let staging := hasData op && !device && op != Op.wrCond && !s.modes.mode.noAlloc && s.stagingFree p.slice
  let passed := !isEvict op && x.tracker.isSome
  let tracker := if isEvict op then none else x.tracker.or (s.freeIn p.slice 0 480)
  let t : Txn := { id := x.id, slice := p.slice, tracker := tracker, lostAt := (s.link half).lost,
                   half := some half, mode := s.modes.mode, req := x.req, line := p.line, device := device, group := grp, phase := .admitted,
                   arrive := p.arrive, acceptAt := c, crossed := x.crossed, tagFor := s.searching p.slice half x.req }
  let t : Txn := { t with entered := x.entered, ageStart := x.ageStart, promoted := x.promoted,
                          allocated := if passed then x.trackerAt else s.now, pwbReserved := hasData op, stagingReserved := staging, replay := x.replay,
                          refusals := x.refusals, after := x.after }
  let s := (s.addTxn t).noteTracker p.slice
  let s := if hasData op then s.notePwb (chanOf (p.line * 128)) else s
  (s.noteAge x.ageStart).returnReq half

/-- The resources of a memory request, in the order of R319: quota, tracker, buffer, slots. -/
def State.resources (s : State) (q : Nat) (x : QReq) (la c : Nat) : State :=
  let half := q / 512
  let r := x.req
  let sl := sliceOf la
  let ch := chanOf la
  let hold := s.holdMean sl
  match s.quotaBroken r with
  | some n => s.refuseReq q x (2, n) hold c true
  | none =>
    if !isEvict r.op && x.tracker.isNone && s.freeGeneral sl == 0 then
      (s.bump Obj.trackerRefusals).refuseReq q x (1, 1) hold c true
    else if hasData r.op && decide (1792 ≤ s.pwbReservedUse ch) then s.refuseReq q x (1, 3) 1 c true
    else
      let p : Path := { id := x.id, req := r, line := la / 128, slice := sl, half := half, pc := s.partClass r.partid.toNat,
                        promoted := x.promoted, arrive := s.reaches q (la / 128) c }
      match s.bookGroups c p (s.admGroups half r sl) with
      | .inr (grp, s') => s'.accept q x p grp c (s.isDevice r.addr.toNat)
      | .inl none => s.refuseReq q x (1, 0) 5 c true
      | .inl (some w) =>
        match s.refreshHit c w with
        | some free =>
          let wait := ceilDiv (free - c) 64
          let s := if w.dram.isSome then (s.bump (arrIx Obj.refreshRefusals ch)).countU 0x706 ch 1 else s
          s.refuseReq q x (1, 0) wait c true
        | none => s.refuseReq q x (1, 0) (s.slotWait c w) c true

/-- Offer a queue's head for admission in cycle `c` (R70, R315, R319). -/
def State.offerHead (s : State) (q : Nat) (x : QReq) (c : Nat) : State :=
  let half := q / 512
  let r := x.req
  let s := s.setQueue q ((s.queue q).filter fun y => y.id != x.id)
  match s.earlyRefusal r.op with
  | some why => s.refuseReq q x why 255 c true
  | none =>
    match s.inputError half r with
    | some k => (s.bump k).headError half x Op.errOpcode c
    | none =>
      let target := if r.op = Op.barrier then Target.memory 0 else s.target r.addr.toNat
      match target with
      | .notHome => (s.bump Obj.notHomeCount).headError half x Op.errNotHome c
      | .unmapped => s.headError half x Op.errUnmapped c
      | .window off =>
        if s.afterQuiesce half x.id then s.refuseReq q x (1, 8) 255 c true else s.window half x off c
      | .memory la =>
        match s.lateRefusal half x.id r with
        | some why => s.refuseReq q x why 255 c true
        | none =>
          if r.op = Op.barrier then
            let s := (s.bump Obj.barriers).noteAccepted half x c
            (s.withPorts { s.ports with barriers := Assoc.put q x s.ports.barriers })
          else (if x.promoted then s else s.headsOf (sliceOf la)).resources q x la c

/-- A write whose home slice is fenced and still swept is not offered for admission (Table 9.8). -/
def State.sweptWrite (s : State) (r : Req) : Bool :=
  (r.op == Op.wrInvAll || r.op == Op.wrPartial || r.op == Op.wbData) &&
    (s.sliceOfReq r).any fun sl => s.fenced sl && (Assoc.find? sl s.rel.sweep).isSome

/-- The head of a queue that may be offered: no Barrier of the queue awaits its Comp (R260), a Device request waits until every earlier
Device request of the queue has been performed (R253), and a write until the sweep of a fenced slice is DONE (R392). -/
def State.offered (s : State) (q : Nat) : Option QReq :=
  match s.headOf q with
  | none => none
  | some x =>
    let barrier := (Assoc.find? q s.ports.barriers).isSome
    let device := x.req.op != Op.barrier && (inWindow x.req.addr.toNat || s.isDevice x.req.addr.toNat)
    let held := device && ((s.home.txns.any fun t => t.half == some (q / 512) && t.queue == q && t.device && !t.performed)
      || s.ports.outcomes.any fun o => o.queue == q && o.device)
    let barrier := barrier || s.ports.outcomes.any fun o => o.queue == q && o.barrier
    if barrier || held || s.sweptWrite x.req then none else some x

/-- Queues of a half that have a head to offer, by stream. -/
def State.activeQueues (s : State) (half : Nat) : List (Nat × QReq) :=
  (s.ports.queues.filter fun x => x.1 / 512 == half).filterMap fun x => (s.offered x.1).map fun y => (x.1, y)

/-- The queue of a half whose turn it is, by stream number, with its head (R97). -/
def State.nextQueue (s : State) (half : Nat) : Option (Nat × QReq) :=
  let l := s.activeQueues half
  let last := Assoc.getD s.ports.rr half 511
  match l.find? fun (x : Nat × QReq) => decide (last < x.1 % 512) with
  | some x => some x
  | none => l.head?

/-- Promoted work that may book now: a head of a wait list, or the head of a Tether queue. -/
inductive Early where
  | head (t : Txn)
  | queue (q : Nat) (x : QReq)
deriving DecidableEq, Repr

/-- The promoted work of every half and slice that may book now, with the start of its age and its slice. -/
def State.early (s : State) : List (Nat × Nat × Early) :=
  ((s.home.txns.filter fun t => t.promoted && s.headDue t).map fun t => (t.ageStart.getD s.now, t.slice, Early.head t))
    ++ (List.range 32).flatMap fun h => ((s.activeQueues h).filter fun x => x.2.promoted).map fun x =>
      (x.2.ageStart.getD s.now, s.unitOf x.2.req, Early.queue x.1 x.2)

/-- Insert promoted work by its age, ties by the lower slice number (R227). -/
def insertEarly (x : Nat × Nat × Early) : List (Nat × Nat × Early) → List (Nat × Nat × Early)
  | [] => [x]
  | y :: l => if x.1 < y.1 ∨ (x.1 = y.1 ∧ x.2.1 < y.2.1) then x :: y :: l else y :: insertEarly x l

/-- Promoted work makes its bookings before every unpromoted booking of the stride, oldest first (R227): each head is offered once
(log entry 103). -/
def State.bookEarly (s : State) (c : Nat) : State :=
  (s.early.foldl (fun l x => insertEarly x l) []).foldl (fun s x => match x.2.2 with
    | .head t => if s.headDue t then s.bookHead t else s
    | .queue q y => s.offerHead q y c) s

/-- ADMISSION: a half offers one head, in round-robin order by stream number (R97), after the promoted ones of every half (R227). -/
def State.admission (s : State) (half cyc : Nat) : State :=
  let c := s.now * 64 + cyc
  let s := (s.sentBy c).bookEarly c
  match s.nextQueue half with
  | none => s
  | some (q, x) => (s.withPorts { s.ports with rr := Assoc.put half (q % 512) s.ports.rr }).offerHead q x c

/-- HEAD_BOOKING: the due heads of a slice's wait lists book (R209), after the promoted work of every half and slice (R227). -/
def State.headBooking (s : State) (sl : Nat) : State := ((s.sentBy (s.now * 64)).bookEarly (s.now * 64)).headsOf sl

/-! ### Barriers -/

/-- A request of the queue that was admitted is not yet performed, an eviction that has joined a transaction among them (R216,
R251, R260). -/
def State.queueOpen (s : State) (half q : Nat) : Bool :=
  (s.home.txns.any fun t => (t.half == some half && t.queue == q && !t.performed && !t.gone)
    || t.snoops.any fun x => x.half == half && x.joinedOpen && x.joined.any fun j => queueId half j.stream.toNat == q)
    || s.ports.outcomes.any fun o => o.queue == q && !o.barrier

/-- BARRIER_COMP: every request of the queue admitted before the Barrier has been performed (R260, R261). -/
def State.barrierComp (s0 : State) (half stream : Nat) : State :=
  let s := s0.sentBy (s0.now * 64)
  let q := queueId half stream
  match Assoc.find? q s.ports.barriers with
  | none => s
  | some x =>
    if s.queueOpen half q then s
    else
      let (c, s) := s.egress 0 [] (outWant half Cls.dw 1 (s.now * 64 + 8) 1)
      let s := s.withPorts { s.ports with barriers := Assoc.drop q s.ports.barriers }
      let s := s.countR 0xA04 32 half x.req 1
      let s := s.noteOutcome { id := x.id, queue := q, cycle := c, barrier := true }
      (s.toHalf half c (.rsp half (BitVec.ofNat 6 Op.comp) x.req.tag 0)).portSample half x none c

/-! ### A request followed to its look-up -/

/-- Insert a look-up by the cycle it is booked in. -/
def insertLook (x : Nat × Nat) : List (Nat × Nat) → List (Nat × Nat)
  | [] => [x]
  | y :: l => if x.1 < y.1 then x :: y :: l else y :: insertLook x l

/-- The look-ups that a slice has booked before cycle `c`, as (cycle, number), by their slots. -/
def State.looksBefore (s : State) (sl c : Nat) : List (Nat × Nat) :=
  ((s.home.txns.filter fun t => t.slice == sl).filterMap fun t => match s.bookingOf t.id Leg.tag with
    | some b => if b.cycle < c then some (b.cycle, t.id) else none
    | none => none).foldl (fun l x => insertLook x l) []

/-- Where an admitted request looks up: in the slot it has booked, or an earlier one whose user it is (R51), after the look-ups that its
slice has booked before it (R77; log entry 126); none where it may not look up then, or its slot lies in a later stride, in which LOOKUP
finds it. -/
def State.lookPlace (s : State) (id : Nat) : Option (Txn × Nat) × State :=
  match s.txn id, s.bookingOf id Leg.tag with
  | some t, some b =>
    let s := if b.stride ≠ s.now then s else (s.looksBefore t.slice b.cycle).foldl (fun s x => match s.txn x.2 with
      | some u => if s.readyLook x.1 u then s.lookIn u x.1 [] else s
      | none => s) s
    match s.txn id with
    | some t =>
      if b.stride = s.now && s.readyLook b.cycle t then
        let w := t.tagWant (admClass t.req.op)
        match s.searchSlot w fun n k => decide (n * 64 + k < b.cycle) && s.room 0 t.slice n k 8
            && (s.pickLookAt t.slice n k).any (·.id == id) with
        | some (n, k) => (some (t, n * 64 + k), (s.unbook id Leg.tag).takeRows w [t.slice] n k)
        | none => (some (t, b.cycle), (s.claim id Leg.tag).useAt 0 t.slice b.stride b.slot w.cls w.grp w.promoted)
      else (none, s)
    | none => (none, s)
  | _, _ => (none, s)

/-- The look-up of an admitted request. -/
def State.lookBooked (s : State) (id : Nat) : State :=
  match s.lookPlace id with
  | (some (t, c), s) => s.lookTxn t c []
  | (none, s) => s

/-- A request row: the request commits; where it is its half's turn to be offered it is, as ADMISSION offers it; once admitted it
looks up in its slot, and a Barrier with nothing before it completes. -/
def State.request (s : State) (half cyc : Nat) (op : Nat) (r : Req) : State :=
  let r := { r with opcode := BitVec.ofNat 6 op }
  match s.commit half cyc r with
  | (none, s) => s
  | (some id, s) =>
    let s := s.sentBy (s.now * 64 + cyc)
    match s.nextQueue half with
    | none => s
    | some (_, x) =>
      if x.id ≠ id then s
      else
        let s := s.admission half cyc
        if op = Op.barrier then s.barrierComp half r.stream.toNat else s.lookBooked id

/-! ### Time-driven work of the queues -/

/-- REPLAY_FORGOTTEN: recorded requests that have not been replayed within REPLAY_WAIT strides (R312). -/
def State.replayForgotten (s : State) (half stream : Nat) : State :=
  let q := queueId half stream
  let late : Refused → Bool := fun x => decide (x.at_ + s.eff Obj.replayWait ≤ s.now)
  let gone := (s.refusedOf q).filter late
  let s := s.setRefused q ((s.refusedOf q).filter fun x => !late x || x.tracker.isSome)
  let s := gone.foldl (fun s x => s.leaveTracker x.req x.tracker x.trackerAt) s
  s.setRefused q ((s.refusedOf q).filter fun x => !late x)

/-- A request that may be promoted. -/
structure Aged where
  id : Nat
  half : Nat
  stream : Nat
  slice : Nat
  start : Nat
  promoted : Bool
  req : Req
deriving DecidableEq, Repr

/-- Requests that wait with an age: queued, refused and awaiting their replay, or on a wait list (R225). -/
def State.aged (s : State) : List Aged :=
  let one : Nat → Nat → Req → Option Nat → Bool → Option Aged := fun q id r a p =>
    match a, s.sliceOfReq r with
    | some a, some sl => some ⟨id, q / 512, q % 512, sl, a, p, r⟩
    | _, _ => none
  (s.ports.queues.flatMap fun (x : Nat × List QReq) => x.2.filterMap fun y => one x.1 y.id y.req y.ageStart y.promoted)
    ++ (s.ports.replay.flatMap fun (x : Nat × List Refused) => x.2.filterMap fun y => one x.1 y.id y.req y.ageStart y.promoted)
    ++ s.home.txns.filterMap fun t =>
      if t.phase == .waiting || (t.phase == .reserved && (s.bookingOf t.id Leg.tag).isNone) then
        match t.ageStart, t.half with
        | some a, some h => some ⟨t.id, h, t.req.stream.toNat, t.slice, a, t.promoted, t.req⟩
        | _, _ => none
      else none

/-- Mark a request promoted (R226). -/
def State.promote (s : State) (a : Aged) : State :=
  let queues := s.ports.queues.map fun (x : Nat × List QReq) => (x.1, x.2.map fun y => if y.id = a.id then { y with promoted := true } else y)
  let replay := s.ports.replay.map fun (x : Nat × List Refused) => (x.1, x.2.map fun y => if y.id = a.id then { y with promoted := true } else y)
  let s := s.withPorts { s.ports with queues := queues, replay := replay }
  let s := s.updTxn a.id fun t => { t with promoted := true }
  ((s.bump Obj.spurPromotions).fixed 10 1).countR 0x107 a.slice a.half a.req 1

/-- SPUR_PROMOTION: each half promotes its oldest eligible request at each slice where it has no promoted one waiting; ties go
to the lower stream number (R81, R226). -/
def State.spurPromotion (s : State) : State :=
  let l := s.aged
  let limit := s.eff Obj.spurThreshold
  let pick : List Aged := l.filter fun a =>
    !a.promoted && decide (limit ≤ s.now - a.start)
      && !(l.any fun b => b.promoted && b.half == a.half && b.slice == a.slice)
      && !(l.any fun b => b.id != a.id && b.half == a.half && b.slice == a.slice && !b.promoted
        && (decide (b.start < a.start) || (b.start == a.start && (decide (b.stream < a.stream) || (b.stream == a.stream && decide (b.id < a.id))))))
  pick.foldl (fun s a => s.promote a) s

/-! ### Meanings -/

/-- REQUEST_PACKET_COMMIT (R312). -/
def execRequestPacketCommit (half : Fin 32) (cyc : Fin 64) (r : Req) (s : State) : Host.Outcome State Fault Refusal :=
  .next (s.commit half.val cyc.val r).2

/-- RDSHARED (R190). -/
def execRdShared (half : Fin 32) (cyc : Fin 64) (r : Req) (s : State) : Host.Outcome State Fault Refusal :=
  .next (s.request half.val cyc.val Op.rdShared r)

/-- RDOWN (R190). -/
def execRdOwn (half : Fin 32) (cyc : Fin 64) (r : Req) (s : State) : Host.Outcome State Fault Refusal :=
  .next (s.request half.val cyc.val Op.rdOwn r)

/-- UPGRADE (R190). -/
def execUpgrade (half : Fin 32) (cyc : Fin 64) (r : Req) (s : State) : Host.Outcome State Fault Refusal :=
  .next (s.request half.val cyc.val Op.upgrade r)

/-- RDCUR (R190). -/
def execRdCur (half : Fin 32) (cyc : Fin 64) (r : Req) (s : State) : Host.Outcome State Fault Refusal :=
  .next (s.request half.val cyc.val Op.rdCur r)

/-- RDRSV (R267). -/
def execRdRsv (half : Fin 32) (cyc : Fin 64) (r : Req) (s : State) : Host.Outcome State Fault Refusal :=
  .next (s.request half.val cyc.val Op.rdRsv r)

/-- WBDATA (R190). -/
def execWbData (half : Fin 32) (cyc : Fin 64) (r : Req) (s : State) : Host.Outcome State Fault Refusal :=
  .next (s.request half.val cyc.val Op.wbData r)

/-- EVICTCLEAN (R190). -/
def execEvictClean (half : Fin 32) (cyc : Fin 64) (r : Req) (s : State) : Host.Outcome State Fault Refusal :=
  .next (s.request half.val cyc.val Op.evictClean r)

/-- WRINVALL (R190). -/
def execWrInvAll (half : Fin 32) (cyc : Fin 64) (r : Req) (s : State) : Host.Outcome State Fault Refusal :=
  .next (s.request half.val cyc.val Op.wrInvAll r)

/-- WRPARTIAL (R190). -/
def execWrPartial (half : Fin 32) (cyc : Fin 64) (r : Req) (s : State) : Host.Outcome State Fault Refusal :=
  .next (s.request half.val cyc.val Op.wrPartial r)

/-- WRCOND (R268). -/
def execWrCond (half : Fin 32) (cyc : Fin 64) (r : Req) (s : State) : Host.Outcome State Fault Refusal :=
  .next (s.request half.val cyc.val Op.wrCond r)

/-- ATOMADD (R274). -/
def execAtomAdd (half : Fin 32) (cyc : Fin 64) (r : Req) (s : State) : Host.Outcome State Fault Refusal :=
  .next (s.request half.val cyc.val Op.atomAdd r)

/-- ATOMSWAP (R274). -/
def execAtomSwap (half : Fin 32) (cyc : Fin 64) (r : Req) (s : State) : Host.Outcome State Fault Refusal :=
  .next (s.request half.val cyc.val Op.atomSwap r)

/-- ATOMCAS (R274). -/
def execAtomCas (half : Fin 32) (cyc : Fin 64) (r : Req) (s : State) : Host.Outcome State Fault Refusal :=
  .next (s.request half.val cyc.val Op.atomCas r)

/-- ATOMAND (R274). -/
def execAtomAnd (half : Fin 32) (cyc : Fin 64) (r : Req) (s : State) : Host.Outcome State Fault Refusal :=
  .next (s.request half.val cyc.val Op.atomAnd r)

/-- ATOMOR (R274). -/
def execAtomOr (half : Fin 32) (cyc : Fin 64) (r : Req) (s : State) : Host.Outcome State Fault Refusal :=
  .next (s.request half.val cyc.val Op.atomOr r)

/-- BARRIER (R260). -/
def execBarrier (half : Fin 32) (cyc : Fin 64) (r : Req) (s : State) : Host.Outcome State Fault Refusal :=
  .next (s.request half.val cyc.val Op.barrier r)

/-- BARRIER_COMP (R261). -/
def execBarrierComp (half : Fin 32) (stream : BitVec 9) (s : State) : Host.Outcome State Fault Refusal :=
  .next (s.barrierComp half.val stream.toNat)

/-- ADMISSION (R70). -/
def execAdmission (half : Fin 32) (cyc : Fin 64) (s : State) : Host.Outcome State Fault Refusal :=
  .next (s.admission half.val cyc.val)

/-- REPLAY_FORGOTTEN (R312). -/
def execReplayForgotten (half : Fin 32) (stream : BitVec 9) (s : State) : Host.Outcome State Fault Refusal :=
  .next (s.replayForgotten half.val stream.toNat)

/-- HEAD_BOOKING (R209). -/
def execHeadBooking (slice : Fin 16) (s : State) : Host.Outcome State Fault Refusal := .next (s.headBooking slice.val)

/-- SPUR_PROMOTION (R226). -/
def execSpurPromotion (s : State) : Host.Outcome State Fault Refusal := .next s.spurPromotion

end Sys2Proof.Machine
end

