-- ==== Sys2Proof/Machine/Flits.lean ====
section
/-!
DEFINITION. Payload flits from an agent (07): whether a flit is good, its commit or rewind (R303, R304), and its messages:
short messages, data messages over consecutive slots (R295 to R298), credits, ACKSEQ, NAK and MGT messages (R301, R310).
-/
namespace Sys2Proof.Machine

/-! ### Fields -/

/-- Payload slot `i` of a flit (Table 7.7). -/
def flitSlot (f : BitVec 2000) (i : Nat) : BitVec 128 := BitVec.ofNat 128 (flitNum f (2 + 16 * i) 16)

/-- The control slot (Table 7.9). -/
def flitControl (f : BitVec 2000) : BitVec 128 := BitVec.ofNat 128 (flitNum f 226 16)

/-- Bits `hi` to `lo` of a slot. -/
def slotField (v : BitVec 128) (hi lo : Nat) : Nat := bitsOf v.toNat hi lo

/-- FTYPE, FSEQ and CONT of a flit (Table 7.8). -/
def flitType (f : BitVec 2000) : Nat := bitsOf (flitNum f 0 2) 15 14
def flitSeq (f : BitVec 2000) : BitVec 10 := BitVec.ofNat 10 (bitsOf (flitNum f 0 2) 13 4)
def flitCont (f : BitVec 2000) : Bool := (flitNum f 0 2).testBit 3

/-- Data header `n` of a control slot, where DH_CNT names it. -/
def dataHeader (c : BitVec 128) (n : Nat) : Option (BitVec 48) :=
  if n < slotField c 98 97 ∧ n < 2 then some (BitVec.ofNat 48 (if n = 0 then slotField c 95 48 else slotField c 47 0)) else none

/-- Bits of a data header (Table 7.11). -/
def hdrField (h : BitVec 48) (hi lo : Nat) : Nat := bitsOf h.toNat hi lo

/-- Slots of a data message: none for the reserved LEN. -/
def hdrSlots (h : BitVec 48) : Option Nat :=
  match hdrField h 37 36 with | 0 => some 8 | 1 => some 9 | 2 => some 2 | _ => none

/-- A request from its REQ slot (Table 7.10), its data still to come. -/
def reqOfSlot (v : BitVec 128) : Req :=
  let n : (w hi lo : Nat) → BitVec w := fun w hi lo => BitVec.ofNat w (slotField v hi lo)
  { opcode := n 6 124 119, size := n 3 118 116, priv := n 2 115 114, rpl := v.getLsbD 113, stream := n 9 112 104,
    tag := n 12 103 92, partid := n 10 91 82, keyid := n 10 81 72, rsv := n 20 71 52, addr := n 52 51 0 }

/-- The line that slots hold, slot `s` in bytes 16·s to 16·s + 15 (R297). -/
def lineOfSlots (l : List (BitVec 128)) : Line :=
  l.foldr (fun (x : BitVec 128) (d : Line) => (d <<< 128) ||| x.setWidth 1024) 0

/-- LEN that R297 gives a request's data. -/
def lenOf (op : Nat) : Nat := if op = Op.wrPartial ∨ op = Op.wrCond then 1 else if isAtomic op then 2 else 0

/-! ### Messages -/

/-- Count a non-zero zero-field of an agent's message (R395). -/
def State.zeroField (s : State) (bad : Bool) : State := if bad then s.bump Obj.rsvFieldErrors else s

/-- A request with its ReqData (R298). Where LEN is not the one that R297 gives the opcode, the manual does not say what MASK
and data the request has: free values. -/
def State.reqWithData (s : State) (half : Nat) (r : Req) (h : BitVec 48) (slots : List (BitVec 128)) : State :=
  let len := hdrField h 37 36
  let (r, s) : Req × State :=
    if len ≠ lenOf r.op then
      let (m, s) := s.draw 128
      let (d, s) := s.draw 1024
      ({ r with mask := m, data := d, poison := h.getLsbD 1 }, s)
    else if len = 1 then ({ r with mask := slots.headD 0, data := lineOfSlots (slots.drop 1), poison := h.getLsbD 1 }, s)
    else ({ r with data := lineOfSlots slots, poison := h.getLsbD 1 }, s)
  (s.commit half 0 r).2

/-- A data message has committed whole (Table 4.8); a ReqData that no REQ of the half awaits is a stray (R396, log
entry 110), and its place is free again (R310). -/
def State.dataMessage (s : State) (half : Nat) (h : BitVec 48) (slots : List (BitVec 128)) : State :=
  let op := hdrField h 47 42
  let tag : BitVec 12 := BitVec.ofNat 12 (hdrField h 35 24)
  let htid : BitVec 13 := BitVec.ofNat 13 (hdrField h 23 11)
  let poison := h.getLsbD 1
  let line := lineOfSlots slots
  let fwd := hdrField h 10 2
  match op with
  | 0x02 =>
    (s.zeroField (h.getLsbD 0)).fwdData half { half := hdrField h 10 6, tag := tag, htid := htid, poison := poison, data := line,
                                               grant := BitVec.ofNat 3 (hdrField h 5 3), pend := h.getLsbD 2 } none
  | 0x08 => ((s.zeroField (h.getLsbD 0 || fwd != 0 || tag != 0)).datIn half).agentAnswer half htid 8 (.iWb line poison)
  | 0x09 => ((s.zeroField (h.getLsbD 0 || fwd != 0 || tag != 0)).datIn half).agentAnswer half htid 9 (.sWb line poison)
  | 0x0A =>
    let s := s.zeroField (h.getLsbD 0 || fwd != 0 || htid != 0)
    let l := s.link half
    let mine : BitVec 128 → Bool := fun v => (reqOfSlot v).tag == tag
    match l.reqs.find? mine with
    | none => ((s.setLink half { l with datReturn := l.datReturn + 1 }).datIn half (16 * slots.length)).stray half op 0
    | some v => (s.setLink half { l with reqs := dropFirst mine l.reqs }).reqWithData half (reqOfSlot v) h slots
  | _ => (s.datIn half (16 * slots.length)).stray half op htid

/-- A short message of a slot (R295): requests and responses; agents send no snoops. -/
def State.shortMessage (s : State) (half : Nat) (v : BitVec 128) : State :=
  let htid : BitVec 13 := BitVec.ofNat 13 (slotField v 106 94)
  let op := slotField v 124 119
  match slotField v 127 125 with
  | 1 =>
    let r := reqOfSlot v
    if hasData r.op then
      let l := s.link half
      s.setLink half { l with reqs := l.reqs ++ [v] }
    else (s.commit half 0 r).2
  | 2 => s.zeroField (slotField v 87 45 != 0)
  | 3 =>
    let s := s.zeroField (slotField v 118 107 != 0 || slotField v 93 0 != 0)
    match op with
    | 1 => s.agentAnswer half htid 1 .i
    | 2 => s.agentAnswer half htid 2 .s
    | 3 => s.agentAnswer half htid 3 .fwdI
    | 4 => s.agentAnswer half htid 4 .fwdS
    | 5 => s.agentAnswer half htid 5 .fwdCur
    | 6 => s.agentAnswer half htid 6 .crossing
    | 7 => s.compAck half htid
    | _ => s.stray half op htid
  | _ => s

/-- An MGT message (Tables 7.12, 12.3); unknown opcodes are discarded and counted, and their credit returns (R301). -/
def State.mgtMessage (s : State) (half v : Nat) : State :=
  match bitsOf v 47 42 with
  | 0x01 => s.quiesceReq half
  | 0x12 => s.intDone half (bitsOf v 41 34) (bitsOf v 33 24)
  | 0x13 => s.prioReport half (bitsOf v 41 34) (bitsOf v 33 30) (v.testBit 29) (v.testBit 28)
  | _ => (s.mgtTaken half).bump (arrIx Obj.mgtDiscards half)

/-- Payload slot `i` of a committed flit: a slot of the data message under way, the first of one that a header starts here, or
a short message. -/
def State.payloadSlot (s : State) (half : Nat) (c : BitVec 128) (i : Nat) (v : BitVec 128) : State :=
  let l := s.link half
  match l.carry with
  | some (h, got) =>
    let got := got ++ [v]
    if decide ((hdrSlots h).getD 0 ≤ got.length) then (s.setLink half { l with carry := none }).dataMessage half h got
    else s.setLink half { l with carry := some (h, got) }
  | none =>
    let starts : Nat → Option (BitVec 48) := fun n => match dataHeader c n with
      | some h => if hdrField h 41 38 = i ∧ (hdrSlots h).isSome then some h else none
      | none => none
    match (starts 0).or (starts 1) with
    | some h => s.setLink half { l with carry := some (h, [v]) }
    | none => s.shortMessage half v

/-! ### Link layer -/

/-- Credits that a field of the control slot returns (Table 7.9): the H2C sends on SNP and MGT against them. -/
def Link.addCredit (l : Link) (field : Nat) : Link :=
  match field / 64 with
  | 2 => { l with snpCredit := l.snpCredit + field % 64 }
  | 4 => { l with mgtCredit := l.mgtCredit + field % 64 }
  | _ => l

/-- A NAK is one for as long as successive flits carry it with the same ACKSEQ. -/
def State.nakField (s : State) (half : Nat) (nak : Bool) (ackseq : BitVec 10) : State :=
  let l := s.link half
  let again := nak && l.nakSeen && l.nakSeq == some ackseq
  let s := s.setLink half { l with nakSeen := nak }
  if nak && !again then s.nakReplay half ackseq else s

/-- A payload flit commits: its credits, ACKSEQ and messages take effect (R303). -/
def State.commitFlit (s : State) (half : Nat) (f : BitVec 2000) : State :=
  let c := flitControl f
  let ack : BitVec 10 := BitVec.ofNat 10 (slotField c 127 118)
  let l := s.link half
  let l : Link := Link.ack { l with committed := flitSeq f } ack
  let l := (l.addCredit (slotField c 116 108)).addCredit (slotField c 107 99)
  let s := ((s.setLink half l).countU 0x901 half 1).mgtGo half
  let s := s.nakField half (c.getLsbD 117) ack
  let s := (List.range 14).foldl (fun s i => s.payloadSlot half c i (flitSlot f i)) s
  if c.getLsbD 96 && decide (slotField c 98 97 ≤ 1) then s.mgtMessage half (slotField c 47 0) else s

/-- A flit is rewound with every uncommitted earlier one; NAK is sent until the replay starts (R304). -/
def State.rewind (s : State) (half : Nat) : State :=
  let l := s.link half
  if l.nak then s
  else
    let s := s.setLink half { l with nak := true, held := [] }
    ((s.bump (arrIx Obj.flitReplays half)).fixed 30 1).countU 0x904 half 1

/-- PAYLOAD_FLIT (R303, R304). -/
def State.payloadFlit (s : State) (half : Nat) (fec : Fec) (f : BitVec 2000) : State :=
  let l := s.link half
  if l.state != .active && l.state != .quiescing then s
  else
    let s := s.noteFec half fec
    if !flitGood fec f then s.rewind half
    else if flitType f ≠ 0 then s
    else
      let next := l.committed + BitVec.ofNat 10 (1 + l.held.length)
      if flitSeq f ≠ next then s.rewind half
      else
        let s := s.setLink half { s.link half with nak := false, held := if flitCont f then [f] else [] }
        let s := l.held.foldl (fun s g => s.commitFlit half g) s
        if flitCont f then s else s.commitFlit half f

/-- PAYLOAD_FLIT (R303). -/
def execPayloadFlit (half : Fin 32) (fec : Fec) (flit : BitVec 2000) (s : State) : Host.Outcome State Fault Refusal :=
  .next (s.payloadFlit half.val fec flit)

end Sys2Proof.Machine
end

