-- ==== Sys2Proof/Machine/Dispatch.lean ====
section
/-!
DEFINITION. The dispatch of the commands: one arm per row of spec/opcode_table.json, each one direct call of
its meaning.
-/
namespace Sys2Proof.Machine

/-- The effect of a command on everything but the queue. -/
def exec (i : Instr) (s : State) : Host.Outcome State Fault Refusal :=
  match i with
  | .strideBoundary dieTemp => Sys2Proof.Machine.execStrideBoundary dieTemp s
  | .epochBoundary huskTemps => Sys2Proof.Machine.execEpochBoundary huskTemps s
  | .strideSyncPulse edge width => Sys2Proof.Machine.execStrideSyncPulse edge width s
  | .followerAlignment edge width => Sys2Proof.Machine.execFollowerAlignment edge width s
  | .gaitLoadBankWrite lvl v => Sys2Proof.Machine.execGaitLoadBankWrite lvl v s
  | .gaitLoadImageAppend lvl v => Sys2Proof.Machine.execGaitLoadImageAppend lvl v s
  | .gaitCheck lvl => Sys2Proof.Machine.execGaitCheck lvl s
  | .gaitAbandon lvl => Sys2Proof.Machine.execGaitAbandon lvl s
  | .gaitErase lvl => Sys2Proof.Machine.execGaitErase lvl s
  | .gaitSelectWrite lvl v => Sys2Proof.Machine.execGaitSelectWrite lvl v s
  | .gaitSwapCommitWrite lvl v => Sys2Proof.Machine.execGaitSwapCommitWrite lvl v s
  | .requestPacketCommit half cyc r => Sys2Proof.Machine.execRequestPacketCommit half cyc r s
  | .rdShared half cyc r => Sys2Proof.Machine.execRdShared half cyc r s
  | .rdOwn half cyc r => Sys2Proof.Machine.execRdOwn half cyc r s
  | .upgrade half cyc r => Sys2Proof.Machine.execUpgrade half cyc r s
  | .rdCur half cyc r => Sys2Proof.Machine.execRdCur half cyc r s
  | .rdRsv half cyc r => Sys2Proof.Machine.execRdRsv half cyc r s
  | .wbData half cyc r => Sys2Proof.Machine.execWbData half cyc r s
  | .evictClean half cyc r => Sys2Proof.Machine.execEvictClean half cyc r s
  | .wrInvAll half cyc r => Sys2Proof.Machine.execWrInvAll half cyc r s
  | .wrPartial half cyc r => Sys2Proof.Machine.execWrPartial half cyc r s
  | .wrCond half cyc r => Sys2Proof.Machine.execWrCond half cyc r s
  | .atomAdd half cyc r => Sys2Proof.Machine.execAtomAdd half cyc r s
  | .atomSwap half cyc r => Sys2Proof.Machine.execAtomSwap half cyc r s
  | .atomCas half cyc r => Sys2Proof.Machine.execAtomCas half cyc r s
  | .atomAnd half cyc r => Sys2Proof.Machine.execAtomAnd half cyc r s
  | .atomOr half cyc r => Sys2Proof.Machine.execAtomOr half cyc r s
  | .barrier half cyc r => Sys2Proof.Machine.execBarrier half cyc r s
  | .barrierComp half stream => Sys2Proof.Machine.execBarrierComp half stream s
  | .admission half cyc => Sys2Proof.Machine.execAdmission half cyc s
  | .replayForgotten half stream => Sys2Proof.Machine.execReplayForgotten half stream s
  | .lookup slice cyc err upper => Sys2Proof.Machine.execLookup slice cyc err upper s
  | .headBooking slice => Sys2Proof.Machine.execHeadBooking slice s
  | .rspI half htid => Sys2Proof.Machine.execRspI half htid s
  | .rspS half htid => Sys2Proof.Machine.execRspS half htid s
  | .rspFwdI half htid => Sys2Proof.Machine.execRspFwdI half htid s
  | .rspFwdS half htid => Sys2Proof.Machine.execRspFwdS half htid s
  | .rspFwdCur half htid => Sys2Proof.Machine.execRspFwdCur half htid s
  | .crossing half htid => Sys2Proof.Machine.execCrossing half htid s
  | .compAck half htid => Sys2Proof.Machine.execCompAck half htid s
  | .rspIWb half htid data poison => Sys2Proof.Machine.execRspIWb half htid data poison s
  | .rspSWb half htid data poison => Sys2Proof.Machine.execRspSWb half htid data poison s
  | .fwdData half rhalf rtag htid grant pend data poison late => Sys2Proof.Machine.execFwdData half rhalf rtag htid grant pend data poison late s
  | .retire slice cyc => Sys2Proof.Machine.execRetire slice cyc s
  | .dirAllocRetry slice cyc => Sys2Proof.Machine.execDirAllocRetry slice cyc s
  | .snoopSendAfterCredit half => Sys2Proof.Machine.execSnoopSendAfterCredit half s
  | .fwdDataResend half => Sys2Proof.Machine.execFwdDataResend half s
  | .snoopTimeout htid half => Sys2Proof.Machine.execSnoopTimeout htid half s
  | .crossingTimeout htid half => Sys2Proof.Machine.execCrossingTimeout htid half s
  | .compAckTimeout htid => Sys2Proof.Machine.execCompAckTimeout htid s
  | .departureSweepSet slice cyc => Sys2Proof.Machine.execDepartureSweepSet slice cyc s
  | .kernelFill slice cyc => Sys2Proof.Machine.execKernelFill slice cyc s
  | .fillDrop slice cyc => Sys2Proof.Machine.execFillDrop slice cyc s
  | .kernelVictimReadout slice cyc => Sys2Proof.Machine.execKernelVictimReadout slice cyc s
  | .kernelBankWrite slice cyc => Sys2Proof.Machine.execKernelBankWrite slice cyc s
  | .dirtyVictimPlacement slice cyc => Sys2Proof.Machine.execDirtyVictimPlacement slice cyc s
  | .huskWriteback port slot => Sys2Proof.Machine.execHuskWriteback port slot s
  | .cleanOffer slice cyc => Sys2Proof.Machine.execCleanOffer slice cyc s
  | .sectorReplacementRead port slot => Sys2Proof.Machine.execSectorReplacementRead port slot s
  | .sectorTagWrite slice cyc => Sys2Proof.Machine.execSectorTagWrite slice cyc s
  | .hullWriteback chan slot => Sys2Proof.Machine.execHullWriteback chan slot s
  | .maintCleanInvalidateRange lvl => Sys2Proof.Machine.execMaintCleanInvalidateRange lvl s
  | .maintCleanRange lvl => Sys2Proof.Machine.execMaintCleanRange lvl s
  | .maintCleanInvalidatePartid lvl => Sys2Proof.Machine.execMaintCleanInvalidatePartid lvl s
  | .maintCleanInvalidateWays lvl => Sys2Proof.Machine.execMaintCleanInvalidateWays lvl s
  | .maintAbort lvl => Sys2Proof.Machine.execMaintAbort lvl s
  | .partApplyWrite lvl v => Sys2Proof.Machine.execPartApplyWrite lvl v s
  | .regionAttrWrite lvl n v => Sys2Proof.Machine.execRegionAttrWrite lvl n v s
  | .memConfigValidWrite lvl v => Sys2Proof.Machine.execMemConfigValidWrite lvl v s
  | .ddr5RefreshIssue chan slot => Sys2Proof.Machine.execDdr5RefreshIssue chan slot s
  | .mr4TemperatureReport chan rank hot => Sys2Proof.Machine.execMr4TemperatureReport chan rank hot s
  | .huskRefreshIssue port slot => Sys2Proof.Machine.execHuskRefreshIssue port slot s
  | .pwbDemandWriteIssue chan slot => Sys2Proof.Machine.execPwbDemandWriteIssue chan slot s
  | .pwbWritebackIssue chan slot => Sys2Proof.Machine.execPwbWritebackIssue chan slot s
  | .drainStart lvl => Sys2Proof.Machine.execDrainStart lvl s
  | .drainAbort lvl => Sys2Proof.Machine.execDrainAbort lvl s
  | .drainFrame slice cyc => Sys2Proof.Machine.execDrainFrame slice cyc s
  | .keyIndexWrite lvl v => Sys2Proof.Machine.execKeyIndexWrite lvl v s
  | .keyMaterialAppend lvl v => Sys2Proof.Machine.execKeyMaterialAppend lvl v s
  | .keyInstall lvl => Sys2Proof.Machine.execKeyInstall lvl s
  | .keyRandomise lvl => Sys2Proof.Machine.execKeyRandomise lvl s
  | .scrubRead kind row slot err => Sys2Proof.Machine.execScrubRead kind row slot err s
  | .correctionWrite kind row slot => Sys2Proof.Machine.execCorrectionWrite kind row slot s
  | .correctionReread kind row slot err => Sys2Proof.Machine.execCorrectionReread kind row slot err s
  | .bucketLeak b => Sys2Proof.Machine.execBucketLeak b s
  | .fieldRepairProgram readbackGood => Sys2Proof.Machine.execFieldRepairProgram readbackGood s
  | .voteMismatch timer copy => Sys2Proof.Machine.execVoteMismatch timer copy s
  | .uncorrectableStateError u => Sys2Proof.Machine.execUncorrectableStateError u s
  | .fclkOutOfLimit count => Sys2Proof.Machine.execFclkOutOfLimit count s
  | .phyClockFault u => Sys2Proof.Machine.execPhyClockFault u s
  | .caParityAlert chan => Sys2Proof.Machine.execCaParityAlert chan s
  | .containmentSweep slice bad => Sys2Proof.Machine.execContainmentSweep slice bad s
  | .modeRequestKeep lvl => Sys2Proof.Machine.execModeRequestKeep lvl s
  | .modeRequestPassThrough lvl => Sys2Proof.Machine.execModeRequestPassThrough lvl s
  | .modeRequestNormal lvl => Sys2Proof.Machine.execModeRequestNormal lvl s
  | .modeRequestPartitioned lvl => Sys2Proof.Machine.execModeRequestPartitioned lvl s
  | .modeRequestRest lvl => Sys2Proof.Machine.execModeRequestRest lvl s
  | .modeRequestDrain lvl => Sys2Proof.Machine.execModeRequestDrain lvl s
  | .modeRequestDegraded lvl => Sys2Proof.Machine.execModeRequestDegraded lvl s
  | .modeRequestTest lvl => Sys2Proof.Machine.execModeRequestTest lvl s
  | .drainWalkSet slice cyc => Sys2Proof.Machine.execDrainWalkSet slice cyc s
  | .resetNAssert ns => Sys2Proof.Machine.execResetNAssert ns s
  | .resetHoldAlarm ms => Sys2Proof.Machine.execResetHoldAlarm ms s
  | .resetNRelease ns => Sys2Proof.Machine.execResetNRelease ns s
  | .settleCommand lvl => Sys2Proof.Machine.execSettleCommand lvl s
  | .settleNAssert ns => Sys2Proof.Machine.execSettleNAssert ns s
  | .bringupFuse straps => Sys2Proof.Machine.execBringupFuse straps s
  | .bringupHuskTraining ports => Sys2Proof.Machine.execBringupHuskTraining ports s
  | .bringupDdr5Training chans => Sys2Proof.Machine.execBringupDdr5Training chans s
  | .bringupDone micros => Sys2Proof.Machine.execBringupDone micros s
  | .bringupStepOvertime step => Sys2Proof.Machine.execBringupStepOvertime step s
  | .wakeNPulse ns => Sys2Proof.Machine.execWakeNPulse ns s
  | .paddockTimerWake ms => Sys2Proof.Machine.execPaddockTimerWake ms s
  | .brownout rail => Sys2Proof.Machine.execBrownout rail s
  | .mgmtResetNAssert ns => Sys2Proof.Machine.execMgmtResetNAssert ns s
  | .mgmtResetNRelease nodeId => Sys2Proof.Machine.execMgmtResetNRelease nodeId s
  | .thermtrip temp => Sys2Proof.Machine.execThermtrip temp s
  | .receiverDetect half lanes => Sys2Proof.Machine.execReceiverDetect half lanes s
  | .trainingBlock half blocks eq => Sys2Proof.Machine.execTrainingBlock half blocks eq s
  | .trainingTimeout half => Sys2Proof.Machine.execTrainingTimeout half s
  | .capabilityFlit half fec flit => Sys2Proof.Machine.execCapabilityFlit half fec flit s
  | .payloadFlit half fec flit => Sys2Proof.Machine.execPayloadFlit half fec flit s
  | .nakReplay half ackseq => Sys2Proof.Machine.execNakReplay half ackseq s
  | .ackWaitExpiry half => Sys2Proof.Machine.execAckWaitExpiry half s
  | .retrainDone half ok width rate => Sys2Proof.Machine.execRetrainDone half ok width rate s
  | .linkReset lvl port => Sys2Proof.Machine.execLinkReset lvl port s
  | .linkRetrain lvl port => Sys2Proof.Machine.execLinkRetrain lvl port s
  | .linkDisable lvl port => Sys2Proof.Machine.execLinkDisable lvl port s
  | .lossOfSignal half ns => Sys2Proof.Machine.execLossOfSignal half ns s
  | .quiesceReq half => Sys2Proof.Machine.execQuiesceReq half s
  | .quiesceComplete half => Sys2Proof.Machine.execQuiesceComplete half s
  | .quiesceTimeout half => Sys2Proof.Machine.execQuiesceTimeout half s
  | .intDone half core source => Sys2Proof.Machine.execIntDone half core source s
  | .prioReport half core prio masked asleep => Sys2Proof.Machine.execPrioReport half core prio masked asleep s
  | .sourceEvent source data storeError => Sys2Proof.Machine.execSourceEvent source data storeError s
  | .interruptSend half => Sys2Proof.Machine.execInterruptSend half s
  | .eventInChange ball level samples => Sys2Proof.Machine.execEventInChange ball level samples s
  | .irqStatusClear lvl k v => Sys2Proof.Machine.execIrqStatusClear lvl k v s
  | .ringRead lvl ring view => Sys2Proof.Machine.execRingRead lvl ring view s
  | .swRaise lvl v => Sys2Proof.Machine.execSwRaise lvl v s
  | .alarm ms => Sys2Proof.Machine.execAlarm ms s
  | .alarmRepeat ms => Sys2Proof.Machine.execAlarmRepeat ms s
  | .heartbeat ms => Sys2Proof.Machine.execHeartbeat ms s
  | .identify bus f ms => Sys2Proof.Machine.execIdentify bus f ms s
  | .bridleRead bus f ms => Sys2Proof.Machine.execBridleRead bus f ms s
  | .bridleWrite bus f ms => Sys2Proof.Machine.execBridleWrite bus f ms s
  | .alarmAck bus f => Sys2Proof.Machine.execAlarmAck bus f s
  | .busOffRecovery bus occurrences => Sys2Proof.Machine.execBusOffRecovery bus occurrences s
  | .dictWrite lvl index sub v => Sys2Proof.Machine.execDictWrite lvl index sub v s
  | .rcRead lvl index sub view => Sys2Proof.Machine.execRcRead lvl index sub view s
  | .portDataAccess p write => Sys2Proof.Machine.execPortDataAccess p write s
  | .lockAcquire lvl area => Sys2Proof.Machine.execLockAcquire lvl area s
  | .lockCommit lvl area => Sys2Proof.Machine.execLockCommit lvl area s
  | .lockCommitApply area => Sys2Proof.Machine.execLockCommitApply area s
  | .lockAbandon lvl area => Sys2Proof.Machine.execLockAbandon lvl area s
  | .lockExpiry area => Sys2Proof.Machine.execLockExpiry area s
  | .dictStoreError w => Sys2Proof.Machine.execDictStoreError w s
  | .snapshot lvl => Sys2Proof.Machine.execSnapshot lvl s
  | .snapshotClear lvl => Sys2Proof.Machine.execSnapshotClear lvl s
  | .ctrValueWrite lvl fixed n v => Sys2Proof.Machine.execCtrValueWrite lvl fixed n v s
  | .ctrOwnerWrite lvl n v => Sys2Proof.Machine.execCtrOwnerWrite lvl n v s
  | .groomRestart lvl => Sys2Proof.Machine.execGroomRestart lvl s
  | .groomStop lvl => Sys2Proof.Machine.execGroomStop lvl s
  | .stageBegin lvl => Sys2Proof.Machine.execStageBegin lvl s
  | .stageImageAppend lvl v => Sys2Proof.Machine.execStageImageAppend lvl v s
  | .stageCheck lvl => Sys2Proof.Machine.execStageCheck lvl s
  | .stageAbandon lvl => Sys2Proof.Machine.execStageAbandon lvl s
  | .add nd na nb => Sys2Proof.Machine.execAdd nd na nb s
  | .sub nd na nb => Sys2Proof.Machine.execSub nd na nb s
  | .and nd na nb => Sys2Proof.Machine.execAnd nd na nb s
  | .or nd na nb => Sys2Proof.Machine.execOr nd na nb s
  | .xor nd na nb => Sys2Proof.Machine.execXor nd na nb s
  | .shl nd na sh => Sys2Proof.Machine.execShl nd na sh s
  | .shr nd na sh => Sys2Proof.Machine.execShr nd na sh s
  | .sar nd na sh => Sys2Proof.Machine.execSar nd na sh s
  | .shlv nd na nb => Sys2Proof.Machine.execShlv nd na nb s
  | .shrv nd na nb => Sys2Proof.Machine.execShrv nd na nb s
  | .cmplt nd na nb => Sys2Proof.Machine.execCmplt nd na nb s
  | .cmpltu nd na nb => Sys2Proof.Machine.execCmpltu nd na nb s
  | .mullo nd na nb => Sys2Proof.Machine.execMullo nd na nb s
  | .mulhi nd na nb => Sys2Proof.Machine.execMulhi nd na nb s
  | .quou nd na nb => Sys2Proof.Machine.execQuou nd na nb s
  | .modu nd na nb => Sys2Proof.Machine.execModu nd na nb s
  | .clz nd na => Sys2Proof.Machine.execClz nd na s
  | .popc nd na => Sys2Proof.Machine.execPopc nd na s
  | .addi nd na imm => Sys2Proof.Machine.execAddi nd na imm s
  | .andi nd na imm => Sys2Proof.Machine.execAndi nd na imm s
  | .ori nd na imm => Sys2Proof.Machine.execOri nd na imm s
  | .xori nd na imm => Sys2Proof.Machine.execXori nd na imm s
  | .cmplti nd na imm => Sys2Proof.Machine.execCmplti nd na imm s
  | .cmpltiu nd na imm => Sys2Proof.Machine.execCmpltiu nd na imm s
  | .ldhi nd imm => Sys2Proof.Machine.execLdhi nd imm s
  | .ld4 nd na imm err => Sys2Proof.Machine.execLd4 nd na imm err s
  | .ld2s nd na imm err => Sys2Proof.Machine.execLd2s nd na imm err s
  | .ld2u nd na imm err => Sys2Proof.Machine.execLd2u nd na imm err s
  | .ld1s nd na imm err => Sys2Proof.Machine.execLd1s nd na imm err s
  | .ld1u nd na imm err => Sys2Proof.Machine.execLd1u nd na imm err s
  | .st4 nd na imm => Sys2Proof.Machine.execSt4 nd na imm s
  | .st2 nd na imm => Sys2Proof.Machine.execSt2 nd na imm s
  | .st1 nd na imm => Sys2Proof.Machine.execSt1 nd na imm s
  | .ldx nd na imm err => Sys2Proof.Machine.execLdx nd na imm err s
  | .stx nd na imm => Sys2Proof.Machine.execStx nd na imm s
  | .beq na nb off annul hint => Sys2Proof.Machine.execBeq na nb off annul hint s
  | .bne na nb off annul hint => Sys2Proof.Machine.execBne na nb off annul hint s
  | .blt na nb off annul hint => Sys2Proof.Machine.execBlt na nb off annul hint s
  | .bge na nb off annul hint => Sys2Proof.Machine.execBge na nb off annul hint s
  | .blo na nb off annul hint => Sys2Proof.Machine.execBlo na nb off annul hint s
  | .bhs na nb off annul hint => Sys2Proof.Machine.execBhs na nb off annul hint s
  | .jmp target => Sys2Proof.Machine.execJmp target s
  | .call target => Sys2Proof.Machine.execCall target s
  | .jmpr na => Sys2Proof.Machine.execJmpr na s
  | .callr nd na => Sys2Proof.Machine.execCallr nd na s
  | .gets nd special => Sys2Proof.Machine.execGets nd special s
  | .puts nd special => Sys2Proof.Machine.execPuts nd special s
  | .waite nd => Sys2Proof.Machine.execWaite nd s
  | .trap code => Sys2Proof.Machine.execTrap code s
  | .samplePreload cells => Sys2Proof.Machine.execSamplePreload cells s
  | .extest cells => Sys2Proof.Machine.execExtest cells s
  | .dictRead index sub => Sys2Proof.Machine.execDictRead index sub s
  | .groomDebug op => Sys2Proof.Machine.execGroomDebug op s
  | .bypass tdi => Sys2Proof.Machine.execBypass tdi s
  | .busError bus transmit => Sys2Proof.Machine.execBusError bus transmit s
  | .gaitCheckDone => Sys2Proof.Machine.execGaitCheckDone s
  | .armChecksDone => Sys2Proof.Machine.execArmChecksDone s
  | .shadowLoad => Sys2Proof.Machine.execShadowLoad s
  | .gaitSwitch => Sys2Proof.Machine.execGaitSwitch s
  | .armTimeout => Sys2Proof.Machine.execArmTimeout s
  | .spurPromotion => Sys2Proof.Machine.execSpurPromotion s
  | .streamExit => Sys2Proof.Machine.execStreamExit s
  | .maintLine slice cyc => Sys2Proof.Machine.execMaintLine slice cyc s
  | .maintDone => Sys2Proof.Machine.execMaintDone s
  | .unreservedPlacementRetry => Sys2Proof.Machine.execUnreservedPlacementRetry s
  | .rowIdleClose => Sys2Proof.Machine.execRowIdleClose s
  | .drainingEntry => Sys2Proof.Machine.execDrainingEntry s
  | .drained => Sys2Proof.Machine.execDrained s
  | .keyEffect => Sys2Proof.Machine.execKeyEffect s
  | .farrierFlush slice cyc => Sys2Proof.Machine.execFarrierFlush slice cyc s
  | .fieldRepairActivate => Sys2Proof.Machine.execFieldRepairActivate s
  | .wayRetirement slice cyc => Sys2Proof.Machine.execWayRetirement slice cyc s
  | .stage4Action slice cyc => Sys2Proof.Machine.execStage4Action slice cyc s
  | .degradedEntry => Sys2Proof.Machine.execDegradedEntry s
  | .refclkMissing => Sys2Proof.Machine.execRefclkMissing s
  | .containedEntry => Sys2Proof.Machine.execContainedEntry s
  | .modeTransition => Sys2Proof.Machine.execModeTransition s
  | .stopLimitExpiry => Sys2Proof.Machine.execStopLimitExpiry s
  | .restExit => Sys2Proof.Machine.execRestExit s
  | .settleStopDone => Sys2Proof.Machine.execSettleStopDone s
  | .settleRecallDone => Sys2Proof.Machine.execSettleRecallDone s
  | .settleDrainDone => Sys2Proof.Machine.execSettleDrainDone s
  | .bringupPllLock => Sys2Proof.Machine.execBringupPllLock s
  | .bringupBist => Sys2Proof.Machine.execBringupBist s
  | .bringupKeys => Sys2Proof.Machine.execBringupKeys s
  | .bringupGait => Sys2Proof.Machine.execBringupGait s
  | .keepEntryDone => Sys2Proof.Machine.execKeepEntryDone s
  | .vkeepPowerOn => Sys2Proof.Machine.execVkeepPowerOn s
  | .vkeepRemoved => Sys2Proof.Machine.execVkeepRemoved s
  | .mainRailsApplied => Sys2Proof.Machine.execMainRailsApplied s
  | .snapshotTaken => Sys2Proof.Machine.execSnapshotTaken s
  | .histWindowClose => Sys2Proof.Machine.execHistWindowClose s
  | .groomWatchdogExpiry => Sys2Proof.Machine.execGroomWatchdogExpiry s
  | .stageCheckDone => Sys2Proof.Machine.execStageCheckDone s
  | .groomHalt => Sys2Proof.Machine.execGroomHalt s
  | .groomResume => Sys2Proof.Machine.execGroomResume s
  | .groomStep => Sys2Proof.Machine.execGroomStep s
  | .brk => Sys2Proof.Machine.execBrk s
  | .tret => Sys2Proof.Machine.execTret s
  | .idcode => Sys2Proof.Machine.execIdcode s
  | .clamp => Sys2Proof.Machine.execClamp s
  | .highz => Sys2Proof.Machine.execHighz s
  | .refclkStopInKeep => Sys2Proof.Machine.execRefclkStopInKeep s
  | .refclkReturn => Sys2Proof.Machine.execRefclkReturn s
  | .settleNRelease => Sys2Proof.Machine.execSettleNRelease s
  | .restEntryDone => Sys2Proof.Machine.execRestEntryDone s
  | .groomLoadDone => Sys2Proof.Machine.execGroomLoadDone s
  | .heldWake => Sys2Proof.Machine.execHeldWake s
  | .tapReset => Sys2Proof.Machine.execTapReset s

end Sys2Proof.Machine
end

