-- ==== Sys2Proof/Safety.lean ====
section
/-!
DEFINITION. The terms that the statements use: what a command does, frames, and the conditions under which commands
complete.
-/
namespace Sys2Proof.Machine

/-- `n` steps from `s` all answer a next state. -/
def SafeFor : Nat → State → Prop
  | 0, _ => True
  | n + 1, s => ∃ t, step s = .next t ∧ SafeFor n t

/-- Command `i` in state `s` answers a next state of which `P` holds. -/
def Does (i : Instr) (s : State) (P : State → Prop) : Prop := ∃ t, exec i s = .next t ∧ P t

/-! ### Accesses and events -/

/-- A write of `v` to object `k` by the level passes the checks of Table 11.4 and is not staged under a lock (R448): the
object's own rule decides it. -/
def State.accepts (s : State) (lvl : Level) (k v : Nat) : Bool :=
  s.checkWrite lvl k v 0 == 0 && s.checkRange k v == 0 && !s.stages lvl k

/-- The access was answered last, with the refusal code `c`, 0 where it was accepted. -/
def Answered (t : State) (lvl : Level) (k c : Nat) : Prop := t.sent.getLast? = some (.answer lvl k c 0)

/-- Nothing changed but the values that reads of objects return with their fall-back copies, the times of the locks' holders,
the messages sent, and what the event of an interrupt source may write: the interrupt logic and Bridle's alarms (R465, R468,
R486). A rule that writes a further group of the state is framed against the state with that group taken from `t`. -/
structure WroteRaised (s t : State) : Prop where
  free : t.free = s.free
  time : t.time = s.time
  gait : t.gait = s.gait
  tiers : t.tiers = s.tiers
  home : t.home = s.home
  ports : t.ports = s.ports
  mem : t.mem = s.mem
  rel : t.rel = s.rel
  modes : t.modes = s.modes
  pmu : t.pmu = s.pmu
  groom : t.groom = s.groom
  pkg : t.pkg = s.pkg
  fuse : t.fuse = s.fuse
  pending : t.pending = s.pending
  eff : t.dict.eff = s.dict.eff
  writes : t.dict.pending = s.dict.pending
  holding : t.dict.holding = s.dict.holding
  held : t.dict.partHeld = s.dict.partHeld
  due : t.dict.partDue = s.dict.partDue
  snapTake : t.dict.snapTake = s.dict.snapTake
  snapClear : t.dict.snapClear = s.dict.snapClear
  frozen : t.dict.frozen = s.dict.frozen
  written : t.dict.written = s.dict.written

/-- As `WroteRaised`, with no event: the interrupt logic and the alarms stay. -/
structure WroteOnly (s t : State) : Prop extends WroteRaised s t where
  irq : t.irq = s.irq
  bridle : t.bridle = s.bridle

/-- Objects that an event of a source may write: IRQ_STATUS and the rings' counters (R479, R483 to R485). -/
def eventKey (k : Nat) : Bool := k / 256 == 0x8080 || (decide (0x8300 ≤ k / 256) && decide (k / 256 ≤ 0x833F))

/-- Every object reads as before but those listed and those that an event of a source may write. -/
def ObjsKept (s t : State) (ks : List Nat) : Prop := ∀ k, k ∉ ks → eventKey k = false → t.obj k = s.obj k

/-- The records of a refusal at a level: DICT_REFUSALS and LAST_REFUSAL (R433). -/
def refusalObjs (lvl : Level) : List Nat := [Obj.dictRefusals + (levelNum lvl - 1), Obj.lastRefusal + (levelNum lvl - 1)]

/-- A source has had its event: where records and interrupts run (R488), its IRQ_STATUS bit is set where its configuration
routes it there (R479), and an idle source that is not a fast one is Pending (R468). -/
def Raised (s t : State) (n : Nat) : Prop :=
  s.eventsOn = true →
    ((s.srcConfig n).testBit 9 = true → (t.obj (Obj.irqStatus + n / 64)).toNat.testBit (n % 64) = true) ∧
      ((s.srcConfig n).testBit 30 = false → (t.source n).st ≠ .idle)

/-! ### Bridle -/

/-- A frame sent on the bus moves its error counters without a change of its state (R463). -/
def State.steadySend (s : State) (b : Nat) : Bool :=
  let x := s.bus b
  x.tec == 0 || busStateOf { x with tec := x.tec - 1 } == x.state

/-- As `steadySend`, for a frame received. -/
def State.steadyRecv (s : State) (b : Nat) : Bool :=
  let x := s.bus b
  x.recv == 0 || busStateOf { x with recv := min (x.recv - 1) 127 } == x.state

/-! ### Groom -/

/-- Groom executes the instruction at its program counter: it runs, the word is in the I-SRAM, and the instruction does not
stand in an annulled delay slot (R516, R523). -/
def State.groomReady (s : State) : Bool :=
  s.groom.run == .running && decide (s.groom.pc.toNat % 4 = 0) && decide (s.groom.pc.toNat < 0x20000) &&
    match s.groom.slot with
    | .annulled _ => false
    | _ => true

/-- As `groomReady`, outside a delay slot, where control transfers are legal (R523). -/
def State.groomFree (s : State) : Bool := s.groomReady && s.groom.slot == .none

/-- An instruction passed in `cycles` Groom cycles and left everything but general registers, D-SRAM and the debug halt as it
was; control is at the next instruction. -/
def GroomPassed (s t : State) (cycles : Nat) : Prop :=
  t = { s with groom := { s.groom with
    regs := t.groom.regs, dsram := t.groom.dsram, pc := s.groomNextPc, slot := .none,
    cycle := s.groom.cycle + BitVec.ofNat 32 (cycles + s.groom.lost), spent := s.groom.spent + cycles + s.groom.lost, lost := 0,
    run := t.groom.run,
    haltWanted := t.groom.haltWanted, dog := t.groom.dog } }

/-- Register `nd` takes `v`, unless it is n0, and every other general register stays (R514). -/
def GroomWrites (s t : State) (nd : GReg) (v : GWord) : Prop :=
  ∀ n, t.greg n = if n = nd ∧ nd ≠ 0 then v else s.greg n

/-! ### Husk lines -/

/-- The check entry of a scrub unit names the line that its sector holds there (R347). -/
def State.huskUnitGood (s : State) (port u : Nat) : Bool :=
  let (h, w, n) := huskUnit port u
  (s.sector h w).all fun x => x.st n == .invalid ||
    ((Assoc.find? (checkKey h w n) s.tiers.hchecks).map (·.addr) == some (laOfH h x.tag n / 128))

/-! ### Requests -/

/-- A tracked request of which the home has seen nothing yet: it has sent no snoop, waits for nothing and has answered nothing. -/
def Txn.fresh (t : Txn) : Bool :=
  t.phase == .admitted && !t.orderRefuse && t.base.isNone && t.snoops.isEmpty && !t.needAck && t.ackAt.isNone && !t.pend
    && !t.performed && t.todo == .nothing && t.dirWay.isNone && !t.needWay && t.backInv.isNone && !t.waitBack && !t.gone
    && t.grant == 0 && t.record.isNone && !t.acked && !t.ackRetired && !t.invDone

/-- Request `t` of half `h` looks up with nothing in its way: its slice serves it, its line is free, a tracker is free for
it, no copy of the line holds another KEYID (R118), the messages of the half leave, and no outcome of the request waits for its slot. -/
structure LooksUpFree (s : State) (t : Txn) (h : Nat) : Prop where
  fresh : t.fresh = true
  tracked : s.txn t.id = some t
  half : t.half = some h
  up : s.halfUp h = true
  open_ : s.fenced t.slice = false
  idle : s.activeOn t.line = none
  free : s.lineHeld t.line t.id = false
  tracker : t.tracker.isSome = true ∨ (isEvict t.req.op = true ∧ (s.freeIn t.slice 0 480).isSome = true)
  memory : t.device = false
  key : s.otherKey t.line t.req.keyid.toNat = none
  departed : s.obj Obj.departedMask = 0
  unsent : ∀ o ∈ s.ports.outcomes, o.id ≠ t.id
  alone : ∀ u ∈ s.home.txns, u.backInv ≠ some t.id

/-- Where the request of a row looks up: the request commits, it is its half's turn to be offered (R97), it passes every check of
admission and books its path (R70, R319), and it may look up in its slot (R252). Answers the state in which it looks up, its
tracked request, and the cycle. -/
def State.looksUp (s : State) (half cyc op : Nat) (r : Req) : Option (State × Txn × Nat) :=
  let r := { r with opcode := BitVec.ofNat 6 op }
  match s.commit half cyc r with
  | (none, _) => none
  | (some id, s) =>
    let s := s.sentBy (s.now * 64 + cyc)
    match s.nextQueue half with
    | none => none
    | some (_, x) =>
      if x.id ≠ id then none
      else
        match (s.admission half cyc).lookPlace id with
        | (some (t, c), s) => some (s, t, c)
        | (none, _) => none

end Sys2Proof.Machine
end

