-- ==== Sys2Proof/Certificates/Slice0/Obligations.lean ====
section
/-!
DEFINITION. The statements for the provers. Each docstring names the rules and tables of the spec that its clauses follow.
-/
open Sys2Proof Sys2Proof.Machine

/-- A step runs the command at the front of the queue, with the queue's rest waiting; on an empty queue the block idles, which
is the model's choice (log entry 24). -/
def Obligations.StepRunsFront : Prop :=
  (∀ (c : Instr) (rest : List Instr) (s : State), s.pending = c :: rest → step s = exec c (s.withPending rest))
  ∧ (∀ s : State, s.pending = [] → step s = .next s)

/-- Every command answers a next state: none faults and none is refused. That a command whose condition fails leaves the state
as it was, that a step on an empty queue idles, and that no command stops, is the model's choice (log entries 23, 24 and 39).
-/
def Obligations.EveryCommandAnswers : Prop :=
 ∀ (c : Instr) (s : State), Does c s fun _ => True

/-- R44, Tables 10.6 and 10.10, and the Default columns: reset leaves the device in Bring-up before its first step, with
STRIDE_COUNT zero and every object named here at the default that its table gives, with nothing cached, recorded or queued;
the Paddock reads its reset values. That RESET_CAUSE is 0x01 follows from Table 10.6. -/
def Obligations.ResetState : Prop :=
  let s := State.reset
  s.now = 0 ∧ s.modes.mode = .bringup ∧ s.modes.steps = 0 ∧ s.pending = []
  ∧ (∀ x ∈ [(Obj.waitlistMax, 32), (Obj.spurThreshold, 8), (Obj.snoopTimeout, 256), (Obj.stopLimit, 8192), (Obj.bootMode, 5),
      (Obj.modePrevious, 3), (Obj.restWakeOnReq, 1), (Obj.modeResult, 0)], (s.obj x.1).toNat = x.2 ∧ s.eff x.1 = x.2)
  ∧ (∀ line, s.tierCopy line = none ∧ s.dirHit line = none ∧ s.pwbOf line = none)
  ∧ s.home.txns = [] ∧ (∀ q, s.queue q = [] ∧ s.refusedOf q = [])
  ∧ (s.modes.paddock.getD 0 0).toNat % 256 = 0 ∧ (s.modes.paddock.getD 0 0).toNat / 256 % 256 = 1
  ∧ (s.modes.paddock.getD 0 0).toNat / 65536 % 2 ^ 32 = 0 ∧ (s.modes.paddock.getD 0 0).getLsbD 48 = true
  ∧ (s.modes.paddock.getD 3 0).toNat % 256 = paddockCheck s.modes.paddock

/-- Groom's SRAMs are in their one form at reset. -/
def Obligations.SramFormAtReset : Prop :=
  Memory.wf State.reset.groom.isram = true ∧ Memory.wf State.reset.groom.dsram = true

/-- Whatever the command, Groom's two SRAMs stay in their one form: addresses strictly rising, and no byte listed that reads
zero anyway. -/
def Obligations.SramForm : Prop :=
  ∀ s t : State, Memory.wf s.groom.isram = true → Memory.wf s.groom.dsram = true → step s = .next t →
    Memory.wf t.groom.isram = true ∧ Memory.wf t.groom.dsram = true

/-- R409, R410, R413, R415: RESET_N low for a microsecond is a cold reset: the mode is Reset, the first cause to arrive is
kept, every object but the named results and RESET_HOLD_MS reads its default, and nothing is cached, tracked or queued; a
shorter pulse does nothing. A hold is counted in RESET_HOLD_MS and raises source 0x0BE at 100 ms and a second after each
alarm. The release with the rails in range begins Bring-up, unless a brownout holds the device in Reset. Where the condition
of a row is not met nothing happens (the model's choice, log entry 23). R22, R67, R95, R450, R453, R534: a management reset
empties the bank that was loading or under check, drops a swap that is pending or armed with result RESET and its bank
ACCEPTED again, lets a committed one stand, frees every lock, stops Groom and silences Bridle; alarms not acknowledged are to
be pushed again (the model's reading, log entry 82), and a freed lock reads ABANDONED (log entry 74). Its release reads
NODE_ID and restarts Groom. Where the condition of a row is not met nothing happens (the model's choice, log entry 23). -/
def Obligations.PinResets : Prop :=
  (∀ (s : State) (ns ms : Nat),
     (1000 ≤ ns → s.modes.mode.powered = true → s.modes.mode ≠ .reset → Does (.resetNAssert ns) s fun t =>
       t.modes.mode = .reset ∧ t.modes.resetN = true ∧ t.modes.pwrEn = s.modes.pwrEn ∧ t.tiers.ktags = [] ∧ t.tiers.sectors = []
       ∧ t.home.txns = [] ∧ t.home.dir = [] ∧ t.ports.queues = [] ∧ t.ports.links = [] ∧ t.mem.pwb = [] ∧ t.mem.dram = []
       ∧ t.gait.banks = [] ∧ t.gait.ledger = [] ∧ t.dict.pending = [] ∧ t.dict.locks = [] ∧ t.rel.field = s.rel.field
       ∧ t.rel.retired = s.rel.retired ∧ t.bridle = s.bridle ∧ t.fuse = s.fuse
       ∧ (∀ k, k ∉ [Obj.modeResult, Obj.gaitSwapResult, Obj.partApplyResult, Obj.drainStatus, Obj.resetHoldMs] →
           t.obj k = objDefault k)
       ∧ (s.modes.asked = true → t.obj Obj.modeResult = 0xC)
       ∧ (s.modes.causeOpen = true → bitsOf (t.modes.paddock.getD 0 0).toNat 15 8 = 3
           ∧ bitsOf (t.modes.paddock.getD 0 0).toNat 7 0 = s.modes.mode.code)
       ∧ (s.modes.causeOpen = false → t.modes.paddock = s.modes.paddock))
     ∧ (ns < 1000 → exec (.resetNAssert ns) s = .next s ∧ exec (.resetNRelease ns) s = .next s)
     ∧ (s.modes.resetN = true → s.modes.mode = .reset → s.modes.mgmtUp = true → 100 ≤ ms →
       s.modes.holdAlarmMs = 0 ∨ s.modes.holdAlarmMs + 1000 ≤ ms →
       Does (.resetHoldAlarm ms) s fun t => t.obj Obj.resetHoldMs = BitVec.ofNat 64 (min ms 0xFFFFFFFF)
         ∧ t.modes = { s.modes with holdAlarmMs := ms }
         ∧ t.bridle.alarms.map (·.source) = s.bridle.alarms.map (·.source) ++ [0xBE]
         ∧ ObjsKept s t [Obj.resetHoldMs] ∧ WroteRaised (s.withModes t.modes) t)
     ∧ (s.modes.resetN = true → s.modes.mode = .reset → ms < 100 →
       Does (.resetHoldAlarm ms) s fun t => t = s.setNat Obj.resetHoldMs (min ms 0xFFFFFFFF))
     ∧ (1000 ≤ ns → s.modes.mode = .reset ∨ s.modes.mode = .keep ∧ s.modes.pwrEn = true → s.modes.rails = 0x1F → s.modes.refclkStopped = false → s.modes.brownout = false →
       (s.modes.paddock.getD 3 0).toNat % 256 = paddockCheck s.modes.paddock →
       Does (.resetNRelease ns) s fun t => t.modes.mode = .bringup ∧ t.modes.steps = 0 ∧ t.modes.cold = true
         ∧ t.modes.resetN = false ∧ t.modes.paddock = s.modes.paddock ∧ (∀ k, t.obj k = s.obj k))
     ∧ (1000 ≤ ns → s.modes.mode = .reset → s.modes.brownout = true → Does (.resetNRelease ns) s fun t =>
         t = s.withModes { s.modes with resetN := false }))
  ∧ (∀ (s : State) (ns : Nat) (node : BitVec 6),
       (1000 ≤ ns → s.modes.mgmtUp = true → Does (.mgmtResetNAssert ns) s fun t =>
         t.modes.mgmtUp = false ∧ t.bridleUp = false ∧ t.groom.run = .reset ∧ t.groom.stage = s.groom.stage
         ∧ (∀ a, (t.lock a).holder = none) ∧ t.bridle.executed = [] ∧ t.bridle.alarmSeq = s.bridle.alarmSeq
         ∧ (∀ b, b < 16 → t.bankState b ≠ 1 ∧ t.bankState b ≠ 6) ∧ t.modes.mode = s.modes.mode ∧ t.tiers = s.tiers
         ∧ t.home = s.home ∧ t.mem = { s.mem with material := [] }
         ∧ (s.obj Obj.gaitSwapState = 1 ∨ s.obj Obj.gaitSwapState = 2 →
             t.gait.armBank = none ∧ t.gait.switchAt = none ∧ t.obj Obj.gaitSwapState = 0 ∧ t.obj Obj.gaitSwapResult = 0xE
             ∧ ∀ b, b < 16 → s.gait.armBank = some b → s.bankState b = 5 → t.bankState b = 2)
         ∧ (s.obj Obj.gaitSwapState = 0 ∨ s.obj Obj.gaitSwapState = 3 →
             t.gait.armBank = s.gait.armBank ∧ t.gait.switchAt = s.gait.switchAt
             ∧ t.obj Obj.gaitSwapState = s.obj Obj.gaitSwapState ∧ t.obj Obj.gaitSwapResult = s.obj Obj.gaitSwapResult)
         ∧ (∀ a ∈ t.bridle.alarms, a.acked = false → a.pushed = none)
         ∧ (∀ a ∈ s.bridle.alarms, a.source ≠ 0xB3 → (if a.acked then a else { a with pushed := none }) ∈ t.bridle.alarms)
         ∧ (∀ a l v, (a, l) ∈ s.dict.locks → l.holder = some v → (a, { result := 2 }) ∈ t.dict.locks))
       ∧ (ns < 1000 ∨ s.modes.mgmtUp = false → exec (.mgmtResetNAssert ns) s = .next s)
       ∧ (s.modes.mgmtUp = false → s.modes.mode = .normal → Does (.mgmtResetNRelease node) s fun t =>
         t.modes.mgmtUp = true ∧ t.bridle.nodeId = node.toNat ∧ t.bridle.nominal = (s.obj Obj.bridleNominal).toNat
         ∧ t.bridle.data = (s.obj Obj.bridleData).toNat
         ∧ t.groom.run = (if s.obj Obj.groomImageSelect = 1 then .authenticating else .loading)
         ∧ t.bridleUp = (node != 0 && node != 0x3F)))

/-- R414, R419, R420, R554, Table 10.1: power. VKEEP alone powers the Paddock with its reset values; the main rails bring
Reset; VKEEP lost is Off; a brownout while RESET_N is released is a cold reset that holds the device in Reset, and while it is
asserted, and in Keep, only the rail's state and THERMTRIP_N follow the rail; and a trip drives THERMTRIP_N low while VDD is
in range. A command whose condition is not met does nothing (the model's choice, log entry 23). R414, R416, R418, R25: Keep.
Its entry after Recall leaves in a retained DRAM what State.writeDirty writes out, counts in KEEP_ENTRIES and drops PWR_EN;
WAKE_N, a held wake and the Paddock timer wake the device where the Paddock lets them; the timer counts the milliseconds of
REFCLK since the entry or the return of REFCLK, and stands while REFCLK stops. A command whose condition is not met does
nothing (the model's choice, log entry 23). -/
def Obligations.PowerAndKeep : Prop :=
  (∀ (s : State) (rail : Fin 5) (temp : Nat),
     (s.modes.mode = .off → Does .vkeepPowerOn s fun t => t.modes.mode = .keep ∧ t.modes.pwrEn = false ∧ t.modes.vkeep = true
       ∧ t.modes.paddock.getD 0 0 = 0x0001000000000100 ∧ t.modes.paddock.getD 1 0 = 0 ∧ t.modes.paddock.getD 2 0 = 0
       ∧ t = s.withModes t.modes)
     ∧ (s.modes.mode ≠ .off → exec .vkeepPowerOn s = .next s)
     ∧ (s.modes.mode ≠ .off → Does .vkeepRemoved s fun t => t.modes.mode = .off ∧ t.modes.pwrEn = false ∧ t.modes.mgmtUp = false
       ∧ t.modes.rails = 0 ∧ t.tiers.ktags = [] ∧ t.mem.dram = [] ∧ t.rel.field = s.rel.field ∧ t.fuse = s.fuse)
     ∧ (s.modes.mode = .off ∨ s.modes.mode = .keep → Does .mainRailsApplied s fun t =>
       t.modes.mode = .reset ∧ t.modes.rails = 0x1F ∧ t.modes.resetN = true ∧ t.modes.pwrEn = true ∧ t.modes.mgmtUp = false
       ∧ (s.modes.mode = .off → bitsOf (t.modes.paddock.getD 0 0).toNat 15 8 = 1)
       ∧ (s.modes.mode = .keep → t.mem.dram = s.mem.dram ∧ (s.modes.causeOpen = true →
           bitsOf (t.modes.paddock.getD 0 0).toNat 15 8 = 2)))
     ∧ (s.modes.mode.powered = true → s.modes.mode ≠ .reset → s.modes.resetN = false → Does (.brownout rail) s fun t =>
       t.modes.mode = .reset ∧ t.modes.brownout = true ∧ t.modes.rails.getLsbD rail.val = false ∧ t.tiers.ktags = []
       ∧ (s.modes.causeOpen = true → bitsOf (t.modes.paddock.getD 0 0).toNat 15 8 = 9)
       ∧ t.pkg.thermtrip = (s.pkg.thermtrip && rail.val != 0))
     ∧ (s.modes.mode.powered = true ∧ s.modes.resetN = true ∨ s.modes.mode = .keep → Does (.brownout rail) s fun t =>
       t.modes = { s.modes with rails := t.modes.rails }
       ∧ (∀ i, t.modes.rails.getLsbD i = (s.modes.rails.getLsbD i && i != rail.val))
       ∧ t.pkg.thermtrip = (s.pkg.thermtrip && rail.val != 0) ∧ t = (s.withModes t.modes).withPkg t.pkg)
     ∧ (s.modes.mode = .off → exec (.brownout rail) s = .next s)
     ∧ (120 ≤ temp → s.modes.rails.getLsbD 0 = true → Does (.thermtrip temp) s fun t =>
       t = s.withPkg { s.pkg with thermtrip := true })
     ∧ (temp < 120 ∨ s.modes.rails.getLsbD 0 = false → exec (.thermtrip temp) s = .next s))
  ∧ (∀ (s : State) (ns ms : Nat),
       let w := (s.modes.paddock.getD 0 0)
       let asleep := s.modes.mode = .keep ∧ s.modes.pwrEn = false
       let woken : Nat → State → Prop := fun cause t => t.modes.pwrEn = true ∧ t.modes.wake = true ∧ t.modes.mode = .keep
         ∧ (s.modes.causeOpen = true → bitsOf (t.modes.paddock.getD 0 0).toNat 15 8 = cause)
         ∧ (s.modes.causeOpen = false → t.modes.paddock = s.modes.paddock) ∧ (∀ k, t.obj k = s.obj k)
       (s.modes.trans = some .keepStop → s.modes.recalling = true → s.recalled = true → s.rel.fatal = [] → Does .keepEntryDone s fun t =>
         t.modes.mode = .keep ∧ t.modes.pwrEn = false ∧ t.tiers.ktags = [] ∧ t.tiers.sectors = [] ∧ t.mem.pwb = []
         ∧ bitsOf (t.modes.paddock.getD 1 0).toNat 31 16 = min (bitsOf (s.modes.paddock.getD 1 0).toNat 31 16 + 1) 65535
         ∧ (w.getLsbD 50 = true → t.mem.selfRefresh = true ∧ t.mem.dram = s.writeDirty.mem.dram) ∧ (w.getLsbD 50 = false → t.mem.dram = []))
       ∧ (s.modes.recalling = false ∨ s.rel.fatal ≠ [] → exec .keepEntryDone s = .next s)
       ∧ (5000 ≤ ns → w.getLsbD 48 = true → asleep → Does (.wakeNPulse ns) s (woken 6))
       ∧ (5000 ≤ ns → w.getLsbD 48 = true → s.modes.mode ≠ .keep → s.modes.trans = some .keepStop →
         Does (.wakeNPulse ns) s fun t => t = s.withModes { s.modes with wakeHeld := true })
       ∧ (ns < 5000 ∨ w.getLsbD 48 = false → exec (.wakeNPulse ns) s = .next s)
       ∧ (asleep → s.modes.wakeHeld = true → Does .heldWake s (woken 6))
       ∧ (asleep → s.modes.refclkStopped = false →
         (w.getLsbD 49 = true → bitsOf w.toNat 47 16 ≠ 0 → bitsOf w.toNat 47 16 ≤ s.modes.keepMs + ms →
           Does (.paddockTimerWake ms) s (woken 7))
         ∧ (w.getLsbD 49 = false ∨ s.modes.keepMs + ms < bitsOf w.toNat 47 16 →
           Does (.paddockTimerWake ms) s fun t => t = s.withModes { s.modes with keepMs := s.modes.keepMs + ms }))
       ∧ (asleep → s.modes.refclkStopped = true → exec (.paddockTimerWake ms) s = .next s)
       ∧ (s.modes.mode = .keep → Does .refclkStopInKeep s fun t => t = s.withModes { s.modes with refclkStopped := true })
       ∧ (s.modes.refclkStopped = true → Does .refclkReturn s fun t =>
           t = s.withModes { s.modes with refclkStopped := false, keepMs := 0 }))

/-- R413, Table 10.3, R29, R107, R140, R357: the first four steps of Bring-up complete once the steps that they start after
are complete: 1 PLL starts the stride counter and the links' detection, 2 FUSE samples the straps after a cold reset, stops on
straps in error and applies the factory spares and the field-repair entries in use (R379, R381), 3 BIST empties the tiers and
the directory, its array BIST run after a Settle only where BIST_ON_SETTLE asks for it, 4 KEYS draws the Husk key, after a
cold reset the KEYID table, and the seeds of the LFSRs. Steps 1 and 3 before their time do nothing (the model's choice, log
entry 23). R330, R349, R413, Table 10.3, R61, R83, R334: 5 HUSK sets each port's state by its training and its check port's,
with source 0x0B2's event where a port failed, 7 DDR5 needs all twelve channels, 8 GAIT loads bank 0 and after a cold reset
chooses it; step 10 makes the boot bank the active gait, loads the LFSRs' seeds and enters Test where it was asked for,
Degraded where capacity is reduced and the gait lists it, and the boot mode otherwise, with DEGRADE_PENDING where Degraded is
due; and a step past its maximum raises one alarm. Where the condition of a row is not met nothing happens (the model's
choice, log entry 23). The channels whose DIMM is absent, the gait and the mode in which a Bring-up of reduced capacity ends,
and the word of its event, are the model's readings and choices (log entries 76, 77 and 151). -/
def Obligations.BringupSteps : Prop :=
  (∀ (s : State) (straps : BitVec 32),
     (s.stepRuns 1 = true → Does .bringupPllLock s fun t => t.stepDone 1 = true ∧ t.now = 0 ∧ t.modes.mode = .bringup
       ∧ (∀ h, h < 32 → s.usedHalf h = true → (t.link h).state = .detect)
       ∧ (s.modes.mgmtUp = true → t.groom.run = .loading ∨ t.groom.run = .authenticating))
     ∧ (s.stepRuns 1 = false → exec .bringupPllLock s = .next s)
     ∧ (s.stepRuns 2 = true → s.modes.strapError = false → s.modes.cold = false → s.obj Obj.strapStatus ≠ 1 →
       (s.modes.settleN = false → Does (.bringupFuse straps) s fun t => t.stepDone 2 = true ∧ t.modes.mode = .bringup
         ∧ t.stepDone 5 = (s.stepDone 5 || s.fuse.huskOff) ∧ t.pkg = s.pkg
         ∧ t.rel.spares = s.fuse.spares ++ s.rel.field.filterMap fun x => spareOfEntry x.2)
       ∧ (s.modes.settleN = true → exec (.bringupFuse straps) s = .next s))
     ∧ (s.stepRuns 2 = true → s.modes.strapError = false → s.modes.cold = true → s.modes.onceDone.getLsbD 2 = false →
       Does (.bringupFuse straps) s fun t => t.pkg.sampled = straps &&& 0x07FFFFC0
         ∧ (t.domainSize ≤ t.domainIndex → t.modes.strapError = true ∧ t.stepDone 2 = false ∧ Raised s t 0xBE)
         ∧ (t.domainIndex < t.domainSize → s.modes.settleN = false → t.stepDone 2 = true))
     ∧ (s.stepRuns 3 = true → Does .bringupBist s fun t => t.stepDone 3 = true ∧ t.tiers.ktags = [] ∧ t.tiers.sectors = []
       ∧ t.home.dir = [] ∧ t.modes.bistRan = (s.modes.cold || s.obj Obj.bistOnSettle == 1) ∧ t.mem = s.mem
       ∧ (∀ k, t.obj k = s.obj k))
     ∧ (s.stepRuns 3 = false → exec .bringupBist s = .next s)
     ∧ (s.stepRuns 4 = true → Does .bringupKeys s fun t => t.stepDone 4 = true
       ∧ t.mem.huskGen = s.mem.huskGen + 1 ∧ t.tiers.seeds.length = 17 ∧ t.tiers.seeds.all (· != 0) ∧ t.tiers.lfsr = s.tiers.lfsr
       ∧ (s.obj Obj.lfsrSeedMode = 1 → ∀ i, i < 17 → t.tiers.seeds.getD i 0 =
           (let v := (s.obj Obj.lfsrSeed).setWidth 32 ^^^ BitVec.ofNat 32 (i * 0x01010101)
            if v = 0 then 1 else v))
       ∧ (s.modes.cold = true → s.modes.onceDone.getLsbD 4 = false → t.mem.keys = [] ∧ t.mem.randoms = s.mem.randoms + 1)
       ∧ (s.modes.cold = false → t.mem.keys = s.mem.keys)))
  ∧ (∀ (s : State) (speed micros b : Nat) (ports chans : List TrainResult) (n : Fin 16),
       let r : Nat → TrainResult := fun j => ports.getD j .absent
       let c : Nat → TrainResult := fun j => chans.getD j .absent
       let boot := s.activateBoot.loadSeeds
       let done : Mode → State → Prop := fun m t => t.modes.mode = m ∧ t.stepDone 10 = true ∧ t.modes.settle = 0
         ∧ t.modes.causeOpen = true ∧ t.obj Obj.bringupTime = BitVec.ofNat 64 (min micros 0xFFFFFFFF) ∧ t.obj Obj.modePrevious = 3
         ∧ t.obj Obj.gaitActive = BitVec.ofNat 64 b ∧ t.bankState b = 4 ∧ t.tiers.lfsr = s.tiers.seeds
         ∧ (t.modes.paddock.getD 1 0).toNat % 65536 = min ((s.modes.paddock.getD 1 0).toNat % 65536 + 1) 65535 ∧ Raised s t 0xB1
       (s.stepRuns 5 = true → (∀ j, j < 18 → r j = .absent) → Does (.bringupHuskTraining ports) s fun t =>
         t.stepDone 5 = true ∧ t.obj Obj.fusedConfig = 2 ∧ (∀ j, j < 18 → t.portState j = 0) ∧ t.obj Obj.huskRefNeed = 0)
       ∧ (s.stepRuns 5 = true → (∃ j, j < 18 ∧ r j ≠ .absent) → Does (.bringupHuskTraining ports) s fun t =>
         t.stepDone 5 = true ∧ t.obj Obj.fusedConfig = 0
         ∧ (∀ j, j < 16 → (r (checkPort j) = .failed ∨ r (checkPort j) = .mismatch → t.portState j = 6)
             ∧ (r (checkPort j) = .absent → r j ≠ .absent → t.portState j = 6)
             ∧ (r (checkPort j) = .trained → t.portState j = match r j with | .trained => 2 | .absent => 0 | _ => 6))
         ∧ (∀ j, j < 18 → t.portState j = 6 → Raised s t 0xB2)
         ∧ ((∀ j, j < 18 → r j = .trained) → (∀ j, j < 18 → t.portState j = 2) ∧ t.obj Obj.huskRefNeed = 269))
       ∧ (s.stepRuns 7 = true → s.popSpeed = some speed →
         ((∀ j, j < 12 → c j = .trained) → Does (.bringupDdr5Training chans) s fun t => t.stepDone 7 = true
           ∧ t.mem.selfRefresh = false ∧ (∀ j, j < 12 → t.obj (Obj.chanState + j * 256) = 2)
           ∧ t.obj Obj.memSpeed = BitVec.ofNat 64 speed)
         ∧ ((∃ j, j < 12 ∧ c j ≠ .trained) → Does (.bringupDdr5Training chans) s fun t => t.modes = s.modes
           ∧ (∀ j, j < 12 → t.obj (Obj.chanState + j * 256) = match c j with | .trained => 2 | .mismatch => 4 | _ => 5)
           ∧ WroteOnly s t))
       ∧ (s.stepRuns 8 = true → s.modes.cold = true → Does .bringupGait s fun t => t.stepDone 8 = true
         ∧ t.stepDone 9 = (s.stepDone 9 || s.leader || s.time.phase == .aligned) ∧ t.gait.boot = 0
         ∧ t.bankState 0 = (if s.formerBank = some 0 then 4 else 2) ∧ t.obj Obj.gaitActive = s.obj Obj.gaitActive
         ∧ Assoc.find? 0 t.gait.banks = some (GaitSrc.rom s.kernelOnly (s.obj Obj.memSpeed).toNat))
       ∧ (s.stepRuns 10 = true → s.gait.boot = b → b < 16 →
         (s.modes.testWanted = true → Does (.bringupDone micros) s (done .test))
         ∧ (s.modes.testWanted = false → boot.bootDegraded = false → s.bootMode ≠ .test →
           Does (.bringupDone micros) s (done s.bootMode))
         ∧ (s.modes.testWanted = false → boot.bootDegraded = true → boot.gaitLists .degraded = true →
           Does (.bringupDone micros) s (done .degraded))
         ∧ (s.modes.testWanted = false → boot.bootDegraded = true → boot.gaitLists .degraded = false → s.bootMode ≠ .degraded →
           Does (.bringupDone micros) s fun t => done s.bootMode t ∧ t.obj Obj.degradePending = 1))
       ∧ (s.stepRuns n.val = true → n.val ∈ [1, 2, 3, 4, 5, 7, 8] → s.modes.overtime.getLsbD n.val = false →
         Does (.bringupStepOvertime n) s fun t =>
           t.modes.overtime.getLsbD n.val = true ∧ t.modes = { s.modes with overtime := t.modes.overtime }
           ∧ Raised s t 0xBE ∧ ObjsKept s t [] ∧ WroteRaised (s.withModes t.modes) t)
       ∧ (s.modes.overtime.getLsbD n.val = true → exec (.bringupStepOvertime n) s = .next s))

/-- R455 to R460, Tables 11.7 to 11.9: a request addressed to the device on an open bus, which repeats none of the last 50 ms,
is executed and answered on that bus with the request's SEQ, and kept for 50 ms: IDENTIFY with the bytes of Table 11.9, a READ
with the code and the value that the dictionary answers the Board, a WRITE with the code of State.frameWrite, whose effect on
the objects it has, and a reserved service with NO_SERVICE (its eight bytes are the model's reading, log entry 93). A frame
with a reserved byte that is not zero is executed and counted. An accepted WRITE of a value is shown in full for three
objects. A request beside four others of its source in the last millisecond is executed, or answered with BUSY and not
executed: which is a free value (log entry 163). R452, R453, R459, R460, Table 11.6: a request of any service, the reserved
ones among them, that repeats one executed within 50 ms is answered with the stored response and not executed; a frame of
another kind, or with the device's own SRC, is ignored; both are counted, and nothing else changes but the error counters of
the buses. -/
def Obligations.BridleRequests : Prop :=
  (∀ (s : State) (bus : Fin 2) (f : Frame) (ms : Nat),
     let b := bus.val
     let own := s.bridle.nodeId
     let service := frameField f 11 8
     let k := f.num 2 2 * 256 + f.byte 4
     let ident := bridleId 1 1 (frameField f 17 12) own service (frameField f 7 0)
     let s0 := s.busGood b false
     let s1 := if frameOdd f (isBlob k) then s0.bump Obj.busIgnored else s0
     s.bridleUp = true → s.busOpen b = true → f.fdBrs = true → frameField f 17 12 ≠ own →
     frameField f 23 18 = own ∨ frameField f 23 18 = 0x3F → frameField f 25 25 = 0 →
     (∀ e ∈ s.bridle.executed, e.same f ms = false) →
     let src := frameField f 17 12
     let busyOr : Instr → Prop := fun i => Does i s fun t => ∃ r, t.sent = s.sent ++ [.bridle b r] ∧ r.ident = ident
       ∧ ((r.byte 0 = Ref.busy ∧ t.bridle.executed = s.bridle.executed ∧ ObjsKept s t (refusalObjs .board))
         ∨ t.bridle.executed = (s.bridle.executed.filter fun e => decide (ms ≤ e.ms + 50)) ++
             [{ src := src, service := service, seq := frameField f 7 0, ms := ms, resp := r }])
     (4 ≤ s.openRequests src ms → (service = 0 → busyOr (.identify bus f ms)) ∧ (service = 1 → busyOr (.bridleRead bus f ms)))
     ∧ (s.openRequests src ms < 4 →
     let answers : Instr → (State → Frame → Prop) → Prop := fun i P => Does i s fun t =>
       ∃ r, t.sent = s.sent ++ [.bridle b r] ∧ r.ident = ident ∧ P t r
         ∧ t.bridle.executed = (s.bridle.executed.filter fun e => decide (ms ≤ e.ms + 50)) ++
             [{ src := frameField f 17 12, service := service, seq := frameField f 7 0, ms := ms, resp := r }]
     let echoes : Frame → Nat → Prop := fun r c => r.byte 0 = c ∧ r.byte 1 = f.byte 1 ∧ r.num 2 2 = f.num 2 2 ∧ r.byte 4 = f.byte 4
     (service = 0 → answers (.identify bus f ms) fun t r => r.data.length = 32 ∧ r.num 0 8 = 0
       ∧ r.num 8 2 = (s0.live Obj.vendorCode).toNat % 2 ^ 16 ∧ r.num 10 2 = (s0.live Obj.partCode).toNat % 2 ^ 16
       ∧ r.byte 12 = (s0.live Obj.stepping).toNat % 2 ^ 8 ∧ r.byte 13 = (s0.live Obj.fusedConfig).toNat % 2 ^ 8
       ∧ r.num 14 2 = (s0.live Obj.dictVersion).toNat % 2 ^ 16 ∧ r.num 16 2 = (s0.live Obj.bridleVersion).toNat % 2 ^ 16
       ∧ r.byte 18 = (s0.live Obj.domainIndex).toNat % 2 ^ 8 ∧ r.byte 19 = (s0.live Obj.modeCurrent).toNat % 2 ^ 8
       ∧ r.num 20 8 = (s0.live Obj.serial).toNat ∧ ObjsKept s t [])
     ∧ (service = 1 → isBlob k = false → (s1.readAny .board k (frameView f) 0).1 = 0 →
       answers (.bridleRead bus f ms) fun t r => echoes r 0 ∧ r.num 6 2 = 0
         ∧ ObjsKept (s1.readAny .board k (frameView f) 0).2.2 t []
         ∧ ∀ row, objRow k = some row → r.byte 5 = row.ty.bytes
           ∧ r.num 8 row.ty.bytes = (s1.readAny .board k (frameView f) 0).2.1.toNat % 2 ^ (8 * row.ty.bytes))
     ∧ (service = 1 → (s1.readAny .board k (frameView f) 0).1 ≠ 0 →
       answers (.bridleRead bus f ms) fun t r => echoes r (s1.readAny .board k (frameView f) 0).1 ∧ r.byte 5 = 0
         ∧ ObjsKept (s1.readAny .board k (frameView f) 0).2.2 t [])
     ∧ (6 ≤ service → answers (.bridleRead bus f ms) fun t r => r.byte 0 = Ref.noService ∧ r.data.length = 8
         ∧ ObjsKept s t (refusalObjs .board))
     ∧ (service = 2 → (s1.frameWrite f).2.bridle.executed = s.bridle.executed → (s1.frameWrite f).2.sent = s.sent →
       (s1.frameWrite f).2.bridleUp = true → (s1.frameWrite f).2.busOpen b = true →
       answers (.bridleWrite bus f ms) fun t r => echoes r (s1.frameWrite f).1 ∧ r.byte 5 = 0
         ∧ ObjsKept (s1.frameWrite f).2 t [] ∧ t.dict.eff = (s1.frameWrite f).2.dict.eff
         ∧ t.dict.pending = (s1.frameWrite f).2.dict.pending)
     ∧ (∀ row, service = 2 → frameOdd f false = false → f.byte 1 = 0 → objRow k = some row →
       k ∈ [Obj.lockTimeout, Obj.hostAreas, Obj.streamThreshold] →
       f.byte 5 = row.ty.bytes → 8 + row.ty.bytes ≤ f.data.length → s0.checkWrite .board k (f.num 8 8) 0 = 0 →
       s0.accepts .board k (f.num 8 row.ty.bytes) = true →
       answers (.bridleWrite bus f ms) fun t r => echoes r 0 ∧ r.byte 5 = 0
         ∧ t.obj k = BitVec.ofNat 64 (f.num 8 row.ty.bytes) ∧ ObjsKept s t [k])))
  ∧ (∀ (s : State) (bus : Fin 2) (f : Frame) (ms : Nat),
       let b := bus.val
       let own := s.bridle.nodeId
       let service := frameField f 11 8
       let only : Nat → State → Prop := fun k t => t.obj k = satAdd32 (s.obj k) 1 ∧ ObjsKept s t [k]
         ∧ t.bridle.executed = s.bridle.executed ∧ WroteRaised (s.withBridle t.bridle) t
       let repeated : Instr → Executed → Prop := fun i e =>
         Does i s fun t => t.sent = s.sent ++ [.bridle b e.resp] ∧ only Obj.bridleDuplicates t
       let ignored : Instr → Prop := fun i => Does i s fun t => t.sent = s.sent ∧ only Obj.busIgnored t
       s.bridleUp = true → s.busOpen b = true →
       (f.fdBrs = true → frameField f 17 12 ≠ own → frameField f 23 18 = own ∨ frameField f 23 18 = 0x3F →
         frameField f 25 25 = 0 → ∀ e, s.bridle.executed.find? (·.same f ms) = some e →
         (service = 0 → repeated (.identify bus f ms) e)
         ∧ (service = 1 ∨ 6 ≤ service → repeated (.bridleRead bus f ms) e)
         ∧ (service = 2 → repeated (.bridleWrite bus f ms) e))
       ∧ (f.fdBrs = false ∨ frameField f 17 12 = own →
         ignored (.identify bus f ms) ∧ ignored (.bridleRead bus f ms) ∧ ignored (.bridleWrite bus f ms)))

/-- R461, R486, Table 11.9: the oldest alarm not yet pushed goes out on every enabled bus that is not bus-off, under its own
ALARM_SEQ, while fewer than eight are unacknowledged; one that is due again after ALARM_REPEAT is pushed again; where there is
none, or the device is silent, nothing happens (the model's choice, log entry 23). The buses are taken not to change their
state with the frame. R461: an ALARM_ACK acknowledges the alarm it names, and no other; one whose record has left its ring,
with nothing more to push, is then forgotten (the model's choice, log entry 133). The bus is taken not to change its state
with the frame. -/
def Obligations.BridleAlarms : Prop :=
  (∀ (s : State) (ms : Nat) (a : Alarm), s.steadySend 0 = true → s.steadySend 1 = true →
     let frame : Frame :=
       { ident := bridleId 0 0 0x3F s.bridle.nodeId 3 a.seq.toNat
         data := padFd (leBytes a.seq.toNat 2 ++ leBytes (satCount a.count) 2 ++ leBytes a.source 2 ++ leBytes 0 2
           ++ leBytes a.stride 8 ++ a.words.flatMap fun w => leBytes w.toNat 8) }
     let again : Alarm → Bool := fun x => x.due (s.eff Obj.alarmRepeat) ms && (!x.acked || decide (s.unacked < 8))
     let mark : Alarm → Alarm := fun x => { x with pushed := some ms, acked := false, dirty := false }
     let pushed : State → Prop := fun t =>
       t.sent = s.sent ++ (if s.busOpen 0 then [.bridle 0 frame] else []) ++ (if s.busOpen 1 then [.bridle 1 frame] else [])
       ∧ t.bridle = { s.bridle with alarms := updFirst (·.seq == a.seq) mark s.bridle.alarms, busA := t.bridle.busA, busB := t.bridle.busB }
       ∧ (∀ k, t.obj k = s.obj k) ∧ WroteOnly (s.withBridle t.bridle) t
     (s.bridleUp = true → s.unacked < 8 → s.bridle.alarms.find? (·.pushed.isNone) = some a → Does (.alarm ms) s pushed)
     ∧ (s.bridleUp = false ∨ 8 ≤ s.unacked ∨ s.bridle.alarms.find? (·.pushed.isNone) = none → exec (.alarm ms) s = .next s)
     ∧ (s.bridleUp = true → s.bridle.alarms.find? again = some a → Does (.alarmRepeat ms) s pushed)
     ∧ (s.bridleUp = false ∨ s.bridle.alarms.find? again = none → exec (.alarmRepeat ms) s = .next s))
  ∧ (∀ (s : State) (bus : Fin 2) (f : Frame) (a : Alarm), s.bridleUp = true → s.busOpen bus.val = true →
       s.steadyRecv bus.val = true → f.fdBrs = true → frameField f 17 12 ≠ s.bridle.nodeId →
       frameField f 23 18 = s.bridle.nodeId ∨ frameField f 23 18 = 0x3F → frameField f 11 8 = 4 →
       a ∈ s.bridle.alarms → a.pushed ≠ none → (s.bridle.alarms.map (·.seq)).Nodup →
       Does (.alarmAck bus f) s fun t =>
         (a.seq.toNat = f.num 0 2 →
           if a.dirty = true ∨ s.inRing a.seq = true then { a with acked := true } ∈ t.bridle.alarms
           else ∀ x ∈ t.bridle.alarms, x.seq ≠ a.seq)
         ∧ (a.seq.toNat ≠ f.num 0 2 → a.acked = false → a ∈ t.bridle.alarms)
         ∧ (∀ k, t.obj k = s.obj k) ∧ WroteOnly (s.withBridle t.bridle) t)

/-- R462, Table 11.9: HEARTBEAT goes out every HEARTBEAT_PERIOD on the open buses with the mode, the Bring-up step, the Settle
phase, the four flags, RESET_HOLD_MS, STRIDE_COUNT and the alarms unacknowledged; a period of 0 stops it. The buses are taken
not to change their state with the frame. Where the condition of a row is not met nothing happens (the model's choice, log
entry 23). R452, R463, Table 11.6: an error frame is counted on its bus; the error counters of ISO 11898-1 move the bus to
error-passive at 128 and off at 256, with source 0x0BD's event at each change; 128 occurrences of 11 recessive bits end a
bus-off. The steps of 8 and 1 of the counters are those of ISO 11898-1, which the spec names and does not quote (PRESUMED, log
entry 81). A bus that is off or not enabled counts no error, and fewer occurrences end nothing (the model's choice, log entry
23). -/
def Obligations.BridleBuses : Prop :=
  (∀ (s : State) (ms : Nat),
     (s.eff Obj.heartbeatPeriod ≠ 0 → s.bridleUp = true → s.bridle.heartbeatAt + s.eff Obj.heartbeatPeriod ≤ ms →
       s.steadySend 0 = true → s.steadySend 1 = true →
       Does (.heartbeat ms) s fun t => ∃ r : Frame,
         t.sent = s.sent ++ (if s.busOpen 0 then [.bridle 0 r] else []) ++ (if s.busOpen 1 then [.bridle 1 r] else [])
         ∧ r.ident = bridleId 3 0 0x3F s.bridle.nodeId 5 0 ∧ r.data.length = 24
         ∧ r.byte 0 = s.modes.mode.code ∧ r.byte 1 = s.bringupStep % 256
         ∧ r.byte 2 = (s.live Obj.settlePhase).toNat % 256 ∧ r.num 4 4 = (s.obj Obj.resetHoldMs).toNat % 2 ^ 32
         ∧ r.num 8 8 = s.now % 2 ^ 64 ∧ r.num 16 2 = s.unacked % 2 ^ 16
         ∧ (r.byte 3).testBit 0 = (s.obj Obj.reduced == 1) ∧ (r.byte 3).testBit 1 = (s.obj Obj.degradePending == 1)
         ∧ (r.byte 3).testBit 2 = ((s.eff Obj.busEnable).testBit 0 && s.bridle.busA.state == 0)
         ∧ (r.byte 3).testBit 3 = ((s.eff Obj.busEnable).testBit 1 && s.bridle.busB.state == 0)
         ∧ t.bridle = { s.bridle with heartbeatAt := ms, busA := t.bridle.busA, busB := t.bridle.busB } ∧ (∀ k, t.obj k = s.obj k)
         ∧ WroteOnly (s.withBridle t.bridle) t)
     ∧ (s.eff Obj.heartbeatPeriod = 0 ∨ s.bridleUp = false ∨ ms < s.bridle.heartbeatAt + s.eff Obj.heartbeatPeriod →
       exec (.heartbeat ms) s = .next s))
  ∧ (∀ (s : State) (bus : Fin 2) (transmit : Bool) (n : Nat), s.modes.mgmtUp = true →
       let x := s.bus bus.val
       let counter := if bus.val = 0 then Obj.busErrorsA else Obj.busErrorsB
       let onlyBus : State → Prop := fun t => WroteRaised (s.withBridle t.bridle) t ∧ t.bus (1 - bus.val) = s.bus (1 - bus.val)
       ((s.eff Obj.busEnable).testBit bus.val = true → x.state ≠ 2 → Does (.busError bus transmit) s fun t =>
         let tec := if transmit then x.tec + 8 else x.tec
         let rec_ := if transmit then x.recv else min (x.recv + 1) 255
         let st := if 256 ≤ tec then 2 else if 128 ≤ tec ∨ 128 ≤ rec_ then 1 else 0
         t.bus bus.val = { tec := tec, recv := rec_, state := st } ∧ t.obj counter = satAdd32 (s.obj counter) 1
         ∧ (st ≠ x.state → Raised s t 0xBD) ∧ onlyBus t)
       ∧ (x.state = 2 ∨ (s.eff Obj.busEnable).testBit bus.val = false → exec (.busError bus transmit) s = .next s)
       ∧ (x.state = 2 → 128 ≤ n → Does (.busOffRecovery bus n) s fun t =>
         t.bus bus.val = { tec := 0, recv := 0, state := 0 } ∧ Raised s t 0xBD ∧ onlyBus t)
       ∧ (n < 128 → exec (.busOffRecovery bus n) s = .next s))

/-- R431, R432: a write that passes the checks has the effect of the object's own rule, State.own, or is refused with the code
that this rule answers and recorded. For six objects without a rule of their own the effect is written out: the value is read
back at once, in the form that the object keeps, and waits for the next stride boundary, LOCK_TIMEOUT's alone being in force
at once (R448); nothing else changes. R432, R433, Table 11.4: a write that a check refuses has no effect but its answer, the
count of its level and the record of the last refusal; one in band that is answered with Error-Unmapped leaves neither. R428,
R429, Table 11.4: the first checks of a write: no such object, no right of the level (JTAG never writes), an object that the
level may only read, and an area locked by another level. -/
def Obligations.DictionaryWrites : Prop :=
  ((∀ (s : State) (lvl : Level) (index : BitVec 16) (sub : BitVec 8) (v : Reg),
     let k := index.toNat * 256 + sub.toNat
     index ≠ 0x1011 → s.accepts lvl k v.toNat = true →
     let own := State.own lvl k v.toNat 0 s
     (own.1 = 0 → Does (.dictWrite lvl index sub v) s fun t => t = (own.2.touchLock lvl k).answer lvl k 0 0)
     ∧ (own.1 ≠ 0 → Does (.dictWrite lvl index sub v) s fun t => t = (own.2.refuse lvl k own.1).answer lvl k own.1 0))
   ∧ ∀ (s : State) (lvl : Level) (k : Nat) (v : Reg) (r : ObjRow),
     k ∈ [Obj.lockTimeout, Obj.groomWatchdog, Obj.hostAreas, Obj.streamThreshold, Obj.heartbeatPeriod, Obj.alarmRepeat] →
     objRow k = some r → s.accepts lvl k v.toNat = true →
     Does (.dictWrite lvl (BitVec.ofNat 16 (k / 256)) (BitVec.ofNat 8 (k % 256)) v) s fun t =>
       (∀ j, t.obj j = if j = k then BitVec.ofNat 64 (r.rng.keep (r.ty.clip v.toNat)) else s.obj j)
       ∧ t.dict.pending = (if k = Obj.lockTimeout then s.dict.pending
           else s.dict.pending ++ [(k, BitVec.ofNat 64 (r.rng.keep (r.ty.clip v.toNat)))])
       ∧ (∀ j, t.effObj j = if j = k ∧ k = Obj.lockTimeout then t.obj k else s.effObj j) ∧ Answered t lvl k 0
       ∧ WroteOnly (s.withDict { s.dict with pending := t.dict.pending, eff := t.dict.eff }) t)
  ∧ (∀ (s : State) (lvl : Level) (index : BitVec 16) (sub : BitVec 8) (v : Reg) (c : Nat),
       let k := index.toNat * 256 + sub.toNat
       index ≠ 0x1011 → c ≠ 0 → s.checkWrite lvl k v.toNat 0 = c ∨ (s.checkWrite lvl k v.toNat 0 = 0 ∧ s.checkRange k v.toNat = c) →
       Does (.dictWrite lvl index sub v) s fun t =>
         Answered t lvl k c ∧ WroteOnly s t
         ∧ (uncounted lvl c = true → ∀ j, t.obj j = s.obj j)
         ∧ (uncounted lvl c = false →
             t.obj (Obj.dictRefusals + (levelNum lvl - 1)) = satAdd32 (s.obj (Obj.dictRefusals + (levelNum lvl - 1))) 1
             ∧ t.obj (Obj.lastRefusal + (levelNum lvl - 1)) = BitVec.ofNat 64 (s.now % 2 ^ 32 * 2 ^ 32 + k * 2 ^ 8 + c)
             ∧ (∀ j, j ≠ Obj.dictRefusals + (levelNum lvl - 1) → j ≠ Obj.lastRefusal + (levelNum lvl - 1) → t.obj j = s.obj j)))
  ∧ (∀ (s : State) (lvl : Level) (k v partid : Nat),
       (objRow k = none → s.checkWrite lvl k v partid = Ref.noObject)
       ∧ (∀ r, objRow k = some r → guestObject k = false →
           (r.acc lvl = .none → s.checkWrite lvl k v partid = Ref.access)
           ∧ s.checkWrite .jtag k v partid = Ref.access
           ∧ (r.acc .board = .ro → s.modes.mode = .normal → k ≠ Obj.swRaise → s.checkWrite .board k v partid = Ref.readOnly)
           ∧ (r.acc .board = .rw → s.modes.mode = .normal → k ≠ Obj.swRaise → lockFree k = false →
               ∀ h, (s.lock (areaOf k)).holder = some h → h ≠ .board → s.checkWrite .board k v partid = Ref.locked)))

/-- R432, R433, R439, R440: reads. A refused read is answered with its code and zero and leaves only its record. A LIVE read
of an RC counter returns its value and clears it; PEEK, FALLBACK and SNAPSHOT return the value, the fall-back copy and the
holding register and never clear; a plain object reads the same in three views and has no SNAPSHOT view. The counters and the
plain object shown are five of the dictionary's. R442: an access port reads the object and view that its PORT_SELECT names
with Host rights, or writes the object where the view is LIVE and its own rule accepts the value; PORT_STATUS takes the code,
and a selection of the ports' own objects is refused with ACCESS. -/
def Obligations.DictionaryReads : Prop :=
  ((∀ (s : State) (lvl : Level) (index : BitVec 16) (sub : BitVec 8) (view : View),
     let k := index.toNat * 256 + sub.toNat
     index ≠ 0x1011 → (s.readObj lvl k view 0).1 ≠ 0 → Does (.rcRead lvl index sub view) s fun t =>
       t.sent.getLast? = some (.answer lvl k (s.readObj lvl k view 0).1 0) ∧ ObjsKept s t (refusalObjs lvl) ∧ WroteOnly s t)
   ∧ ∀ (s : State) (lvl : Level), lvl ≠ .jtag → s.modes.mode = .normal →
     (∀ k r, k ∈ [Obj.dictRefusals, Obj.dictStoreErrors, Obj.lockExpiries, Obj.busIgnored] → objRow k = some r →
       let read := fun view => Instr.rcRead lvl (BitVec.ofNat 16 (k / 256)) (BitVec.ofNat 8 (k % 256)) view
       (r.acc lvl = .rc → Does (read .live) s fun t =>
         t.sent.getLast? = some (.answer lvl k 0 (s.obj k)) ∧ t.obj k = 0 ∧ (∀ j, j ≠ k → t.obj j = s.obj j)
         ∧ t.dict.fallback = s.dict.fallback ∧ WroteOnly s t)
       ∧ (r.acc lvl = .rc ∨ r.acc lvl = .ro → Does (read .peek) s fun t => t = s.answer lvl k 0 (s.obj k))
       ∧ (r.acc lvl = .rc ∨ r.acc lvl = .ro → Does (read .fallback) s fun t =>
         t = s.answer lvl k 0 (Assoc.getD s.dict.fallback k 0))
       ∧ (r.acc lvl = .rc ∨ r.acc lvl = .ro → Does (read .snapshot) s fun t =>
         t = s.answer lvl k 0 (Assoc.getD s.dict.holding k 0)))
     ∧ (∀ view, (view = .live ∨ view = .peek ∨ view = .fallback) → lvl ≠ .guest →
       Does (.rcRead lvl 0x3000 1 view) s fun t => t = s.answer lvl Obj.streamThreshold 0 (s.obj Obj.streamThreshold))
     ∧ (lvl ≠ .guest → Does (.rcRead lvl 0x3000 1 .snapshot) s fun t =>
       Answered t lvl Obj.streamThreshold Ref.view ∧ WroteOnly s t))
  ∧ (∀ (s : State) (p : Fin 16) (v : Reg) (view : View), s.modes.mode = .normal → s.eff Obj.hostAreas = 0xFFFF →
       (s.lock 1).holder = none →
       (∀ k, s.portSelected p.val = (k, view) → isPortObject k = false → (s.readObj .host k view 0).1 = 0 →
         Does (.portDataAccess p none) s fun t =>
           t.sent.getLast? = some (.answer .host (Obj.portData + p.val) 0 (s.readObj .host k view 0).2.1)
           ∧ t.obj (Obj.portStatus + p.val) = 0 ∧ ObjsKept (s.readObj .host k view 0).2.2 t [Obj.portStatus + p.val]
           ∧ WroteOnly (s.readObj .host k view 0).2.2 t)
       ∧ (∀ k, s.portSelected p.val = (k, .live) → isPortObject k = false → s.accepts .host k v.toNat = true →
         (State.own .host k v.toNat 0 s).1 = 0 →
         Does (.portDataAccess p (some v)) s fun t =>
           Answered t .host (Obj.portData + p.val) 0 ∧ t.obj (Obj.portStatus + p.val) = 0
           ∧ ObjsKept (State.own .host k v.toNat 0 s).2 t [Obj.portStatus + p.val] ∧ WroteOnly (State.own .host k v.toNat 0 s).2 t)
       ∧ (s.portSelected p.val = (Obj.streamThreshold, .live) → s.accepts .host Obj.streamThreshold v.toNat = true →
         Does (.portDataAccess p (some v)) s fun t =>
           Answered t .host (Obj.portData + p.val) 0 ∧ t.obj (Obj.portStatus + p.val) = 0
           ∧ t.obj Obj.streamThreshold = BitVec.ofNat 64 (v.toNat % 2 ^ 16)
           ∧ (∀ k, k ≠ Obj.portStatus + p.val → k ≠ Obj.streamThreshold → t.obj k = s.obj k))
       ∧ (∀ k, isPortObject k = true → s.portSelected p.val = (k, view) →
         Does (.portDataAccess p none) s fun t =>
           t.sent.getLast? = some (.answer .host (Obj.portData + p.val) Ref.access 0)
           ∧ t.obj (Obj.portStatus + p.val) = BitVec.ofNat 64 Ref.access
           ∧ t.obj (Obj.dictRefusals + 1) = satAdd32 (s.obj (Obj.dictRefusals + 1)) 1
           ∧ ObjsKept s t ((Obj.portStatus + p.val) :: refusalObjs .host) ∧ WroteOnly s t))

/-- R448: a write of the holder to an RW object of its locked area is staged with no effect of its own, up to 64 writes, and
one more is refused with LOCK_FULL. That a COMMIT with a failing write drops the side effects of all, and that COMMIT and
ABANDON are refused while one is due, is the model's reading (log entry 91). R447, R449, R450: acquiring, committing and
abandoning a lock, and its expiry after LOCK_TIMEOUT, which is counted and has source 0x0BA's event; a lock whose time has not
come stays (the model's choice, log entry 23). R449: at the first boundary after a COMMIT the lock is free. Where every staged
write passes its object's own rule the result is COMMITTED and no write is left pending; where one fails none is applied, the
result reads COMMIT_FAILED and the failure is recorded. Two writes of objects without rules of their own are shown in force
together. Before that boundary nothing happens (the model's choice, log entry 23). The model's reading of a commit's checks is
log entry 91. -/
def Obligations.DictionaryLocks : Prop :=
  (∀ (s : State) (lvl : Level) (index : BitVec 16) (sub : BitVec 8) (v : Reg),
     let k := index.toNat * 256 + sub.toNat
     index ≠ 0x1011 → s.checkWrite lvl k v.toNat 0 = 0 → s.checkRange k v.toNat = 0 → s.stages lvl k = true →
     ((s.lock (areaOf k)).staged.length < 64 →
       Does (.dictWrite lvl index sub v) s fun t =>
         (t.lock (areaOf k)).staged = (s.lock (areaOf k)).staged ++ [⟨lvl, k, v⟩]
         ∧ (t.lock (areaOf k)).holder = some lvl ∧ (t.lock (areaOf k)).at_ = s.now
         ∧ (∀ j, t.obj j = s.obj j) ∧ (∀ a, a ≠ areaOf k → t.lock a = s.lock a) ∧ Answered t lvl k 0 ∧ WroteOnly s t)
     ∧ (64 ≤ (s.lock (areaOf k)).staged.length →
       Does (.dictWrite lvl index sub v) s fun t =>
         (∀ a, t.lock a = s.lock a) ∧ Answered t lvl k Ref.lockFull ∧ ObjsKept s t (refusalObjs lvl) ∧ WroteOnly s t))
  ∧ (∀ (s : State) (lvl : Level) (area : Fin 16),
       let k := Obj.dictLock + area.val
       let l := s.lock area.val
       let others : State → Prop := fun t => (∀ b, b ≠ area.val → areaOf k ≠ b → t.lock b = s.lock b) ∧ ObjsKept s t [] ∧ WroteOnly s t
       let refused : Instr → Nat → Prop := fun i k => Does i s fun t =>
         t.lock area.val = l ∧ Answered t lvl k Ref.state ∧ ObjsKept s t (refusalObjs lvl) ∧ WroteOnly s t
       (s.accepts lvl k 1 = true → l.holder = none → Does (.lockAcquire lvl area) s fun t =>
         (t.lock area.val).holder = some lvl ∧ (t.lock area.val).staged = [] ∧ (t.lock area.val).at_ = s.now
         ∧ Answered t lvl k 0 ∧ others t)
       ∧ (s.accepts lvl k 1 = true → l.holder ≠ none → refused (.lockAcquire lvl area) k)
       ∧ (s.accepts lvl k 2 = true → l.holder = some lvl → l.committing = false → Does (.lockCommit lvl area) s fun t =>
         (t.lock area.val).committing = true ∧ (t.lock area.val).staged = l.staged ∧ Answered t lvl k 0 ∧ others t)
       ∧ (s.accepts lvl k 3 = true → l.holder = some lvl → l.committing = false → Does (.lockAbandon lvl area) s fun t =>
         (t.lock area.val).holder = none ∧ (t.lock area.val).staged = [] ∧ (t.lock area.val).result = 2
         ∧ Answered t lvl k 0 ∧ others t)
       ∧ (s.accepts lvl k 2 = true → l.holder ≠ some lvl → refused (.lockCommit lvl area) k)
       ∧ (s.accepts lvl k 3 = true → l.holder ≠ some lvl → refused (.lockAbandon lvl area) k)
       ∧ (l.holder ≠ none → l.committing = false → l.at_ + s.eff Obj.lockTimeout ≤ s.now → Does (.lockExpiry area) s fun t =>
         (t.lock area.val).holder = none ∧ (t.lock area.val).staged = [] ∧ (t.lock area.val).result = 3
         ∧ t.obj Obj.lockExpiries = satAdd32 (s.obj Obj.lockExpiries) 1 ∧ Raised s t 0xBA
         ∧ (∀ b, b ≠ area.val → t.lock b = s.lock b) ∧ ObjsKept s t [Obj.lockExpiries] ∧ WroteRaised s t)
       ∧ (l.at_ + s.eff Obj.lockTimeout > s.now → exec (.lockExpiry area) s = .next s))
  ∧ (∀ (s : State) (area : Fin 16) (lvl : Level) (v w : Reg),
       let l := s.lock area.val
       let after := State.applyStaged l.staged (s.setLock area.val { result := 1 })
       (l.committing = false ∨ s.now ≤ l.at_ → exec (.lockCommitApply area) s = .next s)
       ∧ (l.committing = true → l.at_ < s.now → ∀ u, after = .inl u → (u.lock area.val) = { result := 1 } →
         u.dict.pending.take s.dict.pending.length = s.dict.pending → Does (.lockCommitApply area) s fun t =>
           t.lock area.val = { result := 1 } ∧ t.dict.pending = s.dict.pending)
       ∧ (l.committing = true → l.at_ < s.now → ∀ x c, after = .inr (x, c) → Does (.lockCommitApply area) s fun t =>
           t = (s.setLock area.val { result := 4 }).recordRefusal x.lvl x.key c)
       ∧ (l.committing = true → l.at_ < s.now →
       l.staged = [⟨lvl, Obj.streamThreshold, v⟩, ⟨lvl, Obj.streamGap, w⟩] →
       ((s.checkRange Obj.streamThreshold v.toNat = 0 → s.checkRange Obj.streamGap w.toNat = 0 →
         Does (.lockCommitApply area) s fun t =>
           t.obj Obj.streamThreshold = BitVec.ofNat 64 (v.toNat % 2 ^ 16) ∧ t.effObj Obj.streamThreshold = t.obj Obj.streamThreshold
           ∧ t.effObj Obj.streamGap = t.obj Obj.streamGap ∧ t.dict.pending = s.dict.pending
           ∧ (t.lock area.val).holder = none ∧ (t.lock area.val).result = 1)
       ∧ (s.checkRange Obj.streamThreshold v.toNat = 0 → s.checkRange Obj.streamGap w.toNat ≠ 0 →
         Does (.lockCommitApply area) s fun t =>
           t.obj Obj.streamThreshold = s.obj Obj.streamThreshold ∧ t.dict.eff = s.dict.eff ∧ t.dict.pending = s.dict.pending
           ∧ (t.lock area.val).holder = none ∧ (t.lock area.val).result = 4
           ∧ t.obj (Obj.lastRefusal + (levelNum lvl - 1)) =
               BitVec.ofNat 64 (s.now % 2 ^ 32 * 2 ^ 32 + Obj.streamGap * 2 ^ 8 + s.checkRange Obj.streamGap w.toNat)))))

/-- R443, R444, R497: a snapshot command waits for a boundary after it, where every counter and peak is copied with the events
before the boundary. SNAPSHOT_TAKEN fills the holding registers with the copy and gives SNAPSHOT_SEQ and SNAPSHOT_STRIDE; only
where a SNAPSHOT_CLEAR was among the commands do LIVE values that an RC read would clear lose what was copied, and a peak
restarts from its current occupancy. The fall-back copies stay (R441). Without a copy nothing happens (the model's choice, log
entry 23). When the copy is made and when it is published is the model's choice (log entry 90). R451: an uncorrectable word of
the dictionary store is counted in DICT_STORE_ERRORS and has source 0x0BA's event. An applied value stays, a held lock loses
its staged writes with the result STORE_ERROR, the holding registers are not valid, key material is gone, and a gait load or a
staging under way is abandoned. Which area its record names is the model's reading (log entry 92). -/
def Obligations.SnapshotsAndStore : Prop :=
  (∀ (s : State) (lvl : Level),
     (s.accepts lvl Obj.snapshotCommand 1 = true → Does (.snapshot lvl) s fun t =>
       t.dict.snapTake = true ∧ t.dict.snapClear = s.dict.snapClear ∧ t.dict.snapAt = s.now ∧ (∀ k, t.obj k = s.obj k)
       ∧ Answered t lvl Obj.snapshotCommand 0 ∧ WroteOnly (s.withDict { s.dict with snapTake := true }) t)
     ∧ (s.accepts lvl Obj.snapshotCommand 2 = true → Does (.snapshotClear lvl) s fun t =>
       t.dict.snapTake = true ∧ t.dict.snapClear = true ∧ t.dict.snapAt = s.now ∧ (∀ k, t.obj k = s.obj k)
       ∧ Answered t lvl Obj.snapshotCommand 0 ∧ WroteOnly (s.withDict { s.dict with snapTake := true, snapClear := true }) t)
     ∧ (s.dict.snapTake = true → s.dict.snapAt < s.now →
       let t := s.boundaryCounters
       t.dict.snapTake = false ∧ t.dict.snapClear = false
       ∧ ∃ z, t.dict.frozen = some z ∧ z.at_ = s.now ∧ z.clear = s.dict.snapClear
         ∧ ∀ k, isCounter k = true → Assoc.getD z.vals k 0 = t.live k)
     ∧ (∀ f, s.dict.frozen = some f → Does .snapshotTaken s fun t =>
       t.dict.frozen = none ∧ t.dict.holding = f.vals ∧ t.dict.snapTake = s.dict.snapTake ∧ t.dict.snapClear = s.dict.snapClear
       ∧ t.obj Obj.snapshotStride = BitVec.ofNat 64 f.at_ ∧ t.obj Obj.snapshotValid = 1
       ∧ t.obj Obj.snapshotSeq = BitVec.ofNat 64 (((s.obj Obj.snapshotSeq).toNat + 1) % 2 ^ 32)
       ∧ Raised s t 0xBB
       ∧ (∀ k, isCounter k = true → eventKey k = false →
           Assoc.getD t.dict.fallback k 0 = Assoc.getD s.dict.fallback k 0
           ∧ (f.clear = false ∨ clearsOnRead k = false ∨ f.vals.all (fun x => x.1 != k) = true → t.obj k = s.obj k)
           ∧ (f.clear = true → clearsOnRead k = true → ∀ v, f.vals.filter (fun x => x.1 == k) = [(k, v)] →
               t.obj k = BitVec.ofNat 64
                 (if (objRow k).any (fun r => r.kind == .peak) then s.peakNow k else (s.obj k).toNat - v.toNat))))
     ∧ (s.dict.frozen = none → exec .snapshotTaken s = .next s))
  ∧ (∀ (s : State) (k b : Nat) (area : Fin 16),
       let hit : StoreWord → (State → Prop) → Prop := fun w P => Does (.dictStoreError w) s fun t =>
         t.obj Obj.dictStoreErrors = satAdd32 (s.obj Obj.dictStoreErrors) 1 ∧ Raised s t 0xBA ∧ P t
       hit (.applied k) (fun t => ObjsKept s t [Obj.dictStoreErrors] ∧ WroteRaised s t)
       ∧ (b < 16 → s.checkingBank = none → s.loadingBank = some b → hit .gaitBlob (fun t =>
           t.bankState b = 0 ∧ t.obj Obj.gaitLoadStatus = 0 ∧ t.gait = { s.gait with banks := Assoc.drop b s.gait.banks }
           ∧ WroteRaised (s.withGait t.gait) t))
       ∧ (∀ v, (s.lock area.val).holder = some v → hit (.staged area) (fun t =>
           (t.lock area.val).holder = none ∧ (t.lock area.val).staged = [] ∧ (t.lock area.val).result = 5 ∧ WroteRaised s t))
       ∧ hit .holding (fun t => t.obj Obj.snapshotValid = 0 ∧ WroteRaised s t)
       ∧ hit .keyBlob (fun t => t.mem.material = [] ∧ WroteRaised (s.withMem t.mem) t)
       ∧ (s.obj Obj.stageStatus = 1 → hit .stageBlob (fun t =>
           t.groom.stage = [] ∧ t.obj Obj.stageStatus = 0 ∧ WroteRaised (s.withGroom t.groom) t)))

/-- R63 to R66: loading an image into a bank, where it is accepted: the write of GAIT_LOAD_BANK makes the bank LOADING and
empty, an append adds eight bytes at its end, CHECK makes a complete image CHECKING for at most 128 strides and rejects a
shorter one with check code 0x01, ABANDON and ERASE make the bank EMPTY; nothing else changes but the objects named. That
ERASE acts on the bank in GAIT_LOAD_BANK is the model's choice (log entry 25). R64, R65: the refusals of a load, with STATE or
LENGTH, are counted in GAIT_LOAD_ERRORS and recorded, and change nothing else. R68: a check ends with the bank ACCEPTED, its
identifier and speed set, or REJECTED with the first failure that the model's checks of Table 2.9 find, its code and its
location in the status; and source 0x0B4 has its event. Which code refuses some malformed images is the model's choice (log
entry 117), and its reading of the seam that of log entry 25. -/
def Obligations.GaitImages : Prop :=
  (∀ (s : State) (lvl : Level) (v : Reg) (b : Nat) (segs : List (BitVec 64)), b < 16 →
     (s.accepts lvl Obj.gaitLoadBank v.toNat = true → v.toNat % 256 = b → b ≠ 0 → s.loadRuns = false →
       s.bankState b ≠ 4 → s.bankState b ≠ 5 →
       Does (.gaitLoadBankWrite lvl v) s fun t =>
         t.bankState b = 1 ∧ Assoc.find? b t.gait.banks = some (.image []) ∧ t.obj Obj.gaitLoadBank = BitVec.ofNat 64 b
         ∧ t.obj Obj.gaitLoadOffset = 0 ∧ t.obj Obj.gaitLoadStatus = 1 ∧ Answered t lvl Obj.gaitLoadBank 0
         ∧ (∀ c, c < 16 → c ≠ b → t.bankState c = s.bankState c ∧ Assoc.find? c t.gait.banks = Assoc.find? c s.gait.banks)
         ∧ ObjsKept s t [Obj.gaitBankState + b, Obj.gaitBankId + b, Obj.gaitBankSpeed + b, Obj.gaitLoadBank, Obj.gaitLoadOffset,
             Obj.gaitLoadStatus]
         ∧ WroteOnly (s.withGait { s.gait with banks := t.gait.banks }) t)
     ∧ (s.accepts lvl Obj.gaitLoadImage v.toNat = true → s.loadingBank = some b →
       Assoc.find? b s.gait.banks = some (.image segs) → segs.length < 1736 →
       Does (.gaitLoadImageAppend lvl v) s fun t =>
         t.gait = { s.gait with banks := Assoc.put b (.image (segs ++ [v])) s.gait.banks }
         ∧ t.obj Obj.gaitLoadOffset = BitVec.ofNat 64 (8 * (segs.length + 1)) ∧ Answered t lvl Obj.gaitLoadImage 0
         ∧ ObjsKept s t [Obj.gaitLoadOffset] ∧ WroteOnly (s.withGait t.gait) t)
     ∧ (s.accepts lvl Obj.gaitLoadCommand 1 = true → s.loadingBank = some b →
       Assoc.find? b s.gait.banks = some (.image segs) →
       (1736 ≤ segs.length →
         Does (.gaitCheck lvl) s fun t =>
           t.bankState b = 6 ∧ t.obj Obj.gaitLoadStatus = 2 ∧ t.gait = { s.gait with loadDue := some (s.now + 128) }
           ∧ Answered t lvl Obj.gaitLoadCommand 0 ∧ ObjsKept s t [Obj.gaitBankState + b, Obj.gaitLoadStatus]
           ∧ WroteOnly (s.withGait t.gait) t)
       ∧ (segs.length < 1736 →
         Does (.gaitCheck lvl) s fun t =>
           t.bankState b = 3 ∧ t.obj Obj.gaitLoadStatus = 0x104
           ∧ t.obj Obj.gaitRejectDetail = BitVec.ofNat 64 ((8 * segs.length) * 65536 + 0xFFFF)
           ∧ t.gait = { s.gait with loadDue := none } ∧ Answered t lvl Obj.gaitLoadCommand 0
           ∧ ObjsKept s t [Obj.gaitBankState + b, Obj.gaitLoadStatus, Obj.gaitRejectDetail]
           ∧ WroteRaised (s.withGait t.gait) t))
     ∧ (s.accepts lvl Obj.gaitLoadCommand 2 = true → s.checkingBank = none → s.loadingBank = some b →
       Does (.gaitAbandon lvl) s fun t =>
         t.bankState b = 0 ∧ t.gait = { s.gait with banks := Assoc.drop b s.gait.banks } ∧ t.obj Obj.gaitLoadStatus = 0
         ∧ Answered t lvl Obj.gaitLoadCommand 0
         ∧ ObjsKept s t [Obj.gaitBankState + b, Obj.gaitBankId + b, Obj.gaitBankSpeed + b, Obj.gaitLoadStatus]
         ∧ WroteOnly (s.withGait t.gait) t)
     ∧ (s.accepts lvl Obj.gaitLoadCommand 3 = true → (s.obj Obj.gaitLoadBank).toNat = b →
       s.bankState b = 2 ∨ s.bankState b = 3 →
       Does (.gaitErase lvl) s fun t =>
         t.bankState b = 0 ∧ t.gait = { s.gait with banks := Assoc.drop b s.gait.banks } ∧ Answered t lvl Obj.gaitLoadCommand 0
         ∧ ObjsKept s t [Obj.gaitBankState + b, Obj.gaitBankId + b, Obj.gaitBankSpeed + b] ∧ WroteOnly (s.withGait t.gait) t))
  ∧ (∀ (s : State) (lvl : Level) (v : Reg),
       let refused : Instr → Nat → Nat → Prop := fun i k c => Does i s fun t =>
         Answered t lvl k c ∧ t.obj Obj.gaitLoadErrors = satAdd32 (s.obj Obj.gaitLoadErrors) 1
         ∧ ObjsKept s t (Obj.gaitLoadErrors :: refusalObjs lvl) ∧ WroteOnly s t
       (s.accepts lvl Obj.gaitLoadBank v.toNat = true →
         s.loadRuns = true ∨ v.toNat % 256 = 0 ∨ s.bankState (v.toNat % 256) = 4 ∨ s.bankState (v.toNat % 256) = 5 →
         refused (.gaitLoadBankWrite lvl v) Obj.gaitLoadBank Ref.state)
       ∧ (s.accepts lvl Obj.gaitLoadImage v.toNat = true → s.loadingBank = none →
         refused (.gaitLoadImageAppend lvl v) Obj.gaitLoadImage Ref.state)
       ∧ (s.accepts lvl Obj.gaitLoadImage v.toNat = true → ∀ b segs, s.loadingBank = some b →
         Assoc.find? b s.gait.banks = some (.image segs) → 1736 ≤ segs.length →
         refused (.gaitLoadImageAppend lvl v) Obj.gaitLoadImage Ref.length)
       ∧ (s.accepts lvl Obj.gaitLoadCommand 1 = true → s.loadingBank = none →
         refused (.gaitCheck lvl) Obj.gaitLoadCommand Ref.state))
  ∧ (∀ (s : State) (b : Nat) (segs : List (BitVec 64)), b < 16 → s.checkingBank = some b →
       Assoc.find? b s.gait.banks = some (.image segs) →
       Does .gaitCheckDone s fun t =>
         t.gait = { s.gait with loadDue := none } ∧ Raised s t 0xB4 ∧ WroteRaised (s.withGait t.gait) t
         ∧ ObjsKept s t [Obj.gaitBankState + b, Obj.gaitLoadStatus, Obj.gaitBankId + b, Obj.gaitBankSpeed + b, Obj.gaitRejectDetail]
         ∧ (gaitFirstFail segs s.fusedConfig = none → t.bankState b = 2 ∧ t.obj Obj.gaitLoadStatus = 3
             ∧ t.obj (Obj.gaitBankId + b) = BitVec.ofNat 64 (GaitSrc.image segs).gaitId
             ∧ t.obj (Obj.gaitBankSpeed + b) = BitVec.ofNat 64 (imgSpeed segs))
         ∧ (∀ c d, gaitFirstFail segs s.fusedConfig = some (c, d) → t.bankState b = 3
             ∧ t.obj Obj.gaitLoadStatus = BitVec.ofNat 64 (c * 256 + 4)
             ∧ t.obj Obj.gaitRejectDetail = BitVec.ofNat 64 (d.1 * 65536 + d.2.1 * 256 + d.2.2)))

/-- R84, R85, R87, R101: a write of GAIT_SELECT that the dictionary accepts starts an arm in the modes that allow a swap; it
is refused with MODE in another mode and with BUSY while a swap is under way, and changes nothing but its records.
ARM_CHECKS_DONE, two strides after the write, makes the bank ARMED in that stride, or ends the arm with the first failure of
the checks of R85, as State.armChecks finds it, and source 0x0B3 has its event. That a failed check is not counted in
GAIT_SWAP_REFUSALS is the model's choice (log entry 119). The result in a mode without swaps while a swap is under way is the
model's choice (log entry 137), its reading of COVERAGE and of the seam check log entries 41 and 25. R88, R90, R93, R101: a
commit. The value 0x5A00 + b of the armed bank b fixes the switch stride: five strides later, or for a domain-wide gait the
first epoch boundary from then on. Another value is refused with COMMIT_VALUE, a domain-wide commit at a late phase with
COMMIT_LATE, and a commit with no arm in place with NO_ARM; each is counted in GAIT_SWAP_REFUSALS and leaves the active gait,
the banks and the ledger as they were. That a commit written while the arm is pending or after a valid commit is answered
NO_ARM is the model's choice (log entry 119). The arm's records are as in log entry 137. -/
def Obligations.GaitArmAndCommit : Prop :=
  (∀ (s : State) (lvl : Level) (v : Reg) (b : Nat), b < 16 →
     (s.accepts lvl Obj.gaitSelect v.toNat = true → v.toNat % 256 = b →
       (s.modes.mode.service = true → s.obj Obj.gaitSwapState = 0 →
         Does (.gaitSelectWrite lvl v) s fun t =>
           t.obj Obj.gaitSwapState = 1 ∧ t.obj Obj.gaitSelect = BitVec.ofNat 64 b
           ∧ t.gait = { s.gait with armBank := some b, armAt := s.now } ∧ Answered t lvl Obj.gaitSelect 0
           ∧ ObjsKept s t [Obj.gaitSwapState, Obj.gaitSelect] ∧ WroteOnly (s.withGait t.gait) t)
       ∧ (s.modes.mode.service = false →
         Does (.gaitSelectWrite lvl v) s fun t =>
           t.obj Obj.gaitSwapResult = 5 ∧ t.obj Obj.gaitSwapRefusals = satAdd32 (s.obj Obj.gaitSwapRefusals) 1
           ∧ Answered t lvl Obj.gaitSelect Ref.state
           ∧ ObjsKept s t (Obj.gaitSwapResult :: Obj.gaitSwapRefusals :: refusalObjs lvl) ∧ WroteOnly s t)
       ∧ (s.modes.mode.service = true → s.obj Obj.gaitSwapState ≠ 0 →
         Does (.gaitSelectWrite lvl v) s fun t =>
           t.obj Obj.gaitSwapResult = 4 ∧ t.obj Obj.gaitSwapRefusals = satAdd32 (s.obj Obj.gaitSwapRefusals) 1
           ∧ Answered t lvl Obj.gaitSelect Ref.state
           ∧ ObjsKept s t (Obj.gaitSwapResult :: Obj.gaitSwapRefusals :: refusalObjs lvl) ∧ WroteOnly s t))
     ∧ (s.gait.armBank = some b → s.obj Obj.gaitSwapState = 1 → s.gait.armAt + 2 ≤ s.now →
       (s.armChecks b = none →
         Does .armChecksDone s fun t =>
           t.bankState b = 5 ∧ t.obj Obj.gaitSwapState = 2 ∧ t.obj Obj.gaitArmStride = BitVec.ofNat 64 s.now
           ∧ ObjsKept s t [Obj.gaitBankState + b, Obj.gaitSwapState, Obj.gaitArmStride] ∧ WroteOnly s t)
       ∧ (∀ e, s.armChecks b = some e → s.bankState b ≠ 5 → s.heldParts = [] →
         Does .armChecksDone s fun t =>
           t.obj Obj.gaitSwapResult = BitVec.ofNat 64 e ∧ t.obj Obj.gaitSwapState = 0
           ∧ t.gait = { s.gait with armBank := none, switchAt := none, shadow := [] }
           ∧ Raised s t 0xB3 ∧ ObjsKept s t [Obj.gaitSwapResult, Obj.gaitSwapState] ∧ WroteRaised (s.withGait t.gait) t)))
  ∧ (∀ (s : State) (lvl : Level) (v : Reg) (b : Nat) (g : GaitSrc),
       let refused : Nat → Prop := fun e => Does (.gaitSwapCommitWrite lvl v) s fun t =>
         t.obj Obj.gaitSwapResult = BitVec.ofNat 64 e ∧ t.obj Obj.gaitSwapRefusals = satAdd32 (s.obj Obj.gaitSwapRefusals) 1
         ∧ Answered t lvl Obj.gaitSwapCommit Ref.state
         ∧ ObjsKept s t (Obj.gaitSwapResult :: Obj.gaitSwapRefusals :: refusalObjs lvl) ∧ WroteOnly s t
       s.accepts lvl Obj.gaitSwapCommit v.toNat = true →
       (s.gait.armBank = some b → s.obj Obj.gaitSwapState = 2 → s.gait.switchAt = none →
         (v.toNat % 65536 = 0x5A00 + b → Assoc.find? b s.gait.banks = some g →
           ((g.domainWide = true → s.epochPhase < 1020) →
             Does (.gaitSwapCommitWrite lvl v) s fun t =>
               (g.domainWide = false → t.gait.switchAt = some (s.now + 5))
               ∧ (g.domainWide = true → ∃ n, t.gait.switchAt = some n ∧ s.now + 5 ≤ n ∧ n < s.now + 5 + 1024 ∧ n % 1024 = 0)
               ∧ t.gait = { s.gait with commitAt := s.now, switchAt := t.gait.switchAt }
               ∧ Answered t lvl Obj.gaitSwapCommit 0 ∧ ObjsKept s t [] ∧ WroteOnly (s.withGait t.gait) t)
           ∧ (g.domainWide = true → 1020 ≤ s.epochPhase → refused 0x0C))
         ∧ (v.toNat % 65536 ≠ 0x5A00 + b → refused 0x0B))
       ∧ (s.gait.armBank = none → refused 0x10)
       ∧ (s.gait.armBank = some b → s.obj Obj.gaitSwapState ≠ 2 ∨ s.gait.switchAt.isSome = true → refused 0x10))

/-- R90 to R92: the three copies of the shadow registers are loaded in the stride before the switch; at the switch stride of a
committed swap the armed bank becomes the active gait, the former one ACCEPTED, and the result is SWITCHED; an arm without a
valid commit is dropped when 1,024 strides have passed since it was armed, with the result TIMEOUT, and the active gait stays.
-/
def Obligations.GaitSwitchOrTimeout : Prop :=
  ∀ (s : State) (b old : Nat), b < 16 → old < 16 → b ≠ old → s.gait.armBank = some b →
    (s.gait.switchAt = some (s.now + 1) →
      Does .shadowLoad s fun t => t = s.withGait { s.gait with shadow := [b, b, b] })
    ∧ (∀ sw, s.gait.switchAt = some sw → sw ≤ s.now → s.obj Obj.gaitSwapState = 3 → s.gait.shadow = [b, b, b] →
      (s.obj Obj.gaitActive).toNat = old →
      Does .gaitSwitch s fun t =>
        t.obj Obj.gaitActive = BitVec.ofNat 64 b ∧ t.bankState b = 4 ∧ t.bankState old = 2
        ∧ t.obj Obj.gaitPrevious = BitVec.ofNat 64 old ∧ t.obj Obj.gaitSwitchStride = BitVec.ofNat 64 sw
        ∧ t.obj Obj.gaitSwapResult = 1 ∧ t.obj Obj.gaitSwapState = 0 ∧ Raised s t 0xB3
        ∧ t.gait = { s.gait with armBank := none, switchAt := none, shadow := [] }
        ∧ (∀ c, c < 16 → c ≠ b → c ≠ old → t.bankState c = s.bankState c)
        ∧ t.tiers = s.tiers ∧ t.home = s.home ∧ t.mem = s.mem ∧ t.modes = s.modes)
    ∧ (s.obj Obj.gaitSwapState = 2 → s.gait.switchAt = none → (s.obj Obj.gaitArmStride).toNat + 1024 ≤ s.now →
      s.bankState b = 5 → s.heldParts = [] →
      Does .armTimeout s fun t =>
        t.obj Obj.gaitSwapTimeouts = satAdd32 (s.obj Obj.gaitSwapTimeouts) 1 ∧ t.obj Obj.gaitSwapResult = 0x0D
        ∧ t.obj Obj.gaitSwapState = 0 ∧ t.bankState b = 2 ∧ Raised s t 0xB3
        ∧ t.gait = { s.gait with armBank := none, shadow := [] }
        ∧ ObjsKept s t [Obj.gaitSwapTimeouts, Obj.gaitSwapResult, Obj.gaitSwapState, Obj.gaitBankState + b]
        ∧ WroteRaised (s.withGait t.gait) t)

/-- Table 14.4, the register instructions: each completes from every state in which Groom executes it, writes its destination
with the value of the table, and leaves everything else but the program counter, CYCLE and a debug halt. -/
def Obligations.GroomRegisterInstructions : Prop :=
  ∀ (s : State) (nd na nb : GReg) (sh : BitVec 5) (imm : BitVec 17) (hi : BitVec 15), s.groomReady = true →
    let does : Instr → Nat → GWord → Prop := fun i cycles v =>
      Does i s fun t => GroomWrites s t nd v ∧ t.groom.dsram = s.groom.dsram ∧ GroomPassed s t cycles
    let a := s.greg na
    let b := s.greg nb
    does (.add nd na nb) 1 (a + b) ∧ does (.sub nd na nb) 1 (a - b) ∧ does (.and nd na nb) 1 (a &&& b)
    ∧ does (.or nd na nb) 1 (a ||| b) ∧ does (.xor nd na nb) 1 (a ^^^ b)
    ∧ does (.shl nd na sh) 1 (a <<< sh.toNat) ∧ does (.shr nd na sh) 1 (a >>> sh.toNat)
    ∧ does (.sar nd na sh) 1 (a.sshiftRight sh.toNat)
    ∧ does (.shlv nd na nb) 1 (a <<< (b.toNat % 32)) ∧ does (.shrv nd na nb) 1 (a >>> (b.toNat % 32))
    ∧ does (.cmplt nd na nb) 1 (if a.toInt < b.toInt then 1 else 0)
    ∧ does (.cmpltu nd na nb) 1 (if a.toNat < b.toNat then 1 else 0)
    ∧ does (.mullo nd na nb) 3 (BitVec.ofNat 32 (a.toNat * b.toNat))
    ∧ does (.mulhi nd na nb) 3 (BitVec.ofNat 32 (a.toNat * b.toNat / 2 ^ 32))
    ∧ does (.quou nd na nb) 34 (if b = 0 then 0xFFFFFFFF else BitVec.ofNat 32 (a.toNat / b.toNat))
    ∧ does (.modu nd na nb) 34 (if b = 0 then a else BitVec.ofNat 32 (a.toNat % b.toNat))
    ∧ does (.clz nd na) 1 (BitVec.ofNat 32 (if a = 0 then 32 else 31 - Nat.log2 a.toNat))
    ∧ does (.popc nd na) 1 (BitVec.ofNat 32 (popN a.toNat 32))
    ∧ does (.addi nd na imm) 1 (a + imm.signExtend 32) ∧ does (.andi nd na imm) 1 (a &&& imm.setWidth 32)
    ∧ does (.ori nd na imm) 1 (a ||| imm.setWidth 32) ∧ does (.xori nd na imm) 1 (a ^^^ imm.setWidth 32)
    ∧ does (.cmplti nd na imm) 1 (if a.toInt < (imm.signExtend 32).toInt then 1 else 0)
    ∧ does (.cmpltiu nd na imm) 1 (if a.toNat < (imm.signExtend 32).toNat then 1 else 0)
    ∧ does (.ldhi nd hi) 1 (hi.setWidth 32 <<< 17)

/-- Table 14.4, the loads, and LDX on the D-SRAM (R516, R518): the bytes from na + IMM on are read little-endian, with LD2S
and LD1S sign-extended; LDX writes a pair of registers. Table 14.4, the stores, and STX on the D-SRAM (R516, R518): the bytes
from na + IMM on take the register's bytes, little-endian; every other byte and every register stays. -/
def Obligations.GroomLoadsAndStores : Prop :=
  (∀ (s : State) (nd na : GReg) (imm : BitVec 17), s.groomReady = true →
     let a := (s.greg na + imm.signExtend 32).toNat
     let byte : Nat → Nat := fun i => (memByte (a + i) s.groom.dsram).toNat
     let half := byte 0 + 2 ^ 8 * byte 1
     let word := fun i => BitVec.ofNat 32 (byte i + 2 ^ 8 * byte (i + 1) + 2 ^ 16 * byte (i + 2) + 2 ^ 24 * byte (i + 3))
     let does : Instr → GWord → Prop := fun i v =>
       Does i s fun t => GroomWrites s t nd v ∧ t.groom.dsram = s.groom.dsram ∧ GroomPassed s t 1
     0x10000000 ≤ a → a < 0x10020000 →
     (a % 4 = 0 → does (.ld4 nd na imm false) (word 0))
     ∧ (a % 2 = 0 → does (.ld2u nd na imm false) (BitVec.ofNat 32 half)
         ∧ does (.ld2s nd na imm false) ((BitVec.ofNat 16 half).signExtend 32))
     ∧ does (.ld1u nd na imm false) (BitVec.ofNat 32 (byte 0))
     ∧ does (.ld1s nd na imm false) ((BitVec.ofNat 8 (byte 0)).signExtend 32)
     ∧ (a % 8 = 0 → nd.val % 2 = 0 → Does (.ldx nd na imm false) s fun t =>
         (∀ n, t.greg n = if n = nd ∧ nd ≠ 0 then word 0 else if n = nd + 1 then word 4 else s.greg n)
           ∧ t.groom.dsram = s.groom.dsram ∧ GroomPassed s t 1))
  ∧ (∀ (s : State) (nd na : GReg) (imm : BitVec 17), s.groomReady = true → Memory.wf s.groom.dsram = true →
       let a := (s.greg na + imm.signExtend 32).toNat
       let does : Instr → Nat → Nat → Prop := fun i n v =>
         Does i s fun t => (∀ b, memByte b t.groom.dsram =
             if a ≤ b ∧ b < a + n then BitVec.ofNat 8 (v / 256 ^ (b - a)) else memByte b s.groom.dsram)
           ∧ (∀ r, t.greg r = s.greg r) ∧ GroomPassed s t 1
       0x10000000 ≤ a → a < 0x10020000 →
       (a % 4 = 0 → does (.st4 nd na imm) 4 (s.greg nd).toNat)
       ∧ (a % 2 = 0 → does (.st2 nd na imm) 2 (s.greg nd).toNat)
       ∧ does (.st1 nd na imm) 1 (s.greg nd).toNat
       ∧ (a % 8 = 0 → nd.val % 2 = 0 →
           does (.stx nd na imm) 8 ((s.greg nd).toNat + 2 ^ 32 * (s.greg (nd + 1)).toNat)))

/-- LDX and STX on the dictionary window (R432, R433, R439, R517 to R520): DSTAT takes the access's code, zero where it was
accepted. A refused read returns zero. A refused write changes no object but those of R433, which count it and name it; a
write that passes every check is refused with VIEW in another view than LIVE; an accepted write of an RW object that stores
its value, three of them shown, leaves it to be read from now on, to take effect at the next stride boundary, and every other
object as it was. For any other object the effect is that of its own rule, State.own. How many cycles the access takes is a
free value. GETS, PUTS, WAITE, BRK and TRET (Table 14.4, R522, R529, R537): a special register of Table 14.2 is read or
written, WAITE stalls with its register noted, BRK halts past itself where the port is allowed, and TRET, which has no delay
slot, clears T and BD and continues at EPC; TVEC keeps the value written (the model's reading of these three, log entry 97). A
write of a special register that is not RW, and any access to a number above 0x0F, is an illegal instruction. -/
def Obligations.GroomWindowAndSystem : Prop :=
  (∀ (s : State) (nd na : GReg) (imm : BitVec 17), s.groomReady = true → nd.val % 2 = 0 →
     let a := (s.greg na + imm.signExtend 32).toNat
     0x40000000 ≤ a → a < 0x60000000 → a % 8 = 0 →
     Does (.ldx nd na imm false) s (fun t =>
       let (k, view) := windowKey a
       let (c, v, _) := s.readAny .groom k view 0
       t.groom.dstat = BitVec.ofNat 32 c ∧ t.groom.slot = .none ∧ t.groom.dsram = s.groom.dsram
       ∧ (∀ n, t.greg n = if n = nd ∧ nd ≠ 0 then (if c = 0 then v.setWidth 32 else 0)
           else if n = nd + 1 then (if c = 0 then (v >>> 32).setWidth 32 else 0) else s.greg n))
     ∧ (let (k, view) := windowKey a
       let v := (s.greg nd).toNat + 2 ^ 32 * (s.greg (nd + 1)).toNat
       let kept : State → Prop := fun t => t.groom.slot = .none ∧ t.groom.pc = s.groomNextPc ∧ (∀ r, t.greg r = s.greg r)
         ∧ t.groom.dsram = s.groom.dsram ∧ t.groom.isram = s.groom.isram ∧ t.groom.stack = s.groom.stack
         ∧ t.groom.top = s.groom.top ∧ t.groom.status = s.groom.status ∧ t.groom.epc = s.groom.epc
         ∧ t.groom.cause = s.groom.cause ∧ t.groom.tvec = s.groom.tvec ∧ t.groom.badaddr = s.groom.badaddr
       let refused : Nat → State → Prop := fun c t => t.groom.dstat = BitVec.ofNat 32 c ∧ kept t
         ∧ t.obj (Obj.lastRefusal + 3) = BitVec.ofNat 64 (s.now % 2 ^ 32 * 2 ^ 32 + k * 2 ^ 8 + c)
         ∧ t.obj (Obj.dictRefusals + 3) = satAdd32 (s.obj (Obj.dictRefusals + 3)) 1
         ∧ WroteOnly ((s.withGroom t.groom).withFree t.free) t
         ∧ (∀ j, j ∉ refusalObjs .groom → t.obj j = s.obj j)
       let c := s.checkWrite .groom k v 0
       k / 256 ≠ 0x1011 →
       (c ≠ 0 → Does (.stx nd na imm) s (refused c))
       ∧ (c = 0 → s.checkRange k v ≠ 0 → Does (.stx nd na imm) s (refused (s.checkRange k v)))
       ∧ (k ∈ [Obj.streamThreshold, Obj.streamGap, Obj.ringThreshold] → s.accepts .groom k v = true → view ≠ .live →
         Does (.stx nd na imm) s (refused Ref.view))
       ∧ (view = .live → s.accepts .groom k v = true →
         let own := State.own .groom k v 0 s
         own.2.groom = s.groom → own.1 ≠ 0 → Does (.stx nd na imm) s fun t => t.groom.dstat = BitVec.ofNat 32 own.1 ∧ kept t
           ∧ t.obj (Obj.lastRefusal + 3) = BitVec.ofNat 64 (own.2.now % 2 ^ 32 * 2 ^ 32 + k * 2 ^ 8 + own.1)
           ∧ (∀ j, j ∉ refusalObjs .groom → t.obj j = own.2.obj j))
       ∧ (view = .live → s.accepts .groom k v = true →
         let own := State.own .groom k v 0 s
         own.2.groom = s.groom → own.1 = 0 → Does (.stx nd na imm) s fun t => t.groom.dstat = 0 ∧ kept t
           ∧ (∀ j, t.obj j = own.2.obj j)
           ∧ t = (((own.2.touchLock .groom k).withGroom t.groom).withFree t.free))
       ∧ (∀ row, objRow k = some row → k ∈ [Obj.streamThreshold, Obj.streamGap, Obj.ringThreshold] →
         s.accepts .groom k v = true → view = .live →
         Does (.stx nd na imm) s fun t => t.groom.dstat = 0 ∧ kept t
           ∧ (∀ j, t.obj j = if j = k then BitVec.ofNat 64 (row.rng.keep (row.ty.clip v)) else s.obj j)
           ∧ t.dict.pending = s.dict.pending ++ [(k, BitVec.ofNat 64 (row.rng.keep (row.ty.clip v)))] ∧ t.dict.eff = s.dict.eff
           ∧ WroteOnly (((s.withGroom t.groom).withFree t.free).withDict { s.dict with pending := t.dict.pending }) t)))
  ∧ (∀ (s : State) (nd : GReg), s.groomReady = true →
       let g := s.groom
       let gets : Nat → GWord → Prop := fun n v =>
         Does (.gets nd (BitVec.ofNat 17 n)) s fun t => GroomWrites s t nd v ∧ t.groom.dsram = g.dsram ∧ GroomPassed s t 1
       let puts : Nat → (State → GWord) → GWord → Prop := fun n f v =>
         Does (.puts nd (BitVec.ofNat 17 n)) s fun t => f t = v ∧ t.groom.pc = s.groomNextPc ∧ t.groom.slot = .none
           ∧ (∀ r, t.greg r = s.greg r) ∧ t.groom.dsram = g.dsram ∧ t = s.withGroom t.groom
       (gets 0x00 g.status ∧ gets 0x01 g.epc ∧ gets 0x02 g.cause ∧ gets 0x03 g.tvec ∧ gets 0x04 g.badaddr ∧ gets 0x05 g.dstat
         ∧ gets 0x06 (BitVec.ofNat 32 (s.now / 1024)) ∧ gets 0x08 g.strideHi ∧ gets 0x09 g.cycle ∧ gets 0x0A g.brCount
         ∧ gets 0x0B g.brMiss ∧ gets 0x0C g.retCount ∧ gets 0x0D g.retMiss ∧ gets 0x0E g.overruns
         ∧ gets 0x0F (BitVec.ofNat 32 (s.epochPhase * 65536 + g.spent % 32)))
       ∧ (puts 0x00 (·.groom.status) (s.greg nd &&& 3) ∧ puts 0x01 (·.groom.epc) (s.greg nd)
         ∧ puts 0x03 (·.groom.tvec) (s.greg nd) ∧ puts 0x0A (·.groom.brCount) (s.greg nd)
         ∧ puts 0x0B (·.groom.brMiss) (s.greg nd) ∧ puts 0x0C (·.groom.retCount) (s.greg nd)
         ∧ puts 0x0D (·.groom.retMiss) (s.greg nd) ∧ puts 0x0E (·.groom.overruns) (s.greg nd))
       ∧ (s.groom.status.getLsbD 0 = false → ∀ n : Nat, n < 2 ^ 17 →
           let illegal : Instr → Prop := fun i => Does i s fun t => t.groom.cause = 1 ∧ t.groom.pc = s.groom.tvec
             ∧ t.groom.regs = g.regs ∧ t = (s.withGroom t.groom).withFree t.free
           (0x0F < n → illegal (.gets nd (BitVec.ofNat 17 n)))
           ∧ (n ∉ [0x00, 0x01, 0x03, 0x0A, 0x0B, 0x0C, 0x0D, 0x0E] → illegal (.puts nd (BitVec.ofNat 17 n))))
       ∧ Does (.gets nd 0x07) s (fun t => GroomWrites s t nd (BitVec.ofNat 32 s.now)
           ∧ t.groom.strideHi = BitVec.ofNat 32 (s.now / 2 ^ 32))
       ∧ Does (.waite nd) s (fun t =>
           t = s.withGroom { g with
             run := .waite, waitReg := nd, dog := 0, pc := s.groomNextPc, slot := .none,
             cycle := g.cycle + BitVec.ofNat 32 (1 + g.lost), spent := g.spent + 1 + g.lost, lost := 0 })
       ∧ (s.debugOn = true → Does .brk s fun t => t.groom.run = .halted ∧ t.groom.pc = s.groomNextPc
           ∧ (∀ r, t.greg r = s.greg r) ∧ t = s.withGroom t.groom)
       ∧ (s.groomFree = true → Does .tret s fun t => t.groom.pc = g.epc ∧ t.groom.slot = .none
           ∧ t.groom.status = g.status &&& 0xFFFFFFFC ∧ (∀ r, t.greg r = s.greg r) ∧ t = s.withGroom t.groom))

/-- R522, Table 14.3: a trap outside a handler saves the address in EPC, that of the control transfer with BD set where the
instruction is a delay slot, the cause in CAUSE and the operand in BADADDR, sets T, and continues at TVEC. An odd nd in LDX or
STX and a control transfer in a delay slot are illegal instructions, whose BADADDR is a free value (log entry 96); the region
of an access is checked before its alignment, and TRET is taken to be a control transfer (the model's reading, log entry 97).
R523: an annulled delay slot occupies its cycle without effect, whichever instruction stands in it, and control goes on past
it; while Groom does not run, an instruction command does nothing (the model's choice, log entry 23). -/
def Obligations.GroomTraps : Prop :=
  (∀ (s : State) (nd na : GReg) (imm : BitVec 17) (code : BitVec 16), s.groom.run = .running →
     s.groom.status.getLsbD 0 = false →
     let a := s.greg na + imm.signExtend 32
     let entered : Nat → State → Prop := fun cause t =>
       t.groom.epc = (match s.groom.slot with
         | .none => s.groom.pc
         | .taken p _ => p
         | .fall p => p
         | .annulled p => p)
       ∧ t.groom.status = (if s.groom.slot = .none then 1 else 3)
       ∧ t.groom.cause = BitVec.ofNat 32 cause ∧ t.groom.pc = s.groom.tvec ∧ t.groom.slot = .none
       ∧ t.groom.regs = s.groom.regs ∧ t.groom.dsram = s.groom.dsram ∧ t.groom.stack = s.groom.stack
     let traps : Instr → Nat → GWord → Prop := fun i cause bad => Does i s fun t =>
       entered cause t ∧ t.groom.badaddr = bad ∧ t = s.withGroom t.groom
     let trapsOpen : Instr → Nat → Prop := fun i cause => Does i s fun t => entered cause t ∧ t = (s.withGroom t.groom).withFree t.free
     (s.groomReady = true → traps (.trap code) 6 (code.setWidth 32))
     ∧ (s.groom.pc.toNat % 4 ≠ 0 ∨ 0x20000 ≤ s.groom.pc.toNat → traps (.add nd na na) 2 s.groom.pc)
     ∧ (s.groomReady = true → ∀ err : Bool,
       (¬ (0x10000000 ≤ a.toNat ∧ a.toNat < 0x10020000) →
         traps (.ld4 nd na imm err) 3 a ∧ traps (.ld2u nd na imm err) 3 a ∧ traps (.ld2s nd na imm err) 3 a
         ∧ traps (.ld1u nd na imm err) 3 a ∧ traps (.ld1s nd na imm err) 3 a
         ∧ traps (.st4 nd na imm) 3 a ∧ traps (.st2 nd na imm) 3 a ∧ traps (.st1 nd na imm) 3 a)
       ∧ (nd.val % 2 = 0 → ¬ (0x10000000 ≤ a.toNat ∧ a.toNat < 0x10020000) → ¬ (0x40000000 ≤ a.toNat ∧ a.toNat < 0x60000000) →
         traps (.ldx nd na imm err) 3 a ∧ traps (.stx nd na imm) 3 a)
       ∧ (nd.val % 2 = 0 → 0x40000000 ≤ a.toNat → a.toNat < 0x60000000 → a.toNat % 8 ≠ 0 →
         traps (.ldx nd na imm err) 4 a ∧ traps (.stx nd na imm) 4 a))
     ∧ (s.groomReady = true → 0x10000000 ≤ a.toNat → a.toNat < 0x10020000 →
       (∀ err : Bool, (a.toNat % 4 ≠ 0 → traps (.ld4 nd na imm err) 4 a ∧ traps (.st4 nd na imm) 4 a)
         ∧ (a.toNat % 2 ≠ 0 → traps (.ld2u nd na imm err) 4 a ∧ traps (.ld2s nd na imm err) 4 a ∧ traps (.st2 nd na imm) 4 a)
         ∧ (nd.val % 2 = 0 → a.toNat % 8 ≠ 0 → traps (.ldx nd na imm err) 4 a ∧ traps (.stx nd na imm) 4 a))
       ∧ (a.toNat % 4 = 0 → traps (.ld4 nd na imm true) 5 a)
       ∧ (a.toNat % 2 = 0 → traps (.ld2u nd na imm true) 5 a ∧ traps (.ld2s nd na imm true) 5 a)
       ∧ traps (.ld1u nd na imm true) 5 a ∧ traps (.ld1s nd na imm true) 5 a
       ∧ (nd.val % 2 = 0 → a.toNat % 8 = 0 → traps (.ldx nd na imm true) 5 a))
     ∧ (s.groomReady = true → nd.val % 2 = 1 → ∀ err : Bool, trapsOpen (.ldx nd na imm err) 1 ∧ trapsOpen (.stx nd na imm) 1)
     ∧ (s.groomReady = true → s.groom.slot ≠ .none → trapsOpen (.jmpr na) 1 ∧ trapsOpen .tret 1))
  ∧ (∀ (s : State) (i : Instr) (w : GWord), groomEncode i = some w →
       (∀ p, s.groom.run = .running → s.groom.pc.toNat % 4 = 0 → s.groom.pc.toNat < 0x20000 → s.groom.slot = .annulled p →
         Does i s fun t => t.groom.pc = p + 8 ∧ t.groom.regs = s.groom.regs ∧ t.groom.dsram = s.groom.dsram ∧ GroomPassed s t 1)
       ∧ (s.groom.run ≠ .running → exec i s = .next s))

/-- R523 to R525, R528: the six conditional branches. The delay slot stands next, annulled where A = 1 and the branch is not
taken; the branch is predicted taken where OFF is not positive, H reversing that; a misprediction loses three cycles, a branch
predicted taken one, counted after the slot. Only a misprediction touches the return stack (R527). BR_COUNT, BR_MISS and their
fall-back copies count (R441). R523 to R526, R528: JMP, CALL, JMPR, CALLR and the return. A call writes its return address,
which skips the delay slot, and pushes it; a return pops, and is mispredicted where the entry popped is not n30; RET_COUNT,
RET_MISS and their fall-back copies count returns alone (R441). -/
def Obligations.GroomTransfers : Prop :=
  (∀ (s : State) (na nb : GReg) (off : BitVec 12) (annul hint : Bool), s.groomFree = true →
     let pc := s.groom.pc
     let x := s.greg na
     let y := s.greg nb
     let branches : Instr → Prop → Prop := fun i cond => Does i s fun t =>
       ∃ taken : Bool, (taken = true ↔ cond) ∧
         let miss := taken != (decide (off.toInt ≤ 0) != hint)
         t = (s.withDict (if miss then (s.fallWrap Obj.brCount).fallWrap Obj.brMiss else s.fallWrap Obj.brCount).dict).withGroom { s.groom with
           pc := pc + 4,
           slot := if taken then .taken pc (pc + BitVec.ofInt 32 (4 * off.toInt)) else if annul then .annulled pc else .fall pc,
           cycle := s.groom.cycle + BitVec.ofNat 32 (1 + s.groom.lost), spent := s.groom.spent + 1 + s.groom.lost,
           lost := if miss then 3 else if taken then 1 else 0,
           brCount := s.groom.brCount + 1, brMiss := s.groom.brMiss + (if miss then 1 else 0),
           stack := t.groom.stack, top := t.groom.top }
         ∧ (miss = false → t.groom.stack = s.groom.stack ∧ t.groom.top = s.groom.top)
     branches (.beq na nb off annul hint) (x = y) ∧ branches (.bne na nb off annul hint) (x ≠ y)
     ∧ branches (.blt na nb off annul hint) (x.toInt < y.toInt) ∧ branches (.bge na nb off annul hint) (y.toInt ≤ x.toInt)
     ∧ branches (.blo na nb off annul hint) (x.toNat < y.toNat) ∧ branches (.bhs na nb off annul hint) (y.toNat ≤ x.toNat))
  ∧ (∀ (s : State) (nd na : GReg) (target : BitVec 15), s.groomFree = true →
       let pc := s.groom.pc
       let jumps : Instr → GWord → Nat → (State → Prop) → Prop := fun i dest lost P => Does i s fun t =>
         t = (s.withDict t.dict).withGroom { s.groom with
           pc := pc + 4, slot := .taken pc dest, cycle := s.groom.cycle + BitVec.ofNat 32 (1 + s.groom.lost),
           spent := s.groom.spent + 1 + s.groom.lost, lost := lost, regs := t.groom.regs,
           stack := t.groom.stack, top := t.groom.top, retCount := t.groom.retCount, retMiss := t.groom.retMiss } ∧ P t
       let stackStays : State → Prop := fun t => t.groom.stack = s.groom.stack ∧ t.groom.top = s.groom.top
       let pushed : State → Prop := fun t => t.groom.top = s.groom.top + 1
         ∧ ∀ n : Fin 8, t.groom.stack.get n = if n.val = (s.groom.top + 1).toNat then pc + 8 else s.groom.stack.get n
       let uncounted : State → Prop := fun t => t.groom.retCount = s.groom.retCount ∧ t.groom.retMiss = s.groom.retMiss
         ∧ t.dict = s.dict
       let dest := BitVec.ofNat 32 (4 * target.toNat)
       jumps (.jmp target) dest 1 (fun t => t.groom.regs = s.groom.regs ∧ stackStays t ∧ uncounted t)
       ∧ jumps (.call target) dest 1 (fun t => GroomWrites s t 30 (pc + 8) ∧ pushed t ∧ uncounted t)
       ∧ ((s.greg na).toNat % 4 = 0 → na ≠ 30 →
           jumps (.jmpr na) (s.greg na) 3 (fun t => t.groom.regs = s.groom.regs ∧ stackStays t ∧ uncounted t))
       ∧ ((s.greg na).toNat % 4 = 0 →
           jumps (.callr nd na) (s.greg na) 3 (fun t => GroomWrites s t nd (pc + 8) ∧ pushed t ∧ uncounted t))
       ∧ ((s.greg 30).toNat % 4 = 0 →
           let hit := s.groom.stack.get s.groom.top.toFin = s.greg 30
           jumps (.jmpr 30) (s.greg 30) (if hit then 1 else 3) (fun t => t.groom.regs = s.groom.regs
             ∧ t.groom.stack = s.groom.stack ∧ t.groom.top = s.groom.top - 1 ∧ t.groom.retCount = s.groom.retCount + 1
             ∧ t.groom.retMiss = s.groom.retMiss + (if hit then 0 else 1)
             ∧ t.dict = (if hit then s.fallWrap Obj.retCount else (s.fallWrap Obj.retCount).fallWrap Obj.retMiss).dict)))

/-- The word that Table 14.4 and R521 give a Groom instruction decodes back to it, with every operand at every value. A load
command says beside the instruction whether the word it reads is uncorrectable, which no word spells. -/
def Obligations.GroomRoundTrip : Prop :=
  let plain : Instr → Instr := fun
    | .ld4 nd na imm _ => .ld4 nd na imm false
    | .ld2s nd na imm _ => .ld2s nd na imm false
    | .ld2u nd na imm _ => .ld2u nd na imm false
    | .ld1s nd na imm _ => .ld1s nd na imm false
    | .ld1u nd na imm _ => .ld1u nd na imm false
    | .ldx nd na imm _ => .ldx nd na imm false
    | i => i
  ∀ (i : Instr) (w : GWord), groomEncode i = some w → groomDecode w = some (plain i)

/-- R533, R540: staging an operator image by Board: BEGIN discards the staged image, each write of STAGE_IMAGE appends eight
bytes, CHECK is due within 62,500 strides, and ABANDON discards; an image or check outside LOADING is refused with STATE.
R533, Table 14.8: a check ends ACCEPTED, or REJECTED with the first check that fails in GROOM_AUTH_RESULT; without a fused
operator key hash, an image in form is rejected with 0x02. A check ends when the command says so: its moment is not fixed.
R515, R534, R537: when a load is done the vendor image runs from its entry with the SRAMs loaded and cleared registers, halted
where a breakpoint stands there, and a staged image that fails its checks leaves Groom in AUTH_FAILED with the check in
GROOM_AUTH_RESULT. In which Groom cycle of a stride the image starts is a free value (log entry 162), and the checks' use of
SHA-384 and ECDSA is log entry 80's. -/
def Obligations.GroomImages : Prop :=
  (∀ (s : State) (lvl : Level) (v : Reg),
     (s.accepts lvl Obj.stageCommand 1 = true → s.groom.run ≠ .authenticating →
       Does (.stageBegin lvl) s fun t =>
         t.groom = { s.groom with stage := [], stageDue := none } ∧ t.obj Obj.stageStatus = 1
         ∧ Answered t lvl Obj.stageCommand 0 ∧ WroteOnly (s.withGroom t.groom) t)
     ∧ (s.accepts lvl Obj.stageImage v.toNat = true → s.obj Obj.stageStatus = 1 → s.groom.stage.length < 32832 →
       Does (.stageImageAppend lvl v) s fun t =>
         t.groom = { s.groom with stage := s.groom.stage ++ [v] } ∧ (∀ k, t.obj k = s.obj k)
         ∧ Answered t lvl Obj.stageImage 0 ∧ WroteOnly (s.withGroom t.groom) t)
     ∧ (s.accepts lvl Obj.stageImage v.toNat = true → s.obj Obj.stageStatus ≠ 1 →
       Does (.stageImageAppend lvl v) s fun t => Answered t lvl Obj.stageImage Ref.state ∧ WroteOnly s t)
     ∧ (s.accepts lvl Obj.stageCommand 2 = true → s.obj Obj.stageStatus = 1 →
       Does (.stageCheck lvl) s fun t =>
         t.groom = { s.groom with stageDue := some (s.now + 62500) } ∧ t.obj Obj.stageStatus = 2
         ∧ Answered t lvl Obj.stageCommand 0 ∧ WroteOnly (s.withGroom t.groom) t)
     ∧ (s.accepts lvl Obj.stageCommand 2 = true → s.obj Obj.stageStatus ≠ 1 →
       Does (.stageCheck lvl) s fun t => Answered t lvl Obj.stageCommand Ref.state ∧ WroteOnly s t)
     ∧ (s.accepts lvl Obj.stageCommand 3 = true →
       Does (.stageAbandon lvl) s fun t =>
         t.groom = { s.groom with stage := [], stageDue := none } ∧ t.obj Obj.stageStatus = 0
         ∧ Answered t lvl Obj.stageCommand 0 ∧ WroteOnly (s.withGroom t.groom) t))
  ∧ (∀ (s : State), s.obj Obj.stageStatus = 2 →
       (Does .stageCheckDone s fun t =>
         t.obj Obj.groomAuthResult = BitVec.ofNat 64 (s.imageCheck s.groom.stage)
         ∧ t.obj Obj.stageStatus = (if s.imageCheck s.groom.stage = 0 then 3 else 4)
         ∧ t.groom = { s.groom with stageDue := none } ∧ WroteOnly (s.withGroom t.groom) t)
       ∧ (imageShape s.groom.stage = false → s.imageCheck s.groom.stage = 1)
       ∧ (imageShape s.groom.stage = true → s.fuse.keyHash = none → s.imageCheck s.groom.stage = 2))
  ∧ (∀ (s : State),
       let starts : GWord → GroomRun := fun entry => if s.debugOn && s.groom.breaks.any (·.2 == entry) then .halted else .running
       (s.groom.run = .loading → Does .groomLoadDone s fun t =>
         t.groom.run = starts (BitVec.ofNat 32 Config.groomRomEntry.toNat) ∧ t.groom.pc = BitVec.ofNat 32 Config.groomRomEntry.toNat
         ∧ t.groom.regs = Vector.replicate 32 0 ∧ t.groom.isram = loadSegs 0 Config.groomRomInstr []
         ∧ t.groom.dsram = loadSegs 0x10000000 Config.groomRomData [] ∧ t.obj Obj.groomRunningImage = 0
         ∧ t.obj Obj.groomImageVersion = Config.groomRomVersion.setWidth 64 ∧ WroteOnly ((s.withGroom t.groom).withFree t.free) t)
       ∧ (s.groom.run = .authenticating → Does .groomLoadDone s fun t =>
         (s.imageCheck s.groom.stage = 0 → t.groom.run = starts (BitVec.ofNat 32 (imgNum s.groom.stage 16 4)) ∧ t.groom.pc = BitVec.ofNat 32 (imgNum s.groom.stage 16 4)
           ∧ t.obj Obj.groomRunningImage = 1 ∧ t.obj Obj.groomImageVersion = BitVec.ofNat 64 (imgNum s.groom.stage 20 4))
         ∧ (s.imageCheck s.groom.stage ≠ 0 → t.groom = { s.groom with run := .authFailed }
           ∧ t.obj Obj.groomAuthResult = BitVec.ofNat 64 (s.imageCheck s.groom.stage))
         ∧ WroteOnly ((s.withGroom t.groom).withFree t.free) t))

/-- R531, R534, R535, R540: a restart and a stop by GROOM_COMMAND abandon the locks that Groom holds; a restart resets Groom,
the staged image and the breakpoints aside, and loads the image last selected; a stop leaves Groom's registers and memories as
they were. The watchdog's restart is counted, and the fourth counted one in a row faults; where a halt waits for the end of a
delay slot the expiry clears the count instead. R536, R537: halting, resuming and stepping by the debug port. A halt waits for
the end of a delay slot and for the return of a WAITE; the watchdog's count is cleared where it has just expired and stands
still otherwise (R531, R540; log entry 155). A step runs the instruction that the word at the program counter spells, a
control transfer with that of its delay slot, and halts again; a WAITE that is stepped halts when it returns. ADDI is written
out. In which Groom cycle of the stride the clock starts again is a free value (log entry 162). Where the debug port is not
allowed or Groom does not stand as asked nothing happens (the model's choice, log entry 23). -/
def Obligations.GroomRunControl : Prop :=
  (∀ (s : State) (lvl : Level),
     let freed : State → Prop := fun t => ∀ a l, (a, l) ∈ t.dict.locks → l.holder = some .groom → False
     let cleared : Groom → Groom → Prop := fun g h => h.regs = Vector.replicate 32 0 ∧ h.isram = [] ∧ h.dsram = []
       ∧ h.status = 0 ∧ h.slot = .none ∧ h.stage = g.stage ∧ h.breaks = g.breaks
     let loads := if s.obj Obj.groomImageSelect = 1 then GroomRun.authenticating else .loading
     (s.accepts lvl Obj.groomCommand 1 = true → lvl ≠ .groom →
       Does (.groomRestart lvl) s fun t =>
         t.groom.run = loads ∧ t.groom.restarts = 0 ∧ cleared s.groom t.groom ∧ freed t ∧ (∀ k, t.obj k = s.obj k)
         ∧ Answered t lvl Obj.groomCommand 0 ∧ WroteOnly (s.withGroom t.groom) t)
     ∧ (s.accepts lvl Obj.groomCommand 2 = true → lvl ≠ .groom →
       Does (.groomStop lvl) s fun t =>
         t.groom = { s.groom with run := .stopped, slot := .none, restarts := 0, dog := 0 } ∧ freed t
         ∧ Answered t lvl Obj.groomCommand 0 ∧ WroteOnly (s.withGroom t.groom) t)
     ∧ (s.groom.run = .running → s.eff Obj.groomWatchdog ≤ s.groom.dog → s.groom.haltWanted = true →
       Does .groomWatchdogExpiry s fun t => t = s.withGroom { s.groom with dog := 0 })
     ∧ (s.groom.run = .running → s.eff Obj.groomWatchdog ≤ s.groom.dog → s.groom.haltWanted = false →
       Does .groomWatchdogExpiry s fun t =>
         t.obj Obj.groomRestarts = satAdd32 (s.obj Obj.groomRestarts) 1 ∧ t.groom.restarts = s.groom.restarts + 1
         ∧ t.groom.run = (if 4 ≤ s.groom.restarts + 1 then .faulted else loads) ∧ cleared s.groom t.groom ∧ freed t
         ∧ WroteOnly (s.withGroom t.groom) t))
  ∧ (∀ (s : State),
       (s.debugOn = false → exec .groomHalt s = .next s ∧ exec .groomResume s = .next s)
       ∧ (s.debugOn = true → s.groom.run = .running → s.groom.slot = .none → Does .groomHalt s fun t =>
         t = s.withGroom { s.groom with run := .halted, haltWanted := false,
                                        dog := if s.eff Obj.groomWatchdog ≤ s.groom.dog then 0 else s.groom.dog })
       ∧ (s.debugOn = true → s.groom.run = .running → s.groom.slot ≠ .none → Does .groomHalt s fun t =>
         t = s.withGroom { s.groom with haltWanted := true })
       ∧ (s.debugOn = true → s.groom.run = .waite → Does .groomHalt s fun t =>
         t = s.withGroom { s.groom with haltWanted := true })
       ∧ (s.debugOn = true → s.groom.run = .halted → Does .groomResume s fun t =>
         t = (s.withGroom { s.groom with run := .running, spent := t.groom.spent }).withFree t.free)
       ∧ (∀ i u, s.debugOn = true → s.groom.run = .halted → groomDecode (s.groomWord s.groom.pc) = some i →
           let s0 := s.clockStarts.withGroom { s.clockStarts.groom with run := .running, breaks := [] }
           let rehalted : State → State := fun v => v.withGroom { v.groom with
             run := if v.groom.run = .running then .halted else v.groom.run,
             haltWanted := if v.groom.run = .running then false else if v.groom.run = .waite then true else v.groom.haltWanted,
             breaks := s.groom.breaks }
           exec i s0 = .next u →
           (u.groom.run ≠ .running ∨ u.groom.slot = .none → Does .groomStep s fun t => t = rehalted u)
           ∧ (u.groom.run = .running → u.groom.slot ≠ .none → ∀ j v, groomDecode (u.groomWord u.groom.pc) = some j →
               exec j u = .next v → Does .groomStep s fun t => t = rehalted v))
       ∧ (∀ nd na imm, s.debugOn = true → s.groom.run = .halted → s.groom.haltWanted = false →
           s.groom.pc.toNat % 4 = 0 → s.groom.pc.toNat < 0x20000 → s.groom.slot = .none →
           groomDecode (s.groomWord s.groom.pc) = some (.addi nd na imm) →
           Does .groomStep s fun t => t.groom.run = .halted ∧ t.groom.pc = s.groom.pc + 4
             ∧ GroomWrites s t nd (s.greg na + imm.signExtend 32) ∧ t.groom.dsram = s.groom.dsram
             ∧ t.groom.breaks = s.groom.breaks))

/-- R428, R433, R536, R555, Table 15.11: the TAP's instructions. EXTEST drives its cells only in Reset and Test and acts as
BYPASS elsewhere; the levels that the boundary-scan cells capture, and shift out, are a free value (log entry 165); DICT_READ
reads at the JTAG level without trace and shifts out a code over a value. With GROOM_DEBUG_ALLOW set the debug port reads and
writes general registers, special registers (TVEC as the one written here) and bytes of the D-SRAM and sets breakpoints; with
it clear it reads the state and the program counter only. R422: in Off and Keep the TAP is not available, and its commands do
nothing (the model's choice, log entry 23). -/
def Obligations.TapInstructions : Prop :=
  ∀ (s : State) (cells : List Bool) (tdi : Bool) (index : BitVec 16) (sub : BitVec 8) (r : GReg) (v : GWord),
    let sel : Nat → State := fun code => s.withPkg { s.pkg with ir := BitVec.ofNat 8 code }
    let scanned : Nat → State → Prop := fun code t => ∃ out,
      t = ((s.withPkg { s.pkg with ir := BitVec.ofNat 8 code, preload := cells }).withFree (s.free + 1)).emit (.tdo cells.length out)
    (s.modes.mode ≠ .off → s.modes.mode ≠ .keep →
      Does .idcode s (fun t => t = (sel 1).emit (.tdo 32 s.idcode) ∧ s.idcode % 2 = 1 ∧ s.idcode / 2 % 2048 = 0x4B4)
      ∧ Does (.samplePreload cells) s (scanned 2)
      ∧ ((s.modes.mode = .reset ∨ s.modes.mode = .test) →
          Does (.extest cells) s (fun t => scanned 3 t ∧ t.scanDrives = some cells))
      ∧ (s.modes.mode ≠ .reset → s.modes.mode ≠ .test → Does (.extest cells) s (fun t =>
          t.pkg = { s.pkg with ir := 3, bypass := cells.getLastD false } ∧ t.scanDrives = none
          ∧ t = (s.withPkg t.pkg).emit (.tdo cells.length
              (((false :: cells).dropLast).foldr (fun b n => 2 * n + b.toNat) 0))))
      ∧ Does .clamp s (fun t => t = sel 4) ∧ Does .highz s (fun t => t = sel 5)
      ∧ Does (.bypass tdi) s (fun t => t = (s.withPkg { s.pkg with ir := 0xFF, bypass := tdi }).emit (.tdo 1 0))
      ∧ Does .tapReset s (fun t => t = sel 1)
      ∧ Does (.dictRead index sub) s (fun t =>
          let (c, x, u) := (sel 0x20).readAny .jtag (keyOf index sub) .peek 0
          t = u.emit (.tdo 72 (2 ^ 64 * c + if c = 0 then x.toNat else 0))
          ∧ t.pkg = { s.pkg with ir := 0x20 } ∧ t.groom = s.groom ∧ t.home = s.home ∧ t.tiers = s.tiers ∧ t.mem = s.mem)
      ∧ Does (.groomDebug .readState) s (fun t => t = (sel 0x21).emit (.tdo 8 s.groom.run.code))
      ∧ Does (.groomDebug .readPc) s (fun t => t = (sel 0x21).emit (.tdo 32 s.groom.pc.toNat))
      ∧ Does (.groomDebug (.readReg r)) s (fun t =>
          t = if s.debugOn then (sel 0x21).emit (.tdo 32 (s.greg r).toNat) else sel 0x21)
      ∧ Does (.groomDebug (.writeReg r v)) s (fun t =>
          if s.debugOn then GroomWrites s t r v ∧ t = (sel 0x21).withGroom { s.groom with regs := t.groom.regs }
          else t = sel 0x21)
      ∧ (s.debugOn = true → ∀ n x, s.special n.val = some x →
          Does (.groomDebug (.readSpecial n)) s fun t => t = (sel 0x21).emit (.tdo 32 x.1.toNat))
      ∧ (s.debugOn = true → Does (.groomDebug (.writeSpecial 3 v)) s fun t => t = (sel 0x21).withGroom { s.groom with tvec := v })
      ∧ (s.debugOn = true → ∀ a b, 0x10000000 ≤ a.toNat → a.toNat < 0x10020000 →
          Does (.groomDebug (.readMem a)) s (fun t => t = (sel 0x21).emit (.tdo 8 (memByte a.toNat s.groom.dsram).toNat))
          ∧ Does (.groomDebug (.writeMem a b)) s fun t =>
              t = (sel 0x21).withGroom { s.groom with dsram := memSet a.toNat b s.groom.dsram })
      ∧ (s.debugOn = true → ∀ n a, Does (.groomDebug (.setBreak n (some a))) s fun t =>
          t = (sel 0x21).withGroom { s.groom with breaks := t.groom.breaks } ∧ (n, a) ∈ t.groom.breaks
          ∧ ∀ m b, m ≠ n → ((m, b) ∈ t.groom.breaks ↔ (m, b) ∈ s.groom.breaks)))
    ∧ (s.modes.mode = .off ∨ s.modes.mode = .keep →
      (∀ i ∈ [.idcode, .samplePreload cells, .extest cells, .clamp, .highz, .bypass tdi, .tapReset, .dictRead index sub,
        .groomDebug .readState, .groomDebug .readPc], exec i s = .next s))

/-- R196, R198, R216, R396: an agent's answer arrives at its transaction where the transaction has sent that agent a snoop
that may have such an answer and still awaits it; every other answer, and a CompAck of no transaction, is stray: discarded,
counted, and an alarm at the first of the policy epoch. R232, R307, R396: a holder's FwdData crosses to the requester of its
transaction, which is thereby performed; one that comes late is sent with RWD set and only the data slots that have come,
counted, and crosses again whole in a FWDDATA_RESEND; one that fits no transaction is stray. Which FwdData come late, and
after how many slots, the command says. Where the condition of a row is not met nothing happens (the model's choice, log entry
23). When a forward has passed in full is log entry 149. -/
def Obligations.AgentMessages : Prop :=
  (∀ (s : State) (half : Fin 32) (htid : BitVec 13) (data : Line) (poison : Bool),
     let h := half.val
     let awaits : Txn → Ans → Prop := fun t a =>
       ∃ x ∈ t.snoops, x.half = h ∧ x.sent = true ∧ x.answer = none ∧ x.retired = false ∧ ansFits x.op a = true
     let strays : Instr → Prop := fun i => Does i s fun u =>
       u.obj Obj.strayMessages = satAdd32 (s.obj Obj.strayMessages) 1
       ∧ (s.rel.strayInEpoch = false → u.rel.strayInEpoch = true ∧ Raised s u 0xC3)
       ∧ (s.rel.strayInEpoch = true → u.irq = s.irq ∧ u.rel = s.rel)
       ∧ u.home = s.home ∧ u.ports = s.ports ∧ u.tiers = s.tiers ∧ u.mem = s.mem ∧ u.gait = s.gait ∧ u.sent = s.sent
     let answers : Instr → Ans → Prop := fun i a =>
       (∀ t, s.byHtid htid = some t → awaits t a → Does i s fun u =>
         u = (s.updSnp t.id h fun x => { x with answer := some a }).withPmu u.pmu)
       ∧ ((∀ t, s.byHtid htid = some t → ¬ awaits t a) → strays i)
     answers (.rspI half htid) .i ∧ answers (.rspS half htid) .s ∧ answers (.rspFwdI half htid) .fwdI
     ∧ answers (.rspFwdS half htid) .fwdS ∧ answers (.rspFwdCur half htid) .fwdCur ∧ answers (.crossing half htid) .crossing
     ∧ answers (.rspIWb half htid data poison) (.iWb data poison) ∧ answers (.rspSWb half htid data poison) (.sWb data poison)
     ∧ (s.byHtid htid = none → strays (.compAck half htid)))
  ∧ (∀ (s : State) (half rhalf : Fin 32) (rtag : BitVec 12) (htid : BitVec 13) (grant : BitVec 3) (pend : Bool) (data : Line)
         (poison : Bool) (t : Txn) (x : Snp),
       let i : Option (Fin 8) → Instr := fun late => .fwdData half rhalf rtag htid grant pend data poison late
       let part : Fin 8 → Line := fun n => data &&& BitVec.ofNat 1024 (2 ^ (128 * n.val) - 1)
       let f : Fwd := { half := rhalf, tag := rtag, htid := htid, grant := grant, pend := pend, poison := poison, data := data }
       let fits := s.byHtid htid = some t ∧ s.txn t.id = some t ∧ t.half = some rhalf.val ∧ t.req.tag = rtag ∧ t.performed = false
         ∧ x ∈ t.snoops ∧ x.half = half.val ∧ x.op ≠ 4 ∧ x.sent = true ∧ x.passed = false ∧ x.retired = false
         ∧ t.gone = false ∧ s.halfUp rhalf = true ∧ ∀ y ∈ s.ports.resend, y.htid ≠ htid
       (fits → Does (i none) s fun u =>
         .fwdData rhalf rtag htid grant pend poison data false ∈ u.sent ∧ (∀ v, u.txn t.id = some v → v.performed = true) ∧ u.ports.resend = s.ports.resend)
       ∧ (fits → ∀ n, Does (i (some n)) s fun u =>
         u.sent = s.sent ++ [.fwdData rhalf rtag htid grant pend poison (part n) true] ∧ u.ports.resend = s.ports.resend ++ [f] ∧ u.ports.queues = s.ports.queues
         ∧ u.ports.replay = s.ports.replay ∧ u.tiers = s.tiers ∧ u.home = s.home
         ∧ u.obj (Obj.egressRewinds + rhalf.val * 256) = satAdd32 (s.obj (Obj.egressRewinds + rhalf.val * 256)) 1)
       ∧ (s.byHtid htid = none → ∀ late, Does (i late) s fun u =>
         u.obj Obj.strayMessages = satAdd32 (s.obj Obj.strayMessages) 1 ∧ u.home = s.home ∧ u.ports = s.ports ∧ u.sent = s.sent
         ∧ u.tiers = s.tiers ∧ (s.rel.strayInEpoch = false → u.rel.strayInEpoch = true ∧ Raised s u 0xC3))
       ∧ (∀ y l, s.ports.resend = y :: l → y.half = rhalf.val → s.byHtid y.htid = some t → s.txn t.id = some t →
         t.half = some rhalf.val → t.req.tag = y.tag → t.performed = false → t.gone = false → s.halfUp rhalf = true →
         Does (.fwdDataResend rhalf) s fun u =>
           .fwdData rhalf y.tag y.htid y.grant y.pend y.poison y.data false ∈ u.sent ∧ u.ports.resend = l
           ∧ ∀ v, u.txn t.id = some v → v.performed = true)
       ∧ ((∀ y ∈ s.ports.resend, y.half ≠ rhalf.val) → exec (.fwdDataResend rhalf) s = .next s))

/-- R187, R199, R213, R216, R251: a CompAck arrives once at a transaction that waits for it; a Snoop/forward slot, once what
has been sent by then is performed, retires what has arrived at the slice's oldest transaction that has something: a CompAck
that was the last condition ends the transaction and writes its directory entry; an RspI to a SnpInv clears its half's bit;
and a slice where nothing has arrived leaves the slot. That the oldest is the one admitted first is the model's choice (log
entry 141). Where the condition of a row is not met nothing happens (the model's choice, log entry 23). -/
def Obligations.AcksAndRetiring : Prop :=
  ∀ (s : State) (half : Fin 32) (htid : BitVec 13) (slice : Fin 16) (cyc : Fin 64) (t : Txn),
    let q := s.sentBy (s.now * 64 + cyc.val)
    let first := q.home.txns.find? fun t => t.slice == slice.val && t.phase == .active && t.arrived
    let serves := (q.takeSlot 0 slice cyc Cls.sf 1).isSome = true
    (s.byHtid htid = some t → t.half = some half.val → t.needAck = true → t.performed = true → t.acked = false →
      exec (.compAck half htid) s = .next (s.updTxn t.id fun t => { t with acked := true }))
    ∧ (s.byHtid htid = none ∨ (s.byHtid htid = some t ∧ (t.half ≠ some half.val ∨ t.acked = true)) →
      Does (.compAck half htid) s fun u =>
        u.obj Obj.strayMessages = satAdd32 (s.obj Obj.strayMessages) 1 ∧ u.home = s.home)
    ∧ (first = none ∨ q.takeSlot 0 slice cyc Cls.sf 1 = none → exec (.retire slice cyc) s = .next q)
    ∧ (first = some t → serves → q.txn t.id = some t → t.acked = true → t.ackRetired = false → t.needAck = true →
      t.performed = true → t.snoops = [] → t.todo = .nothing → t.pend = false → t.needWay = false → t.backInv = none →
      t.waitBack = false → q.obj Obj.departedMask = 0 → (∀ u ∈ q.home.txns, u.backInv ≠ some t.id) →
      (∀ o ∈ q.ports.outcomes, o.id ≠ t.id) →
      t.record.all (fun y => y.2.2 != 0) = true →
      Does (.retire slice cyc) s fun u =>
        u.txn t.id = none ∧ u.tiers = q.tiers ∧ u.mem = q.mem
        ∧ (∀ w st f sh, t.dirWay = some w → t.record = some (st, f, sh) →
          u.dirEnt (dsetOf (t.line * 128)) w
            = some { st := st, fholder := f, dtag := dtagOf (t.line * 128), sharers := sh })
        ∧ (∀ w, t.dirWay = some w → t.record = none → u.dirEnt (dsetOf (t.line * 128)) w = none))
    ∧ (∀ x, first = some t → serves → q.txn t.id = some t → t.acked = false → t.snoops = [x] → x.op = 4 → x.answer = some .i →
      x.role = 1 → x.retired = false → t.pend = false → t.todo = .nothing → t.performed = false → t.half ≠ none → t.gone = false →
      Does (.retire slice cyc) s fun u =>
        u.txn t.id = some { t.clearBit x.half with snoops := [{ x with retired := true }] } ∧ u.home.dir = q.home.dir
        ∧ u.tiers = q.tiers ∧ u.sent = q.sent)

/-- R77, R207, R209, R251, R313: the request that a slice's slot serves looks up: behind a refused one of its queue on its
line it is refused with ORDER, and its replay is awaited; on a line that is held it joins the wait list. A slot that nothing
waits for changes nothing but that what has been sent by then is performed (R251). That all a look-up decides is done at its
command is the model's choice (log entry 30). A slot that nothing waits for does nothing (the model's choice, log entry 23).
R176, R311: a snoop held for want of a credit leaves when one has come back, and a transaction that waits for a directory way
tries again in a Snoop/forward slot, counted: the one admitted first (the model's choice, log entry 141). Where the condition
of a row is not met nothing happens (the model's choice, log entry 23). -/
def Obligations.LookUpsAndHeldWork : Prop :=
  (∀ (s : State) (slice : Fin 16) (cyc : Fin 64) (t : Txn) (h : Nat),
     let i : Instr := .lookup slice cyc [] none
     let q := s.sentBy (s.now * 64 + cyc.val)
     (q.pickLook slice cyc = none → exec i s = .next q)
     ∧ (q.pickLook slice cyc = some t → t.orderRefuse = true → t.half = some h → q.halfUp h = true → Does i s fun u =>
       (∃ at_, .refused h t.req.tag 0x71 1 at_ ∈ u.sent) ∧ u.txn t.id = none
       ∧ (((Assoc.find? t.queue u.ports.replay).getD []).getLast?.map fun x => (x.id, x.req.tag)) = some (t.id, t.req.tag)
       ∧ u.home.dir = q.home.dir ∧ u.tiers = q.tiers ∧ u.mem = q.mem)
     ∧ (q.pickLook slice cyc = some t → q.txn t.id = some t → t.orderRefuse = false → q.fenced t.slice = false →
       isEvict t.req.op = false → t.tracker.isSome = true → q.lineHeld t.line t.id = true →
       (q.home.txns.filter fun u => u.line == t.line && u.id != t.id && (u.phase == .waiting || u.phase == .reserved)).length
         < q.eff Obj.waitlistMax → Does i s fun u =>
         u.txn t.id = some { t with phase := .waiting, join := q.home.nextId, ageStart := some (t.ageStart.getD q.now) }
         ∧ u.home.nextId = q.home.nextId + 1 ∧ u.home.dir = q.home.dir ∧ u.tiers = q.tiers ∧ u.mem = q.mem ∧ u.sent = q.sent)
     ∧ (q.pickLook slice cyc = some t → LooksUpFree q t h → t.req.op = Op.evictClean → q.dirHit t.line = none → Does i s fun u =>
       .rsp h 0x10 t.req.tag 0 ∈ u.sent ∧ u.txn t.id = none ∧ u.home.dir = q.home.dir ∧ u.tiers = q.tiers
       ∧ u.obj Obj.unrecordedEvictions = satAdd32 (q.obj Obj.unrecordedEvictions) 1))
  ∧ (∀ (s : State) (half : Fin 32) (slice : Fin 16) (cyc : Fin 64) (t : Txn),
       let h := half.val
       let held := s.home.txns.find? fun t => t.snoops.any fun x => x.half == h && !x.sent && !x.retired
       let waits := s.home.txns.find? fun t => t.slice == slice.val && t.phase == .active && (t.needWay || t.waitBack)
       (held = none → exec (.snoopSendAfterCredit half) s = .next s)
       ∧ (∀ x, held = some t → t.snoops.find? (fun x => x.half == h) = some x → s.halfUp h = true → (s.link h).snpCredit ≠ 0 →
         Does (.snoopSendAfterCredit half) s fun u =>
           .snoop x.half x.op t.htid (if x.op = 4 then 0 else t.half.getD 0) (if x.op = 4 then 0 else t.req.tag)
             (x.op == 2 && t.pend) (BitVec.ofNat 45 (s.paLine t.line)) ∈ u.sent
           ∧ (u.link h).snpCredit = (s.link h).snpCredit - 1 ∧ u.tiers = s.tiers ∧ u.home.dir = s.home.dir)
       ∧ ((s.link h).snpCredit = 0 ∨ s.halfUp h = false → exec (.snoopSendAfterCredit half) s = .next s)
       ∧ (waits = none → exec (.dirAllocRetry slice cyc) s = .next s)
       ∧ (∀ w, waits = some t → s.txn t.id = some t → t.waitBack = false → t.performed = false → t.half ≠ none → t.gone = false →
         (s.takeSlot 0 slice cyc Cls.sf 1).isSome = true →
         s.chooseDir (dsetOf (t.line * 128)) cyc = some (w, none) → Does (.dirAllocRetry slice cyc) s fun u =>
           u.txn t.id = some { t with needWay := false, dirWay := some w } ∧ u.home.dir = s.home.dir
           ∧ u.obj Obj.dirAllocWaits = satAdd32 (s.obj Obj.dirAllocWaits) 1))

/-- R218, R230, R231, R233: a snoop, a crossing eviction or a CompAck that has not come within its limit is counted and raises
its event, and the half that did not answer departs by a reset of its link where that is up; before the limit nothing happens.
The outcome for the transaction is stated here for an invalidating snoop of a holder whose copy is not needed (Table 5.5): the
holder's bit clears and the snoop is over. Where the condition of a row is not met nothing happens (the model's choice, log
entry 23). An eviction that has joined is completed with its snoop as log entry 121 reads the spec, and when a forward has
passed is log entry 149; neither arises here. R82, R237, R239, R320: while a departure sweep runs, a slice sweeps its sets in
turn in its Maintenance slots; a half whose sweep has ended in every slice leaves DEPARTED_MASK, and the last one to leave
ends the sweep with its event. That the sweep's work carries group 0x02 is the model's reading (log entry 129). Where the
condition of a row is not met nothing happens (the model's choice, log entry 23). -/
def Obligations.TimeoutsAndDepartures : Prop :=
  (∀ (s : State) (htid : BitVec 13) (half : Fin 32) (t : Txn) (x : Snp),
     let h := half.val
     let ends : Instr → (State → Prop) → Prop := fun i P =>
       Does i s fun u => ∃ v, P v ∧ u = if (s.link h).state.linked then v.resetLink h else v
     let plain := t.snoops = [x] ∧ x.half = h ∧ x.op = 4 ∧ x.role = 1 ∧ x.passed = false ∧ x.joined = none ∧ t.pend = false ∧ t.todo = .nothing
       ∧ t.performed = false ∧ t.half ≠ none ∧ t.gone = false
     let ended : State → Prop := fun v =>
       v.txn t.id = some { t.clearBit h with snoops := [{ x with retired := true }] } ∧ v.tiers = s.tiers ∧ v.ports = s.ports
       ∧ v.home.dir = s.home.dir ∧ v.mem = s.mem
     s.byHtid htid = some t → s.txn t.id = some t →
     (plain → x.answer = none → x.retired = false → x.at_ + s.eff Obj.snoopTimeout ≤ s.now →
       ends (.snoopTimeout htid half) fun v =>
         v.obj Obj.snoopTimeouts = satAdd32 (s.obj Obj.snoopTimeouts) 1 ∧ Raised s v 0xC2 ∧ ended v)
     ∧ ((∀ x ∈ t.snoops, s.now < x.at_ + s.eff Obj.snoopTimeout) → exec (.snoopTimeout htid half) s = .next s)
     ∧ (∀ a, plain → x.answer = some .crossing → x.crossedAt = some a → x.retired = false →
       a + s.eff Obj.crossingTimeout ≤ s.now → ends (.crossingTimeout htid half) fun v =>
         v.obj Obj.crossingTimeouts = satAdd32 (s.obj Obj.crossingTimeouts) 1
         ∧ v.obj Obj.snoopTimeouts = s.obj Obj.snoopTimeouts ∧ Raised s v 0xC2 ∧ ended v)
     ∧ ((∀ x ∈ t.snoops, x.half = h → ∀ a, x.crossedAt = some a → s.now < a + s.eff Obj.crossingTimeout) →
       exec (.crossingTimeout htid half) s = .next s)
     ∧ (∀ a, t.ackAt = some a → t.needAck = true → t.acked = false → a + s.eff Obj.compackTimeout ≤ s.now →
       s.obj Obj.departedMask = 0 → Does (.compAckTimeout htid) s fun u =>
         u.obj Obj.compackTimeouts = satAdd32 (s.obj Obj.compackTimeouts) 1 ∧ Raised s u 0xC2 ∧ u.ports.links = s.ports.links
         ∧ (∀ y, u.txn t.id = some y → y.acked = true ∧ y.ackRetired = true))
     ∧ (t.ackAt = none ∨ t.acked = true ∨ (∀ a, t.ackAt = some a → s.now < a + s.eff Obj.compackTimeout) →
       exec (.compAckTimeout htid) s = .next s))
  ∧ (∀ (s : State) (slice : Fin 16) (cyc : Fin 64) (h : Nat),
       let next := Assoc.getD s.home.sweepNext slice.val 0
       let i : Instr := .departureSweepSet slice cyc
       ((s.obj Obj.sweepStatus).toNat = 0 ∨ s.takeSlot 0 slice cyc Cls.mt 2 = none → exec i s = .next s)
       ∧ ((s.obj Obj.sweepStatus).toNat ≠ 0 → (s.takeSlot 0 slice cyc Cls.mt 2).isSome = true → (∀ w, w < 16 → s.dirEnt (slice.val * 16384 + next) w = none) → h < 32 →
         (s.link h).state ≠ .held → s.obj Obj.departedMask = (1 : Reg) <<< h →
         (∀ n, 1 < n → s.home.sweepLeft = [(h * 16 + slice.val, n)] → Does i s fun u =>
           Assoc.getD u.home.sweepNext slice.val 0 = (next + 1) % 16384 ∧ u.home.sweepLeft = [(h * 16 + slice.val, n - 1)]
           ∧ u.obj Obj.departedMask = s.obj Obj.departedMask ∧ u.home.dir = s.home.dir ∧ u.tiers = s.tiers)
         ∧ (s.home.sweepLeft = [(h * 16 + slice.val, 1)] → Does i s fun u =>
           u.home.sweepLeft = [] ∧ u.obj Obj.departedMask = 0 ∧ u.obj Obj.sweepStatus = 0 ∧ Raised s u 0xC6)))

/-- R465, R468, R479: an event of a source sets its IRQ_STATUS bit where its configuration says so; an idle normal source is
Pending and an Active one notes the rearm; a source number that the device does not have has no event. A number without a
source does nothing (the model's choice, log entry 23). R481, R484 to R486: the record of a source configured for an alarm
ring with room takes the next ALARM_SEQ and stands last in the ring with its words; an occurrence that repeats one unread is
coalesced into its COUNT. -/
def Obligations.SourcesAndRecords : Prop :=
  (∀ (s : State) (n : BitVec 10) (data : List Reg),
     let only : State → Prop := fun t => WroteRaised s t ∧ ∀ k, k / 256 < 0x8000 → t.obj k = s.obj k
     let defined := n.toNat ≤ 0xC6 ∨ (0x100 ≤ n.toNat ∧ n.toNat ≤ 0x2FF)
     let fast := (s.srcConfig n.toNat).testBit 30
     (s.eventsOn = true → defined → Does (.sourceEvent n data false) s fun t =>
       ((s.srcConfig n.toNat).testBit 9 = true →
         (t.obj (Obj.irqStatus + n.toNat / 64)).toNat.testBit (n.toNat % 64) = true)
       ∧ (fast = false → (s.source n.toNat).st = .idle → (t.source n.toNat).st = .pending)
       ∧ (fast = false → (s.source n.toNat).st = .active → (t.source n.toNat).st = .active ∧ (t.source n.toNat).rearm = true)
       ∧ (fast = true → (Assoc.getD t.irq.fast (bitsOf (s.srcConfig n.toNat) 28 24) 0).testBit 0 = true) ∧ only t)
     ∧ (¬ defined → exec (.sourceEvent n data false) s = .next s))
  ∧ (∀ (s : State) (n : BitVec 10) (d : Reg), s.eventsOn = true → alarmSource n.toNat = true → n.toNat ≤ 0xC6 →
       interruptOnly n.toNat = false →
       let r := bitsOf (s.srcConfig n.toNat) 5 0
       let x := s.ring r
       r < 4 → s.irq.latches = [] →
       ((∀ y ∈ x.records, y.source ≠ n.toNat) → 3 ≤ x.room → Does (.sourceEvent n [d] false) s fun t =>
         (t.ring r).records = x.records ++ [{ source := n.toNat, count := 1, stride := s.now, words := [d], seq := s.bridle.alarmSeq }]
         ∧ (t.ring r).wptr = (x.wptr + 3) % 4096 ∧ t.bridle.alarmSeq = s.bridle.alarmSeq + 1
         ∧ t.bridle.alarms.length = s.bridle.alarms.length + 1)
       ∧ (∀ y, x.records = [y] → y.source = n.toNat → y.words = [d] → y.read = 0 → Does (.sourceEvent n [d] false) s fun t =>
         (t.ring r).records = [{ y with count := min (y.count + 1) 65535 }] ∧ t.bridle.alarmSeq = s.bridle.alarmSeq
         ∧ t.obj (arrIx Obj.ringCoalesced r) = satAdd32 (s.obj (arrIx Obj.ringCoalesced r)) 1))

/-- R468, R473 to R475: while the H2C holds an MGT credit of an up link, the oldest message for its half is placed, IntWake
for a core that masks or sleeps and IntDeliver else, and a normal source becomes Active at its target; a normal message whose
source has ENABLE clear is withdrawn instead. Without a message, a credit or an up link nothing is sent. Where the condition
of a row is not met nothing happens (the model's choice, log entry 23). The order of the messages and a message withdrawn are
as in log entries 85 and 86. R468, R469, R472: IntDone ends an Active source, Pending again where it was rearmed or its level
stands, and counts one that matches none; PrioReport is kept for its core. A message from a half that is not up changes
nothing (the model's choice, log entry 102). -/
def Obligations.InterruptMessages : Prop :=
  (∀ (s : State) (half : Fin 32) (m : IrqMsg) (more : List IrqMsg),
     let l := s.link half.val
     let mine := s.irq.outbox.filter fun m => m.half == half.val
     let up := (l.state = .active ∨ l.state = .quiescing) ∧ 0 < l.mgtCredit
     let placed : State → Prop := fun t =>
       t.irq.outbox = dropFirst (fun o => o == m) s.irq.outbox
       ∧ t.sent = s.sent ++ [.mgt half.val (if m.wake then 0x11 else 0x10)
           (BitVec.ofNat 42 (m.core * 2 ^ 34 + m.source * 2 ^ 24 + m.vector * 2 ^ 16 + if m.fast then 2 ^ 15 else 0))]
       ∧ (t.link half.val).mgtCredit = l.mgtCredit - 1
       ∧ (m.wake = true → t.obj Obj.wakes = satAdd32 (s.obj Obj.wakes) 1)
       ∧ (m.wake = false → t.obj Obj.deliveries = satAdd32 (s.obj Obj.deliveries) 1)
       ∧ t.tiers = s.tiers ∧ t.home = s.home ∧ t.mem = s.mem ∧ t.gait = s.gait
     (mine = [] ∨ ¬ up → exec (.interruptSend half) s = .next s)
     ∧ (mine = m :: more → up → m.fast = false → (s.srcConfig m.source).testBit 31 = true →
       Does (.interruptSend half) s fun t =>
         placed t ∧ (t.source m.source).st = .active ∧ (t.source m.source).target = some (half.val, m.core)
         ∧ ∀ n, n ≠ m.source → t.source n = s.source n)
     ∧ (mine = m :: more → up → m.fast = true → Does (.interruptSend half) s fun t =>
         placed t ∧ ∀ n, t.source n = s.source n)
     ∧ (mine = [m] → up → m.fast = false → (s.srcConfig m.source).testBit 31 = false → (s.source m.source).st = .pending →
       Does (.interruptSend half) s fun t =>
         t.irq.outbox = dropFirst (fun o => o == m) s.irq.outbox ∧ (t.source m.source).st = .pending
         ∧ (t.source m.source).target = none ∧ t = s.withIrq t.irq))
  ∧ (∀ (s : State) (half : Fin 32) (core : BitVec 8) (n : BitVec 10) (prio : BitVec 4) (masked asleep : Bool),
       (s.halfUp half.val = false → exec (.intDone half core n) s = .next s
         ∧ exec (.prioReport half core prio masked asleep) s = .next s)
       ∧ (s.halfUp half.val = true →
       let x := s.source n.toNat
       let only : State → Prop := fun t => WroteOnly ((s.withIrq t.irq).withPorts t.ports) t
         ∧ (t.link half.val).mgtReturn = (s.link half.val).mgtReturn + 1
       ((s.srcConfig n.toNat).testBit 30 = false → x.st = .active → x.target = some (half.val, core.toNat) →
         Does (.intDone half core n) s fun t =>
           t.source n.toNat = { x with st := if x.rearm || (x.level && s.levelSource n.toNat) then .pending else .idle, rearm := false, target := none, counted := false }
           ∧ (∀ j, j ≠ n.toNat → t.source j = s.source j) ∧ (∀ k, t.obj k = s.obj k) ∧ only t)
       ∧ ((s.srcConfig n.toNat).testBit 30 = true → Does (.intDone half core n) s fun t =>
           (∀ j, t.source j = s.source j) ∧ (∀ k, t.obj k = s.obj k) ∧ only t)
       ∧ ((s.srcConfig n.toNat).testBit 30 = false → x.st ≠ .active ∨ x.target ≠ some (half.val, core.toNat) →
         Does (.intDone half core n) s fun t => t.obj Obj.unmatchedDone = satAdd32 (s.obj Obj.unmatchedDone) 1
           ∧ (∀ j, t.source j = s.source j) ∧ only t)
       ∧ (core.toNat ≤ (s.link half.val).cores → Does (.prioReport half core prio masked asleep) s fun t =>
           t.coreReport half.val core.toNat = (prio.toNat, masked, asleep) ∧ (∀ k, t.obj k = s.obj k) ∧ only t)
       ∧ ((s.link half.val).cores < core.toNat → Does (.prioReport half core prio masked asleep) s fun t =>
           t.irq = s.irq ∧ t.obj Obj.prioErrors = satAdd32 (s.obj Obj.prioErrors) 1 ∧ only t)))

/-- R479, R480: a ball that has stood at its other level for the filter's samples is taken, and asserted under its polarity
has source 0x040 plus its number's event, but for a level that it had already when a write restarted its filter (log entry
152); a write of IRQ_STATUS clears the bits that are ones. Where the condition of a row is not met nothing happens (the
model's choice, log entry 23). R482 and SW_RAISE (Table 12.8): a LIVE read of RING_READ by a level that may clear it returns
the oldest word and moves past it, and other views leave the ring; a raise by software is an event of the source named. What
the record of a raise holds is the model's reading (log entry 83). -/
def Obligations.EventBallsAndRings : Prop :=
  (∀ (s : State) (ball : Fin 16) (level : Bool) (samples : Nat) (lvl : Level) (k : Fin 16) (v : Reg),
     (s.irq.events.getLsbD ball.val ≠ level → s.eff (Obj.eventInFilter + ball.val) ≤ samples → s.levelSource (0x40 + ball.val) = false →
       s.stoodAtRestart ball.val samples = false →
       Does (.eventInChange ball level samples) s fun t =>
         t.irq.events = (if level then s.irq.events ||| (1 : BitVec 16) <<< ball.val else s.irq.events &&& ~~~ ((1 : BitVec 16) <<< ball.val))
         ∧ (level = (s.eff Obj.eventInPolarity).testBit ball.val → Raised s t (0x40 + ball.val))
         ∧ (level ≠ (s.eff Obj.eventInPolarity).testBit ball.val → t = s.withIrq { s.irq with events := t.irq.events })
         ∧ WroteRaised s t)
     ∧ (s.irq.events.getLsbD ball.val ≠ level → s.levelSource (0x40 + ball.val) = false → s.stoodAtRestart ball.val samples = true →
       Does (.eventInChange ball level samples) s fun t =>
         t.irq.events = (if level then s.irq.events ||| (1 : BitVec 16) <<< ball.val else s.irq.events &&& ~~~ ((1 : BitVec 16) <<< ball.val))
         ∧ t = s.withIrq { s.irq with events := t.irq.events })
     ∧ (s.irq.events.getLsbD ball.val = level
         ∨ s.stoodAtRestart ball.val samples = false ∧ samples < s.eff (Obj.eventInFilter + ball.val) →
       exec (.eventInChange ball level samples) s = .next s)
     ∧ (s.accepts lvl (Obj.irqStatus + k) v.toNat = true → Does (.irqStatusClear lvl k v) s fun t =>
         t.obj (Obj.irqStatus + k) = s.obj (Obj.irqStatus + k) &&& ~~~ v
         ∧ (∀ j, j ≠ Obj.irqStatus + k → t.obj j = s.obj j) ∧ Answered t lvl (Obj.irqStatus + k) 0 ∧ WroteOnly s t))
  ∧ (∀ (s : State) (lvl : Level) (ring : Fin 64) (v : Reg) (y : Record) (ys : List Record),
       let k := arrIx Obj.ringRead ring
       let x := s.ring ring.val
       (s.modes.mode = .normal → x.records = y :: ys → x.summarising = false → s.irq.latches = [] →
         (∃ r, objRow k = some r ∧ r.acc lvl = .rc) → lvl ≠ .jtag →
         (Does (.ringRead lvl ring .live) s fun t =>
           t.sent.getLast? = some (.answer lvl k 0 (y.word y.read))
           ∧ (t.ring ring.val).records = (if y.read + 1 < y.len then { y with read := y.read + 1 } :: ys else ys)
           ∧ (t.ring ring.val).rptr = (x.rptr + 1) % 4096 ∧ (∀ j, t.obj j = s.obj j))
         ∧ Does (.ringRead lvl ring .peek) s fun t => t = s.answer lvl k 0 (y.word y.read))
       ∧ (s.accepts lvl Obj.swRaise v.toNat = true → s.levelSource (v.toNat % 1024) = false →
         Does (.swRaise lvl v) s fun t => Raised s t (v.toNat % 1024) ∧ Answered t lvl Obj.swRaise 0 ∧ WroteRaised s t))

/-- R282, R283, R287, R288, R323: receiver detection and training. TRAIN starts where an aligned group of four lanes has
receivers; each block time sends one block on every lane; a step ends after eight identical good blocks in a row on the lanes
chosen and sixteen of the H2C's own; the last step ends in CAPABILITY, at 64 GT/s where every lane offers it and has completed
equalization; a bad block starts the count again; training blocks to a link that is up, and offers to one in CAPABILITY, reset
it; and each limit of Table 7.3 passed returns to DETECT, the third time in a row to FAILED. The steps are stated for an
unsplit port with all its lanes. Where the condition of a row is not met nothing happens (the model's choice, log entry 23).
When 64 GT/s is taken, what tells an agent's restart of training, and the PRESET byte and lane numbers of the H2C's own blocks
are the model's readings and choices (log entries 46, 123, 145 and 146). R240, R290 to R292, R310: each flit time of the
capability exchange sends a flit of the H2C's own. The exchange ends on the second identical good flit once sixteen have been
sent: the link is ACTIVE with the credits that the flit offers, or INCOMPATIBLE with its reason, here of an unsplit port at
sixteen lanes. One flit sent for each received is the model's choice (log entry 47). -/
def Obligations.LinkBringUp : Prop :=
  (∀ (s : State) (half : Fin 32) (lanes eq : BitVec 16) (blocks : List (BitVec 128)),
     let h := half.val
     let l := s.link h
     let i : Instr := .trainingBlock half blocks eq
     let whole := l.state = .train ∧ s.isSplit h = false ∧ l.lanes = 0xFFFF ∧ l.step ≠ 0
     let sends : State → Prop := fun t =>
       t.sent = s.sent ++ (List.range 16).map fun n => .training h n (trainBlock l.step n false)
     let done := (blocks.all fun b => blockGood b && blockByte b 1 == l.step) = true ∧ blocks.length = 16 ∧ l.last = blocks ∧ 7 ≤ l.run
       ∧ 15 ≤ l.stepSent
     (l.state = .detect → s.chooseWidth h lanes.toNat ≠ none → Does (.receiverDetect half lanes) s fun t =>
       (t.link h).state = .train ∧ (t.link h).step = 1 ∧ (t.link h).lanes = lanes ∧ (t.link h).begun = s.now
       ∧ Raised s t (0x90 + h) ∧ WroteRaised (s.withPorts t.ports) t)
     ∧ (s.chooseWidth h lanes.toNat = none ∨ l.state ≠ .detect → exec (.receiverDetect half lanes) s = .next s)
     ∧ (whole → done → l.step < 6 → Does i s fun t =>
         t.link h = { l with step := l.step + 1, run := 0, stepSent := 0, last := [] } ∧ sends t
         ∧ t = { s with ports := { s.ports with links := t.ports.links }, sent := t.sent })
     ∧ (whole → done → l.step = 6 → Does i s fun t =>
         (t.link h).state = .capability ∧ (t.link h).width = 16 ∧ Raised s t (0x90 + h) ∧ sends t
         ∧ (t.link h).rate = if (blocks.all fun b => (blockByte b 4).testBit 1) ∧ eq = 0xFFFF then 2 else 1)
     ∧ (whole → (blocks.all fun b => !blockGood b) = true → Does i s fun t =>
         t.link h = { l with run := 0, stepSent := l.stepSent + 1, last := [] } ∧ sends t
         ∧ t = { s with ports := { s.ports with links := t.ports.links }, sent := t.sent })
     ∧ (l.state = .active ∨ l.state = .held ∨ l.state = .quiescing → exec i s = .next (s.resetLink h))
     ∧ (l.state = .capability → s.isSplit h = false →
       (∀ n b, n < 16 → l.lanes.getLsbD n = true → blocks[n]? = some b → blockGood b = true → blockByte b 1 = 1 →
         exec i s = .next (s.resetLink h))
       ∧ ((∀ b ∈ blocks, blockGood b = true → blockByte b 1 ≠ 1) → exec i s = .next s))
     ∧ (l.state = .train → l.begun + 1000000 < s.now → Does (.trainingTimeout half) s fun t =>
         (t.link h).state = (if 2 ≤ l.returns then .failed else .detect) ∧ (t.link h).returns = l.returns + 1
         ∧ Raised s t (0x90 + h))
     ∧ (l.state = .capability → l.begun + 31250 < s.now → Does (.trainingTimeout half) s fun t =>
         (t.link h).state = (if 2 ≤ l.returns then .failed else .detect) ∧ (t.link h).returns = l.returns + 1
         ∧ Raised s t (0x90 + h))
     ∧ (l.state = .train → s.now ≤ l.begun + 1000000 → exec (.trainingTimeout half) s = .next s))
  ∧ (∀ (s : State) (half : Fin 32) (fec : Fec) (f : BitVec 2000),
       let h := half.val
       let l := s.link h
       let snp := flitNum f 18 2
       let mgt := flitNum f 20 1
       l.state = .capability → flitGood fec f = true → flitByte f 1 / 64 = 1 → flitNum f 2 4 = 0x434C434D →
       (l.capRun = 0 → l.capab = none → 0 < l.capSent → l.capSent < 15 → Does (.capabilityFlit half fec f) s fun t =>
         t.link h = { l with capSent := l.capSent + 1, capRun := 1, capab := some f, scramble := (t.link h).scramble }
         ∧ t.sent.length = s.sent.length + 1 ∧ t.sent.take s.sent.length = s.sent
         ∧ t.obj (Obj.fecCorrections + h * 256) = (if fec = .corrected then satAdd32 (s.obj (Obj.fecCorrections + h * 256)) 1
             else s.obj (Obj.fecCorrections + h * 256))
         ∧ t.home = s.home ∧ t.tiers = s.tiers ∧ t.mem = s.mem ∧ ObjsKept s t [Obj.fecCorrections + h * 256])
       ∧ (l.capab = some f → l.capRun = 1 → 15 ≤ l.capSent → l.width = 16 → s.isSplit h = false →
         (s.obj Obj.departedMask).getLsbD h = false → flitNum f 7 1 = 0 → flitNum f 6 1 = 7 → 32 ≤ snp → 4 ≤ mgt →
         Does (.capabilityFlit half fec f) s fun t =>
           (t.link h).state = .active ∧ (t.link h).revision = 0x20 ∧ (t.link h).snpCredit = snp ∧ (t.link h).mgtCredit = mgt
           ∧ (t.link h).reqCredit = 2048 ∧ (t.link h).datCredit = 512 ∧ (t.link h).cores = flitNum f 21 1
           ∧ (t.link h).reason = 0 ∧ (t.link h).committed = 0x3FF ∧ Raised s t (0x90 + h))
       ∧ (l.capab = some f → l.capRun = 1 → 15 ≤ l.capSent → l.width = 16 → s.isSplit h = false → flitNum f 6 1 = 7 → snp < 32 →
         Does (.capabilityFlit half fec f) s fun t => (t.link h).state = .incompatible ∧ (t.link h).reason = 4
           ∧ Raised s t 0xBF))

/-- R295, R303, R304, R310, R395, Tables 7.9 and 7.10: a good flit in sequence commits, its ACKSEQ and the SNP and MGT credits
that both of its credit fields return taking effect with its messages: here with none, and with one message in any of its
slots, an agent's answer, a CompAck, or a request without data, which joins its Tether queue as committed in cycle 0 of the
stride (the model's choice, log entry 114). A bad one or one out of sequence is rewound, counted once and NAKed until the
replay starts; outside the link's up states flits do nothing (the model's choice, log entry 102). A good flit out of sequence
is rewound as log entry 111 reads the spec. R305, R309: a NAK is counted and the flits after its ACKSEQ are kept and resent,
or the link is retrained after REPLAY_LIMIT in a row; a wait for acknowledgement past a stride retrains it; and a retraining
that succeeds within its limit is counted and the link ACTIVE, one that fails or is late is FAILED. A NAK's resends are stated
where nothing is kept to resend. Where the condition of a row is not met nothing happens (the model's choice, log entry 23). A
NAK is counted as log entry 111 reads the spec. -/
def Obligations.FlitsAndReplay : Prop :=
  (∀ (s : State) (half : Fin 32) (fec : Fec) (f : BitVec 2000),
     let h := half.val
     let l := s.link h
     let c := flitControl f
     let htid : BitVec 128 → BitVec 13 := fun v => BitVec.ofNat 13 (slotField v 106 94)
     let good := l.state = .active ∧ flitGood fec f = true ∧ flitType f = 0 ∧ flitSeq f = l.committed + 1 ∧ l.held = []
       ∧ l.carry = none ∧ flitCont f = false ∧ c.getLsbD 117 = false ∧ slotField c 98 97 = 0 ∧ c.getLsbD 96 = false ∧ l.mgtWait = []
     let alone : Nat → BitVec 128 → Prop := fun i v => i < 14 ∧ flitSlot f i = v ∧ ∀ j, j < 14 → j ≠ i → flitSlot f j = 0
     let answers : List (Nat × Ans) := [(1, .i), (2, .s), (3, .fwdI), (4, .fwdS), (5, .fwdCur), (6, .crossing)]
     let back : Nat → Nat := fun chan => (if slotField c 116 108 / 64 = chan then slotField c 116 108 % 64 else 0)
       + (if slotField c 107 99 / 64 = chan then slotField c 107 99 % 64 else 0)
     let commits : State → Prop := fun t =>
       (t.link h).committed = flitSeq f ∧ (t.link h).snpCredit = l.snpCredit + back 2 ∧ (t.link h).mgtCredit = l.mgtCredit + back 4
       ∧ (t.link h).nak = false ∧ (t.link h).acked = laterSeq (BitVec.ofNat 10 (slotField c 127 118)) l.acked ∧ t.sent = s.sent
       ∧ t.tiers = s.tiers ∧ t.mem = s.mem
       ∧ t.obj (arrIx Obj.fecCorrections half) = (if fec = .corrected then satAdd32 (s.obj (arrIx Obj.fecCorrections half)) 1
           else s.obj (arrIx Obj.fecCorrections half))
     (l.state ≠ .active → l.state ≠ .quiescing → exec (.payloadFlit half fec f) s = .next s)
     ∧ (good → (∀ i, i < 14 → flitSlot f i = 0) → Does (.payloadFlit half fec f) s fun t =>
         commits t ∧ t.home = s.home ∧ t.ports = { s.ports with links := t.ports.links } ∧ ObjsKept s t [arrIx Obj.fecCorrections half])
     ∧ (∀ i v u a, good → alone i v → slotField v 127 125 = 3 → (slotField v 124 119, a) ∈ answers → s.byHtid (htid v) = some u →
       (∃ x ∈ u.snoops, x.half = h ∧ x.sent = true ∧ x.answer = none ∧ x.retired = false ∧ ansFits x.op a = true) →
       Does (.payloadFlit half fec f) s fun t =>
         commits t ∧ t.home = (s.updSnp u.id h fun x => { x with answer := some a }).home)
     ∧ (∀ i v u, good → alone i v → slotField v 127 125 = 3 → slotField v 124 119 = 7 → s.byHtid (htid v) = some u →
       u.half = some h → u.needAck = true → u.performed = true → u.acked = false → Does (.payloadFlit half fec f) s fun t =>
         commits t ∧ t.home = (s.updTxn u.id fun y => { y with acked := true }).home)
     ∧ (∀ i v, good → alone i v → slotField v 127 125 = 1 →
       let r := reqOfSlot v
       let q := h * 512 + r.stream.toNat
       hasData r.op = false → r.rpl = false → s.tagOpen h r.tag = false → s.inputError h r = none →
       (s.queue q).length + (s.refusedOf q).length < 64 → Does (.payloadFlit half fec f) s fun t =>
         commits t ∧ t.home.txns = s.home.txns
         ∧ t.queue q = (if r.op = Op.barrier then s.queue q else (s.queue q).map fun x => { x with after := x.after + 1 })
           ++ [{ id := s.home.nextId, req := r, entered := s.now, crossed := s.now * 64 - 8 }])
     ∧ (l.state = .active → l.nak = false → flitGood fec f = false ∨ (flitType f = 0 ∧ flitSeq f ≠ l.committed + 1 ∧ l.held = []) →
       Does (.payloadFlit half fec f) s fun t =>
         (t.link h).nak = true ∧ (t.link h).held = [] ∧ (t.link h).committed = l.committed
         ∧ t.obj (arrIx Obj.flitReplays half) = satAdd32 (s.obj (arrIx Obj.flitReplays half)) 1
         ∧ t.home = s.home ∧ t.sent = s.sent)
     ∧ (l.state = .active → l.nak = true → flitGood fec f = false → fec ≠ .corrected → exec (.payloadFlit half fec f) s = .next s))
  ∧ (∀ (s : State) (half : Fin 32) (ack : BitVec 10),
       let h := half.val
       let l := s.link h
       let replays := Obj.flitReplays + h * 256
       (s.halfUp h = true → l.nakSeq ≠ some ack → 1 < s.eff Obj.replayLimit → l.kept = [] → Does (.nakReplay half ack) s fun t =>
         t.link h = { l with naks := 1, nakSeq := some ack, acked := laterSeq ack l.acked }
         ∧ t.obj replays = satAdd32 (s.obj replays) 1 ∧ t.home = s.home ∧ ObjsKept s t [replays])
       ∧ (l.state = .active → l.nakSeq = some ack → s.eff Obj.replayLimit ≤ l.naks + 1 → Does (.nakReplay half ack) s fun t =>
         (t.link h).state = .retrain ∧ (t.link h).naks = 0 ∧ t.obj replays = satAdd32 (s.obj replays) 1 ∧ Raised s t (0x90 + h))
       ∧ (s.halfUp h = false → exec (.nakReplay half ack) s = .next s)
       ∧ (∀ n f more, l.state = .active → l.kept = (n, f) :: more → n + 1 < s.now → Does (.ackWaitExpiry half) s fun t =>
         t.link h = { l with state := .retrain, begun := s.now, suspended := some (s.now * 64) } ∧ Raised s t (0x90 + h)
         ∧ WroteRaised (s.withPorts t.ports) t)
       ∧ (l.kept = [] → exec (.ackWaitExpiry half) s = .next s)
       ∧ (l.state = .retrain → s.isSplit h = false → s.now ≤ l.begun + 125000 → Does (.retrainDone half true 16 2) s fun t =>
         (t.link h).state = .active ∧ (t.link h).width = 16 ∧ (t.link h).rate = 2 ∧ (t.link h).cmd = false
         ∧ t.obj (Obj.retrains + h * 256) = satAdd32 (s.obj (Obj.retrains + h * 256)) 1 ∧ t.home.dir = s.home.dir
         ∧ t.tiers = s.tiers ∧ t.mem = s.mem ∧ t.sent = s.sent)
       ∧ (l.state = .retrain → ∀ ok, ok = false ∨ l.begun + 125000 < s.now → Does (.retrainDone half ok 16 2) s fun t =>
         (t.link h).state = .failed ∧ (t.obj Obj.departedMask).getLsbD h = true)
       ∧ (l.state ≠ .retrain → ∀ ok w r, exec (.retrainDone half ok w r) s = .next s))

/-- R236, R281, R287, R323, R326: LINK_COMMAND resets, retrains or disables a port's links and is refused with STATE while a
retraining that it commanded runs; loss of signal for a microsecond resets a link; a link that was up departs. Where the
condition of a row is not met nothing happens (the model's choice, log entry 23). DISABLE of a link that is FAILED or
INCOMPATIBLE is log entry 144. R301, R310, R321, R322: planned removal. QuiesceReq on an ACTIVE link with the feature in force
starts QUIESCING and returns its MGT credit; without the feature it is discarded and counted; in Contained it is answered with
0x02; once nothing of the half is outstanding QuiesceAck goes out; past QUIESCE_TIMEOUT it goes out with the timeout, and the
link is ACTIVE again. The acks are stated where an MGT credit is held. Messages from a half that is not up, and events not
due, change nothing (the model's choice, log entries 23 and 102). -/
def Obligations.LinkCommands : Prop :=
  (∀ (s : State) (lvl : Level) (port : Fin 16) (half : Fin 32) (ns : Nat),
     let k := Obj.linkCommand + port.val * 256
     let h := 2 * port.val
     let l := s.link h
     let one := s.ports.split.toNat.testBit port.val = false
     let stays := (s.obj (Obj.portConfig + port.val * 256)).getLsbD 0 = false
     (s.accepts lvl k 1 = true → one → stays → l.cmd = false → Does (.linkReset lvl port) s fun t =>
       (t.link h).state = .detect ∧ (t.link h).snpCredit = 0 ∧ Answered t lvl k 0
       ∧ (l.state.linked = true → (t.obj Obj.departedMask).getLsbD h = true
           ∧ t.obj (Obj.linkDowns + h * 256) = satAdd32 (s.obj (Obj.linkDowns + h * 256)) 1))
     ∧ (s.accepts lvl k 2 = true → one → l.cmd = false → l.state = .active → Does (.linkRetrain lvl port) s fun t =>
       (t.link h).state = .retrain ∧ (t.link h).cmd = true ∧ t.home = s.home ∧ Answered t lvl k 0)
     ∧ (s.accepts lvl k 2 = true → one → l.cmd = true → Does (.linkRetrain lvl port) s fun t =>
       t.ports = s.ports ∧ Answered t lvl k Ref.state)
     ∧ (s.accepts lvl k 3 = true → one → l.cmd = false → Does (.linkDisable lvl port) s fun t =>
       (t.link h).state = .disabled ∧ Answered t lvl k 0
       ∧ (l.state.linked = true → (t.obj Obj.departedMask).getLsbD h = true))
     ∧ (let g := half.val
        let still := (s.obj (Obj.portConfig + g / 2 * 256)).getLsbD 0 = s.isSplit g
        ((s.link g).state = .active → still → s.usedHalf g = true → 1000 ≤ ns → Does (.lossOfSignal half ns) s fun t =>
           (t.link g).state = .detect ∧ (t.obj Obj.departedMask).getLsbD g = true)
        ∧ (ns < 1000 → exec (.lossOfSignal half ns) s = .next s)
        ∧ ((s.link g).state = .failed → ns < 1000000 → exec (.lossOfSignal half ns) s = .next s)))
  ∧ (∀ (s : State) (half : Fin 32),
       let h := half.val
       let l := s.link h
       (l.state = .active → l.features.getLsbD 3 = true → s.modes.mode ≠ .contained → Does (.quiesceReq half) s fun t =>
         (t.link h).state = .quiescing ∧ (t.link h).mgtReturn = l.mgtReturn + 1 ∧ (t.link h).quiesced = false
         ∧ (t.link h).begun = s.now ∧ t.sent = s.sent ∧ t.home = s.home)
       ∧ (l.state = .active → l.features.getLsbD 3 = true → s.modes.mode = .contained → 0 < l.mgtCredit →
         Does (.quiesceReq half) s fun t =>
           (t.link h).state = .active ∧ t.sent = s.sent ++ [.mgt h 2 2] ∧ (t.link h).mgtReturn = l.mgtReturn + 1)
       ∧ (s.halfUp h = true → l.features.getLsbD 3 = false → Does (.quiesceReq half) s fun t =>
         (t.link h).state = l.state ∧ t.obj (Obj.mgtDiscards + h * 256) = satAdd32 (s.obj (Obj.mgtDiscards + h * 256)) 1
         ∧ (t.link h).mgtReturn = l.mgtReturn + 1 ∧ t.home = s.home ∧ ObjsKept s t [Obj.mgtDiscards + h * 256])
       ∧ (s.halfUp h = false → exec (.quiesceReq half) s = .next s)
       ∧ (l.state = .quiescing → l.quiesced = false → s.halfQuiet h = true → 0 < l.mgtCredit → Does (.quiesceComplete half) s fun t =>
         (t.link h).quiesced = true ∧ t.sent = s.sent ++ [.mgt h 2 0] ∧ t.home = s.home ∧ (∀ k, t.obj k = s.obj k))
       ∧ (l.state ≠ .quiescing ∨ s.halfQuiet h = false → exec (.quiesceComplete half) s = .next s)
       ∧ (l.state = .quiescing → l.begun + s.eff Obj.quiesceTimeout < s.now → 0 < l.mgtCredit →
         Does (.quiesceTimeout half) s fun t => (t.link h).state = .active ∧ t.sent = s.sent ++ [.mgt h 2 1] ∧ t.home = s.home)
       ∧ (l.state ≠ .quiescing ∨ s.now ≤ l.begun + s.eff Obj.quiesceTimeout → exec (.quiesceTimeout half) s = .next s))

/-- R155, R156, R159: starting an operation of the maintenance engine, by range, by PARTID and by ways, and aborting it. That
the objects are read in force, and ABORT with nothing running, are the model's readings (log entries 53 and 55). R82, R155,
R157, Table 5.1: in a Maintenance slot of its line's slice the engine handles its next line where nothing holds the line, and
where something does it takes a place on the line's wait list and stays; an operation by sets passes a set without a line of
its own. Past the last one, once every line that it touched has entered its posted write buffer, the operation is done and
source 0x0B5 has its event. That the engine's work carries group 0x02 is the model's choice (log entry 129). Where the
condition of a row is not met nothing happens (the model's choice, log entry 23). The wait and the walk of sets are as log
entries 42 and 57 read the spec. R149, R245, R431: PART_APPLY is stored like any object and takes effect at the next boundary;
REGION_ATTR commits its entry, with the bounds that were held, or is refused with STATE where it is valid and its limit does
not rise above its base. A refused REGION_ATTR leaves the bounds held, and PART_APPLY 0x00 takes what is held, as log entries
58 and 124 read the spec. -/
def Obligations.Maintenance : Prop :=
  (∀ (s : State) (lvl : Level),
     (∀ c op, (c, op) ∈ [(1, MaintOp.cleanInvRange), (2, .cleanRange), (3, .cleanInvPartid), (4, .cleanInvWays)] →
       s.accepts lvl Obj.maintCommand c = true → s.tiers.maint = none →
       (op = .cleanInvRange ∨ op = .cleanRange → s.eff Obj.maintBase < s.eff Obj.maintLimit ∧ s.eff Obj.maintLimit ≤ 2 ^ 42) →
       let i : Instr := match op with
         | .cleanInvRange => .maintCleanInvalidateRange lvl
         | .cleanRange => .maintCleanRange lvl
         | .cleanInvPartid => .maintCleanInvalidatePartid lvl
         | .cleanInvWays => .maintCleanInvalidateWays lvl
       Does i s fun t => ∃ m, t.tiers = { s.tiers with maint := some m } ∧ m.op = op
         ∧ m.next = (if op = .cleanInvRange ∨ op = .cleanRange then s.eff Obj.maintBase / 128 else 0)
         ∧ t.obj Obj.maintStatus = 1 ∧ t.obj Obj.maintProgress = BitVec.ofNat 64 m.progress
         ∧ Answered t lvl Obj.maintCommand 0 ∧ WroteOnly (s.withTiers t.tiers) t)
     ∧ (s.accepts lvl Obj.maintCommand 1 = true → s.tiers.maint.isSome = true →
       Does (.maintCleanInvalidateRange lvl) s fun t =>
         t.obj Obj.maintRefusals = satAdd32 (s.obj Obj.maintRefusals) 1 ∧ t.tiers = s.tiers
         ∧ Answered t lvl Obj.maintCommand Ref.state ∧ WroteOnly s t)
     ∧ (s.accepts lvl Obj.maintCommand 5 = true → s.tiers.maint.isSome = true →
       Does (.maintAbort lvl) s fun t =>
         t.tiers = { s.tiers with maint := none } ∧ t.obj Obj.maintStatus = 3 ∧ Answered t lvl Obj.maintCommand 0
         ∧ t.home.dir = s.home.dir ∧ (∀ x ∈ t.home.txns, x.job ≠ some .maint)
         ∧ WroteRaised ((s.withTiers t.tiers).withHome t.home) t))
  ∧ (∀ (s : State) (m : Maint) (slice : Fin 16) (cyc : Fin 64), s.tiers.maint = some m →
       let i : Instr := .maintLine slice cyc
       let slot := s.takeSlot 0 slice cyc Cls.mt 2
       let served := m.slice = slice.val ∧ slot.isSome = true ∧ s.maintEnd m = false
       let range := m.op = .cleanInvRange ∨ m.op = .cleanRange
       (s.maintEnd m = true ∨ m.slice ≠ slice.val ∨ slot = none → exec i s = .next s)
       ∧ (served → range → s.inTransit m.next = false → s.lineHeld m.next 0 = false →
         (∀ x ∈ s.home.txns, x.job = some .maint → x.line ≠ m.next) → Does i s fun t =>
           t.tiers.maint = some { m with next := m.next + 1 } ∧ t.obj Obj.maintProgress = BitVec.ofNat 64 ((m.next + 1) * 128)
           ∧ t.modes = s.modes ∧ t.groom = s.groom ∧ t.sent = s.sent)
       ∧ (served → range → s.inTransit m.next = false → s.lineHeld m.next 0 = true →
         (∀ x ∈ s.home.txns, x.job = some .maint → x.line ≠ m.next) → Does i s fun t =>
           t.tiers = s.tiers ∧ t.mem = s.mem ∧ t.home.dir = s.home.dir ∧ t.sent = s.sent
           ∧ (∃ y ∈ t.home.txns, y.job = some .maint ∧ y.line = m.next ∧ y.phase = .waiting ∧ y.id = s.home.nextId)
           ∧ t.obj Obj.maintProgress = s.obj Obj.maintProgress)
       ∧ (served → ¬ range → s.maintLines m.op m.next = [] → (∀ x ∈ s.home.txns, x.job ≠ some .maint) → Does i s fun t =>
           t.tiers = { s.tiers with maint := some { m with next := m.next + 1 } }
           ∧ t.obj Obj.maintProgress = BitVec.ofNat 64 (m.next + 1)
           ∧ t.modes = s.modes ∧ t.groom = s.groom ∧ t.home = s.home ∧ t.mem = s.mem ∧ t.sent = s.sent)
       ∧ ((∃ e ∈ s.tiers.staging, e.kind = .placement) ∨ s.maintEnd m = false → exec .maintDone s = .next s)
       ∧ (s.maintEnd m = true → (∀ e ∈ s.tiers.staging, e.kind ≠ .placement) →
         Does .maintDone s fun t =>
           t.tiers = { s.tiers with maint := none } ∧ t.obj Obj.maintStatus = 2 ∧ Raised s t 0xB5
           ∧ t.home.dir = s.home.dir ∧ (∀ x ∈ t.home.txns, x.job ≠ some .maint)
           ∧ WroteRaised ((s.withTiers t.tiers).withHome t.home) t))
  ∧ (∀ (s : State) (lvl : Level) (n : Fin 64) (v : Reg),
       (s.accepts lvl Obj.partApply v.toNat = true →
         Does (.partApplyWrite lvl v) s fun t =>
           ∃ w, t.obj Obj.partApply = w ∧ t.dict.pending = s.dict.pending ++ [(Obj.partApply, w)] ∧ w.toNat = v.toNat % 256
           ∧ t.dict.eff = s.dict.eff ∧ Answered t lvl Obj.partApply 0)
       ∧ (s.accepts lvl (arrIx Obj.regionAttr n) v.toNat = true →
         (v.toNat.testBit 0 = true → s.obj (arrIx Obj.regionBase n) < s.obj (arrIx Obj.regionLimit n)) →
         Does (.regionAttrWrite lvl n v) s fun t =>
           ∃ w, t.obj (arrIx Obj.regionAttr n) = w ∧ t.dict.pending = s.dict.pending ++
             [(arrIx Obj.regionBase n, s.obj (arrIx Obj.regionBase n)), (arrIx Obj.regionLimit n, s.obj (arrIx Obj.regionLimit n)),
               (arrIx Obj.regionAttr n, w)]
           ∧ t.dict.eff = s.dict.eff ∧ Answered t lvl (arrIx Obj.regionAttr n) 0)
       ∧ (s.accepts lvl (arrIx Obj.regionAttr n) v.toNat = true → v.toNat.testBit 0 = true →
         s.obj (arrIx Obj.regionLimit n) ≤ s.obj (arrIx Obj.regionBase n) →
         Does (.regionAttrWrite lvl n v) s fun t =>
           Answered t lvl (arrIx Obj.regionAttr n) Ref.state ∧ t.dict.pending = s.dict.pending ∧ WroteOnly s t))

/-- R338, R339, R340, R348: a reported temperature is noted for its rank; an idle row closes once ROW_IDLE_CLOSE boundaries
have passed, its precharge counting from the boundary's cycle (the model's choice, log entry 118); a Refresh slot that is free
issues the refresh fixed for it, noted for the cycle at which it closes the rows of its banks. A slot with no refresh due is
left to its spill chain. Where the condition of a row is not met nothing happens (the model's choice, log entry 23). When a
refresh is fixed is the model's choice (log entry 59). R329, R330: the DDR5 population is written in Bring-up alone;
MEM_CONFIG_VALID starts the training of a population that Table 8.1 lists and reports the mismatch of another, and elsewhere
the write is refused with STATE. Which channels train is log entry 76. -/
def Obligations.RefreshAndPopulation : Prop :=
  (∀ (s : State),
     (∀ (ch : Fin 12) (rank : Fin 4) (hot : Bool),
       Does (.mr4TemperatureReport ch rank hot) s fun t =>
         (∀ k, Assoc.getD t.mem.hotRanks k false =
           if k = ch.val * 4 + rank.val then hot else Assoc.getD s.mem.hotRanks k false)
         ∧ t = s.withMem { s.mem with hotRanks := t.mem.hotRanks })
     ∧ (Does .rowIdleClose s fun t =>
         t = s.withMem { s.mem with openRows := t.mem.openRows, precharges := t.mem.precharges }
         ∧ t.mem.precharges = s.mem.precharges ++ (s.mem.openRows.filter fun x => decide (s.eff Obj.rowIdleClose ≤ x.2.2)).map
             (fun x => (x.1 / 128, s.now * 64, x.1 % 128))
         ∧ ∀ x, x ∈ t.mem.openRows ↔ x ∈ s.mem.openRows ∧ x.2.2 < s.eff Obj.rowIdleClose)
     ∧ (∀ (ch : Fin 12) (slot : Fin 16) (r bank : Nat) (u : State), s.refreshSlot 3 (2 * ch.val) s.now slot = true →
       s.mem.selfRefresh = false → s.booked 3 (2 * ch.val) s.now slot = false →
       (List.range 4).findSome? (fun r => (s.issuePlanned (ch.val * 4 + r) (s.now * 64 + 4 * slot.val)).map fun x => (r, x)) = some (r, bank, u) →
       Does (.ddr5RefreshIssue ch slot) s fun t =>
         t.mem.refresh = u.mem.refresh
         ∧ t.mem.openRows = s.mem.openRows
         ∧ t.mem.rowUses = s.mem.rowUses ++ [(s.now * 64 + 4 * slot.val, ch.val, .refresh r bank)]
         ∧ t.mem.dram = s.mem.dram ∧ t.mem.pwb = s.mem.pwb ∧ t.tiers = s.tiers ∧ t.home = s.home ∧ t.modes = s.modes)
     ∧ (∀ (port : Fin 18) (slot : Fin 32) (bank : Nat) (u : State), s.refreshSlot 2 port s.now slot = true →
       s.mem.selfRefresh = false → s.booked 2 port s.now slot = false →
       s.issuePlanned (64 + port.val) (s.now * 64 + 2 * slot.val) = some (bank, u) →
       Does (.huskRefreshIssue port slot) s fun t =>
         t.mem = u.mem ∧ t.tiers = s.tiers ∧ t.home = s.home ∧ t.modes = s.modes)
     ∧ (∀ (ch : Fin 12) (slot : Fin 16), s.refreshSlot 3 (2 * ch.val) s.now slot = false ∨ s.mem.selfRefresh = true ∨
         (∀ r, r < 4 → s.issuePlanned (ch.val * 4 + r) (s.now * 64 + 4 * slot.val) = none) →
         exec (.ddr5RefreshIssue ch slot) s = .next s)
     ∧ (∀ (port : Fin 18) (slot : Fin 32), s.refreshSlot 2 port s.now slot = false ∨ s.mem.selfRefresh = true ∨
         s.issuePlanned (64 + port.val) (s.now * 64 + 2 * slot.val) = none → exec (.huskRefreshIssue port slot) s = .next s))
  ∧ (∀ (s : State) (lvl : Level) (v : Reg), s.accepts lvl Obj.memConfigValid v.toNat = true →
       (s.modes.mode ≠ .bringup → Does (.memConfigValidWrite lvl v) s fun t =>
         Answered t lvl Obj.memConfigValid Ref.state ∧ WroteOnly s t ∧ t.dict.pending = s.dict.pending)
       ∧ (s.modes.mode = .bringup → v.toNat % 256 = 1 → s.stepDone 2 = true → s.stepDone 7 = false →
         Does (.memConfigValidWrite lvl v) s fun t =>
           t.obj Obj.memConfigValid = 1 ∧ t.stepDone 6 = true
           ∧ (∀ c, c < 12 → t.obj (Obj.chanState + c * 256) = if s.popSpeed.isSome then 1 else 4)
           ∧ Answered t lvl Obj.memConfigValid 0))

/-- R135, R341 to R343, R356: the oldest entry that a free slot serves is written to the DRAM under its KEYID's key in force
and leaves its buffer; an entry that waits for a place enters the unreserved pool when it has room (stated where no Device
request waits for it). That HULL_WRITEBACK acts where a Hull entry is the oldest work of the slot is the model's reading (log
entry 60). Where the condition of a row is not met nothing happens (the model's choice, log entry 23). -/
def Obligations.PostedWriteIssue : Prop :=
  ∀ (s : State) (ch : Fin 12) (slot : Fin 16),
    (s.demandReady ch slot = none → exec (.pwbDemandWriteIssue ch slot) s = .next s)
    ∧ (∀ e, s.demandReady ch slot = some e → s.writeSlot ch slot Cls.dw e.line = true →
      Does (.pwbDemandWriteIssue ch slot) s fun t =>
        (s.dramWrite e.line e.keyid.toNat e.data e.poison).mem.dram = t.mem.dram
        ∧ t.pwb ch = (s.pwb ch).filter (fun x => x.id != e.id) ∧ t.tiers = s.tiers ∧ t.home = s.home ∧ t.modes = s.modes)
    ∧ (∀ e, s.evictionReady ch slot = some e → s.writeSlot ch slot Cls.wb e.line = true →
      (∀ h, s.hullReady ch slot = some h → e.id < h.id) →
      Does (.pwbWritebackIssue ch slot) s fun t =>
        (s.dramWrite e.line e.keyid.toNat e.data e.poison).mem.dram = t.mem.dram
        ∧ t.pwb ch = (s.pwb ch).filter (fun x => x.id != e.id) ∧ t.tiers = s.tiers ∧ t.home = s.home ∧ t.modes = s.modes)
    ∧ (∀ h, s.hullReady ch slot = some h → (∀ e, s.evictionReady ch slot = some e → h.id < e.id) →
      s.writeSlot ch slot Cls.wb h.line = true → Does (.hullWriteback ch slot) s fun t =>
        (s.dramWrite h.line h.keyid.toNat (h.data.getD 0) h.poison).mem.dram = t.mem.dram
        ∧ t.tiers = { s.tiers with hull := s.tiers.hull.filter fun y => y.id != h.id } ∧ t.home = s.home
        ∧ t.mem.pwb = s.mem.pwb ∧ t.modes = s.modes)
    ∧ (s.hullReady ch slot = none → exec (.hullWriteback ch slot) s = .next s)
    ∧ (s.evictionReady ch slot = none → s.hullReady ch slot = none → exec (.pwbWritebackIssue ch slot) s = .next s)
    ∧ (∀ y, (s.tiers.staging.filter fun x => x.kind == .placement) = [y] → s.pwbUnreserved (chanOf (y.line * 128)) < 256 →
      (∀ x ∈ s.home.txns, x.held = true → x.line ≠ y.line) → Does .unreservedPlacementRetry s fun t =>
        t = (s.dropStaged y.id).enterPwb y.line y.keyid.toNat (y.data.getD 0) (y.st == .poisoned) false false false)

/-- R351, R352, R354, R355: draining a Husk port: START in the modes that allow it, ABORT before DRAINING, a slice's next
frame in a Maintenance slot (here one without a line of the port), and the exclusion of the port's ways once every frame is
done. The objects read in force, DRAIN_STATUS and ABORT with nothing running are the model's readings (log entries 53 to 55).
R352, R384: a drain of a Husk port ends five strides after DRAINING began with the port out of service and Degraded due;
Degraded is entered at a boundary after it came due at which the active gait lists it. Where the condition of a row is not met
nothing happens (the model's choice, log entry 23). That the row is sent at its boundary is log entry 135, and the word of its
event log entry 151. -/
def Obligations.HuskPorts : Prop :=
  (∀ (s : State) (lvl : Level),
     (s.accepts lvl Obj.drainCommand 1 = true → s.mem.drain = none →
       s.modes.mode = .normal ∨ s.modes.mode = .partitioned ∨ s.modes.mode = .degraded →
       s.portInService (s.eff Obj.drainPort) = true → 16 ≤ s.eff Obj.drainPort ∨ s.portsOut < 2 →
       Does (.drainStart lvl) s fun t =>
         t.mem = { s.mem with drain := some { port := s.eff Obj.drainPort } } ∧ t.obj Obj.drainStatus = 1
         ∧ t.obj Obj.drainProgress = 0 ∧ Answered t lvl Obj.drainCommand 0 ∧ WroteRaised (s.withMem t.mem) t)
     ∧ (s.accepts lvl Obj.drainCommand 1 = true →
       s.mem.drain.isSome = true ∨ s.modes.mode = .passThrough ∨ s.modes.mode = .drain ∨ s.portInService (s.eff Obj.drainPort) = false →
       Does (.drainStart lvl) s fun t =>
         t.mem = s.mem ∧ t.obj Obj.drainStatus = 5 ∧ Answered t lvl Obj.drainCommand Ref.state ∧ WroteRaised s t)
     ∧ (∀ d, s.accepts lvl Obj.drainCommand 2 = true → s.mem.drain = some d →
       (d.begun = none → Does (.drainAbort lvl) s fun t =>
         t.mem = { s.mem with drain := some { d with abort := true } } ∧ Answered t lvl Obj.drainCommand 0
         ∧ WroteOnly (s.withMem t.mem) t)
       ∧ (d.begun.isSome = true → Does (.drainAbort lvl) s fun t =>
         t.mem = s.mem ∧ Answered t lvl Obj.drainCommand Ref.state ∧ WroteOnly s t))
     ∧ (∀ d (sl : Fin 16) (cyc : Fin 64), (s.takeSlot 0 sl cyc Cls.mt 2).isSome = true → s.mem.drain = some d → d.abort = false → d.begun = none → s.modes.mode.service = true →
       s.portState d.port = 3 → d.port < 16 → Assoc.getD d.next sl 0 < 32768 →
       s.sector (sl.val * 32768 + Assoc.getD d.next sl 0) (wayOnPort (sl.val * 32768 + Assoc.getD d.next sl 0) d.port) = none →
       Does (.drainFrame sl cyc) s fun t =>
         t.mem = { s.mem with drain := some { d with next := Assoc.put sl (Assoc.getD d.next sl 0 + 1) d.next } }
         ∧ t.obj Obj.drainProgress = BitVec.ofNat 64 ((s.obj Obj.drainProgress).toNat + 1) ∧ t.tiers = s.tiers
         ∧ t.home = s.home ∧ t.modes = s.modes ∧ ObjsKept s t [Obj.drainProgress])
     ∧ (∀ d, s.mem.drain = some d → d.abort = false → d.begun = none → (∀ sl, sl < 16 → Assoc.getD d.next sl 0 = 32768) →
       s.obj Obj.drainStatus ≠ 2 → s.modes.mode.service = true → (∀ j ∈ drainPorts d.port, s.portState j = 3) →
       Does .drainingEntry s fun t =>
         t.mem = { s.mem with drain := some { d with begun := some s.now } } ∧ t.obj Obj.drainStatus = 2
         ∧ (∀ j ∈ drainPorts d.port, t.portState j = 4) ∧ t.tiers = s.tiers ∧ Raised s t 0xB6))
  ∧ (∀ (s : State) (d : Drain) (b : Nat),
       (s.mem.drain = some d → d.begun = some b → b + 5 ≤ s.now → d.port < 16 → s.portState d.port = 4 → s.modes.mode = .normal →
         s.gaitLists .degraded = false →
         Does .drained s fun t => t.mem.drain = none ∧ t.portState d.port = 5 ∧ t.obj Obj.drainStatus = 3
           ∧ t.obj Obj.degradePending = 1 ∧ t.modes = s.modes ∧ t.tiers = s.tiers ∧ Raised s t 0xB2)
       ∧ (s.mem.drain = some d → d.begun = some b → s.now < b + 5 → exec .drained s = .next s)
       ∧ (s.obj Obj.degradePending = 1 → s.rel.degradeAt < s.now → s.modes.mode = .normal → s.gaitLists .degraded = true →
         Does .degradedEntry s fun t => t.modes.mode = .degraded ∧ t.obj Obj.degradePending = 0
           ∧ t.obj Obj.modePrevious = 5 ∧ Raised s t 0xB1 ∧ t.tiers = s.tiers ∧ t.home = s.home)
       ∧ (s.obj Obj.degradePending = 0 ∨ s.gaitLists .degraded = false ∨ s.now ≤ s.rel.degradeAt → exec .degradedEntry s = .next s))

/-- R358, R359, R360: key material is appended eight bytes at a time; INSTALL takes the pair that the 64 bytes hold and
RANDOMISE a fresh one; the new pair comes into force once every entry of the KEYID that the command met has been issued. The
fresh pair is one that nothing else holds (log entry 4), and KEY_EFFECT is sent at a boundary (log entry 135). -/
def Obligations.KeyCommands : Prop :=
  ∀ (s : State) (lvl : Level) (v : Reg),
    (s.accepts lvl Obj.keyIndex v.toNat = true →
      Does (.keyIndexWrite lvl v) s fun t =>
        t.dict.pending = s.dict.pending ∧ t.mem = s.mem ∧ Answered t lvl Obj.keyIndex 0
        ∧ (∀ k, k ≠ Obj.keyIndex → t.obj k = s.obj k) ∧ WroteOnly s t
        ∧ (v.toNat < 1024 → t.obj Obj.keyIndex = v))
    ∧ (s.accepts lvl Obj.keyMaterial v.toNat = true →
      (s.mem.material.length < 8 → Does (.keyMaterialAppend lvl v) s fun t =>
        t.mem = { s.mem with material := s.mem.material ++ [v] } ∧ Answered t lvl Obj.keyMaterial 0
        ∧ WroteOnly (s.withMem t.mem) t)
      ∧ (8 ≤ s.mem.material.length → Does (.keyMaterialAppend lvl v) s fun t =>
        t.mem = s.mem ∧ Answered t lvl Obj.keyMaterial Ref.length ∧ WroteOnly s t))
    ∧ (s.accepts lvl Obj.keyCommand 1 = true → s.mem.keyPending = none →
      let a := keyBytes s.mem.material 0
      let b := keyBytes s.mem.material 4
      (8 ≤ s.mem.material.length → a ≠ b → Does (.keyInstall lvl) s fun t =>
        t.mem.keyPending = some ((s.obj Obj.keyIndex).toNat, .installed a b) ∧ t.mem.material = [] ∧ t.mem.keys = s.mem.keys
        ∧ t.obj Obj.keyStatus = 1 ∧ t.obj Obj.keyCommands = satAdd32 (s.obj Obj.keyCommands) 1
        ∧ Answered t lvl Obj.keyCommand 0 ∧ WroteOnly (s.withMem t.mem) t)
      ∧ (s.mem.material.length < 8 ∨ a = b → Does (.keyInstall lvl) s fun t =>
        t.mem = { s.mem with material := [] } ∧ t.obj Obj.keyStatus = 3 ∧ Answered t lvl Obj.keyCommand Ref.state
        ∧ Raised s t 0xB7 ∧ WroteRaised (s.withMem t.mem) t))
    ∧ (s.accepts lvl Obj.keyCommand 2 = true → s.mem.keyPending = none →
      Does (.keyRandomise lvl) s fun t =>
        t.mem.keyPending = some ((s.obj Obj.keyIndex).toNat, .random (s.mem.randoms + 1) (s.obj Obj.keyIndex).toNat)
        ∧ t.mem.material = [] ∧ t.mem.keys = s.mem.keys ∧ t.obj Obj.keyStatus = 1 ∧ Answered t lvl Obj.keyCommand 0
        ∧ WroteOnly (s.withMem t.mem) t)
    ∧ (∀ k p, s.mem.keyPending = some (k, p) → k < 1024 → (s.entriesOfKey k).any s.mem.keyAwaits.contains = false →
      Does .keyEffect s fun t =>
        t.mem = { s.mem with keys := Assoc.put k p s.mem.keys, keyPending := none, keyAwaits := [] }
        ∧ t.obj Obj.keyStatus = 2
        ∧ (t.obj (Obj.keyInstalled + k / 64)).toNat.testBit (k % 64) = (match p with | .installed _ _ => true | .random _ _ => false)
        ∧ Raised s t 0xB7 ∧ WroteRaised (s.withMem t.mem) t)

/-- R399, R400, R402: a mode request that passes the checks starts its transition with MODE_RESULT in progress; one that falls
in the stride of a Settle ends with RESET; one that fails a check is refused with STATE, its check in MODE_RESULT, and
counted. The check of the gait's modes is made as log entry 69 reads the spec. R400, R402: the checks in their order, over the
modes: the pair (3), Board alone for Keep and Test (4), the stride of a Settle (0x0C), a transition in progress (5), the
gait's modes (6), reduced capacity (7), DRAIN_DONE for Keep (8) and the strap ball TEST_EN, as it was sampled at cold reset,
for Test (9); a request that fails none has 0. Where the Settle's stride stands in the order is the model's choice (log entry
166). -/
def Obligations.ModeRequests : Prop :=
  (∀ (s : State) (lvl : Level) (i : Level → Instr) (m : Mode),
     (i, m) ∈ [(Instr.modeRequestKeep, Mode.keep), (.modeRequestPassThrough, .passThrough), (.modeRequestNormal, .normal),
       (.modeRequestPartitioned, .partitioned), (.modeRequestRest, .rest), (.modeRequestDrain, .drain),
       (.modeRequestDegraded, .degraded), (.modeRequestTest, .test)] →
     s.accepts lvl Obj.modeRequest m.code = true →
     (s.requestCheck lvl m = 0 → Does (i lvl) s fun t =>
       t.modes.trans = (match m with
         | .rest => some .restStop
         | .keep => some .keepStop
         | .test => none
         | m => if s.modes.mode = .rest then some (.restExit m) else some (.service m))
       ∧ t.modes.testWanted = (m == .test) ∧ t.modes.asked = true ∧ t.modes.begun = s.now ∧ t.modes.mode = s.modes.mode
       ∧ t.obj Obj.modeRequest = BitVec.ofNat 64 m.code ∧ t.obj Obj.modeResult = 1
       ∧ Answered t lvl Obj.modeRequest 0 ∧ WroteOnly (s.withModes t.modes) t)
     ∧ (s.requestCheck lvl m = 0xC → Does (i lvl) s fun t =>
       t.obj Obj.modeResult = 0xC ∧ t.obj Obj.modeRequest = BitVec.ofNat 64 m.code
       ∧ (∀ k, k ≠ Obj.modeResult → k ≠ Obj.modeRequest → t.obj k = s.obj k) ∧ Answered t lvl Obj.modeRequest 0 ∧ WroteOnly s t)
     ∧ (s.requestCheck lvl m ≠ 0 → s.requestCheck lvl m ≠ 0xC → Does (i lvl) s fun t =>
       t.obj Obj.modeResult = BitVec.ofNat 64 (s.requestCheck lvl m)
       ∧ t.obj Obj.modeRefusals = satAdd32 (s.obj Obj.modeRefusals) 1 ∧ Answered t lvl Obj.modeRequest Ref.state
       ∧ WroteOnly s t))
  ∧ (∀ (s : State) (lvl : Level) (m : Mode),
       let allowed := (s.modes.mode.service = true ∧ (m.service = true ∨ m = .rest)) ∨ (s.modes.mode = .rest ∧ m.service = true)
         ∨ (s.modes.mode = .drain ∧ m = .keep) ∨ (s.modes.mode = .bringup ∧ m = .test)
       (¬ allowed → s.requestCheck lvl m = 3)
       ∧ (allowed → (m = .keep ∨ m = .test) → lvl ≠ .board → s.requestCheck lvl m = 4)
       ∧ (allowed → (m = .keep ∨ m = .test → lvl = .board) →
         (s.modes.resetAt = some s.now → s.requestCheck lvl m = 0xC)
         ∧ (s.modes.resetAt ≠ some s.now → s.modes.trans ≠ none ∨ s.modes.settle ≠ 0 → s.requestCheck lvl m = 5)
         ∧ (s.modes.resetAt ≠ some s.now → s.inTransition = false →
           (m.service = true → s.gaitLists m = false → s.requestCheck lvl m = 6)
           ∧ (m.service = true → s.gaitLists m = true → m = .normal ∨ m = .partitioned → s.obj Obj.reduced = 1 →
               s.requestCheck lvl m = 7)
           ∧ (m = .degraded → s.gaitLists m = true → s.obj Obj.reduced = 0 → s.requestCheck lvl m = 7)
           ∧ (m = .keep → s.obj Obj.drainDone = 0 → s.requestCheck lvl m = 8)
           ∧ (m = .keep → s.obj Obj.drainDone ≠ 0 → s.requestCheck lvl m = 0)
           ∧ (m = .rest → s.requestCheck lvl m = 0)
           ∧ (m.service = true → s.gaitLists m = true → (m = .normal ∨ m = .partitioned → s.obj Obj.reduced ≠ 1) →
               (m = .degraded → s.obj Obj.reduced ≠ 0) → s.requestCheck lvl m = 0)
           ∧ (m = .test → s.pkg.sampled.getLsbD 26 = false → s.requestCheck lvl m = 9)
           ∧ (m = .test → s.pkg.sampled.getLsbD 26 = true → s.requestCheck lvl m = 0))))

/-- R95, R401, R402: a requested service mode takes effect at a boundary after the request, with MODE_PREVIOUS,
MODE_ENTRY_STRIDE, MODE_RESULT and source 0x0B1's event; a committed swap or a fatal fault holds it, and a gait that no longer
lists the mode ends it. Where the condition of a row is not met nothing happens (the model's choice, log entry 23). The second
check of the gait's modes and the modes of a restored entry are the model's readings (log entries 69 and 115). R403 to R405:
Rest is entered once every open transaction has ended (work that only waits on a line, the home's own, is none), with the
stores in self-refresh; its stop phase that lasts past STOP_LIMIT ends the request; and on the way out the stores leave
self-refresh. A fatal fault goes before both. Where the condition of a row is not met nothing happens (the model's choice, log
entry 23). An entry to Rest keeps the mode to return to as log entry 115 reads the spec. -/
def Obligations.ModeTransitions : Prop :=
  (∀ (s : State) (m : Mode), s.modes.trans = some (.service m) →
     (s.modes.begun < s.now → s.swapCommitted = false → s.rel.fatal = [] → s.gaitLists m = true →
       Does .modeTransition s fun t =>
         t.modes.mode = m ∧ t.modes.trans = none ∧ t.obj Obj.modePrevious = BitVec.ofNat 64 s.modes.mode.code
         ∧ t.obj Obj.modeEntryStride = s.time.stride ∧ (s.modes.asked = true → t.obj Obj.modeResult = 2)
         ∧ t.ports.monitors = [] ∧ Raised s t 0xB1 ∧ WroteRaised ((s.withModes t.modes).withPorts t.ports) t)
     ∧ (s.modes.begun < s.now → s.swapCommitted = false → s.rel.fatal = [] → s.gaitLists m = false →
       Does .modeTransition s fun t => t.modes.mode = s.modes.mode ∧ t.modes.trans = none
         ∧ (s.modes.asked = true → t.obj Obj.modeResult = 6)
         ∧ t.obj Obj.modeRefusals = satAdd32 (s.obj Obj.modeRefusals) 1 ∧ WroteOnly (s.withModes t.modes) t)
     ∧ (s.now ≤ s.modes.begun ∨ s.swapCommitted = true ∨ s.rel.fatal ≠ [] → exec .modeTransition s = .next s))
  ∧ (∀ (s : State) (m : Mode),
       (s.modes.trans = some .restStop → s.modes.begun < s.now → s.swapCommitted = false → s.quiet = true → s.rel.fatal = [] →
         Does .restEntryDone s fun t => t.modes.mode = .rest ∧ t.mem = { s.mem with selfRefresh := true }
           ∧ t.obj Obj.modePrevious = BitVec.ofNat 64 s.modes.mode.code ∧ Raised s t 0xB1)
       ∧ (s.modes.trans = some .restStop → s.quiet = false → exec .restEntryDone s = .next s)
       ∧ (s.modes.trans = some .restStop → s.modes.asked = true → s.quiet = false →
         s.modes.begun + 1 + s.eff Obj.stopLimit ≤ s.now →
         Does .stopLimitExpiry s fun t => t.modes.trans = none ∧ t.modes.mode = s.modes.mode ∧ t.obj Obj.modeResult = 0xA
           ∧ WroteOnly (s.withModes t.modes) t)
       ∧ (s.modes.trans = some .restStop → s.now < s.modes.begun + 1 + s.eff Obj.stopLimit →
         exec .stopLimitExpiry s = .next s)
       ∧ (s.modes.trans = some (.restExit m) → s.modes.begun < s.now → s.modes.mode = .rest → s.rel.fatal = [] →
         s.modes.settleWanted = false →
         Does .restExit s fun t => t.modes.mode = m ∧ t.mem = { s.mem with selfRefresh := false } ∧ t.modes.trans = none
           ∧ Raised s t 0xB1)
       ∧ (s.rel.fatal ≠ [] → (s.modes.trans = some .restStop → exec .restEntryDone s = .next s)
         ∧ (s.modes.trans = some (.restExit m) → exec .restExit s = .next s)))

/-- R95, R402, R411, R412, Table 10.4: a Settle begins its stop phase at once, or waits for a committed swap, ending a mode
request with 0x0C and freeing every lock; it goes from stop to Recall, drain and Bring-up as each is done. Where the condition
of a row is not met nothing happens (the model's choice, log entry 23). What a Settle in Bring-up does, the phases' ends and
the answers to dropped waiters are the model's choices and readings (log entries 70 to 72). R82, R407: in its Maintenance
slots the Drain walk passes a slice's sets in order, and a set with nothing owed changes nothing else: a Kernel set whose
lines are all Clean, and a Husk set without a sector. Outside Drain, past the last set or without a slot it stands still.
Where the condition of a row is not met nothing happens (the model's choice, log entry 23). The slots of a stride are served
together (the model's choice, log entry 71). -/
def Obligations.SettleAndDrain : Prop :=
  (∀ (s : State) (lvl : Level) (ns : Nat),
     let begins : Instr → (State → Prop) → Prop := fun i P => Does i s fun t =>
       (s.swapCommitted = false → t.modes.settle = 1 ∧ t.modes.settleSince = s.now ∧ t.modes.settleWanted = false
         ∧ t.rel.queue = [] ∧ t.rel.stopped = true)
       ∧ (s.swapCommitted = true → t.modes.settle = 0 ∧ t.modes.settleWanted = true)
       ∧ (s.modes.asked = true → t.obj Obj.modeResult = 0xC) ∧ t.modes.trans = none ∧ t.modes.mode = s.modes.mode
       ∧ (∀ a, (t.lock a).holder = none) ∧ t.tiers = s.tiers
       ∧ ((∀ x ∈ s.home.txns, x.job ≠ some .farrier) → t.home = s.home) ∧ P t
     (s.modes.mode.service = true → s.modes.settle = 0 → s.modes.settleWanted = false →
       (s.accepts lvl Obj.resetCommand 1 = true →
         begins (.settleCommand lvl) fun t => Answered t lvl Obj.resetCommand 0)
       ∧ (1000 ≤ ns → begins (.settleNAssert ns) fun t => t.modes.settleN = true))
     ∧ (ns < 1000 → exec (.settleNAssert ns) s = .next s)
     ∧ Does .settleNRelease s (fun t => t = s.withModes { s.modes with settleN := false })
     ∧ (s.modes.settle = 1 → s.modes.settleSince < s.now → s.quiet = true →
       Does .settleStopDone s fun t => t = s.withModes { s.modes with settle := 2, recallNext := [] })
     ∧ (s.modes.settle = 1 → s.quiet = false → exec .settleStopDone s = .next s)
     ∧ (s.modes.settle = 2 → s.recalled = true →
       Does .settleRecallDone s fun t => t = s.withModes { s.modes with settle := 3 })
     ∧ (s.modes.settle = 3 → s.rel.sweep = [] → Does .settleDrainDone s fun t =>
       t.modes.mode = .bringup ∧ t.modes.settle = 4 ∧ t.modes.steps = 2 ∧ t.modes.cold = false ∧ t.now = 0
       ∧ t.mem.selfRefresh = true ∧ t.tiers.ktags = [] ∧ t.tiers.sectors = [] ∧ t.tiers.hull = [] ∧ t.mem.pwb = []
       ∧ t.home.dir = [] ∧ t.home.txns = [] ∧ t.ports.queues = [] ∧ t.dict.holding = []
       ∧ t.rel.field = s.rel.field ∧ t.rel.retired = s.rel.retired ∧ t.groom.run = s.groom.run)
     ∧ (s.modes.settle ≠ 3 → exec .settleDrainDone s = .next s))
  ∧ (∀ (s : State) (sl : Fin 16) (cyc : Fin 64) (n : Nat), Assoc.getD s.modes.drainNext sl.val 0 = n →
       let slot := s.takeSlot 0 sl cyc Cls.mt 2
       let passes : Prop := Does (.drainWalkSet sl cyc) s fun t =>
         t.modes = { s.modes with drainNext := Assoc.put sl.val (n + 1) s.modes.drainNext } ∧ t.tiers = s.tiers ∧ t.mem = s.mem
         ∧ t.home = s.home ∧ t.ports = s.ports ∧ (∀ k, t.obj k = s.obj k) ∧ t.sent = s.sent
       (s.modes.mode = .drain → s.modes.drainWalk = true → slot.isSome = true → n < 8192 →
         (∀ w t, s.ktag (sl.val * 8192 + n) w = some t → t.st = .clean) → passes)
       ∧ (s.modes.mode = .drain → s.modes.drainWalk = true → slot.isSome = true → s.kernelOnly = false → 8192 ≤ n → n < 40960 →
         (∀ w, w < 16 → s.sector (sl.val * 32768 + (n - 8192)) w = none) →
         (∀ r ∈ s.tiers.repl, r.hset ≠ sl.val * 32768 + (n - 8192)) → (∀ e ∈ s.tiers.staging, e.target = none) →
         s.tiers.hull.length ≤ 4096 → passes)
       ∧ (s.modes.mode ≠ .drain ∨ 40960 ≤ n ∨ slot = none → exec (.drainWalkSet sl cyc) s = .next s))

/-- R80, R371 to R373: in a Scrub slot, or one that spills to it, a scrub read spends one read's credit and moves to the row's
next unit, the last one ending a counted pass; without the credit, a rate, a service mode, a row to scrub or a slot it does
not take place. In a Kernel bank a single wrong bit is corrected, counted and queued to be written back, and two in a word
make the line that the bank still holds Poisoned. A Husk line is read beside its check entry, here one that names the line.
Where the condition of a row is not met nothing happens (the model's choice, log entry 23). The KEYID of a lost line's record
and a word beyond its code are free values (log entries 40 and 61). R82, R368, R369: in a Maintenance slot the oldest
correction of a row (here a Kernel bank's) is written back where the unit still holds what was read, given up where it has
been written since, and its lines' monitors are cleared; while a line of it is held it waits. Read again in such a slot, a
unit with the same bit wrong is a hard fault for Farrier, and one that reads right is done. Both run in service modes alone.
Where the condition of a row is not met nothing happens (the model's choice, log entry 23). When a correction is dropped, and
the work of a lost line, are as in log entries 65, 125 and 153. R375: a bucket's level falls by one, not below zero, when its
leak interval has passed, and stays before. Where the condition of a row is not met nothing happens (the model's choice, log
entry 23). -/
def Obligations.ScrubAndCorrections : Prop :=
  (∀ (s : State) (kind : ScrubKind) (row : Nat) (sl : Fin 16) (slot : Fin 64) (u word b1 b2 : Nat) (t : KTag),
     let kset := sl.val * 8192 + u / 12
     let w := u % 12
     let bank := Obj.correctedCount + sl.val
     let rest : State → Prop := fun v => v.home = s.home ∧ v.mem.dram = s.mem.dram ∧ v.mem.pwb = s.mem.pwb ∧ v.modes = s.modes
       ∧ v.groom = s.groom ∧ v.ports = s.ports ∧ v.sent = s.sent
     let reads : ScrubKind → Nat → Prop := fun kind row =>
       s.modes.mode.service = true ∧ 256 ≤ Assoc.getD s.rel.credit (scrubKey kind row) 0 ∧ s.eff (Obj.scrubRate + kind.num) ≠ 0
       ∧ s.scrubRow kind row = true
       ∧ Assoc.getD s.rel.next (scrubKey kind row) 0 = u ∧ (s.engineSlot kind row slot Cls.sc (s.unitDram kind row u) (unitPlace kind row u)).isSome = true
       ∧ (kind = .husk → s.huskUnitGood row u = true)
       ∧ s.rel.corrections = []
     (∀ i, (i, kind, row) ∈ [(Instr.scrubRead .tagSets sl slot [], ScrubKind.tagSets, sl.val), (.scrubRead .kernelData sl slot [], .kernelData, sl.val),
         (.scrubRead .husk sl slot [], .husk, sl.val), (.scrubRead .ddr5 sl slot [], .ddr5, sl.val)] →
       (Assoc.getD s.rel.credit (scrubKey kind row) 0 < 256 ∨ s.modes.mode.service = false ∨ s.scrubRow kind row = false
           ∨ s.eff (Obj.scrubRate + kind.num) = 0 → exec i s = .next s)
       ∧ (reads kind row → Does i s fun v =>
         Assoc.getD v.rel.credit (scrubKey kind row) 0 = Assoc.getD s.rel.credit (scrubKey kind row) 0 - 256
         ∧ Assoc.getD v.rel.next (scrubKey kind row) 0 = (if s.scrubUnits kind ≤ u + 1 then 0 else u + 1)
         ∧ v.rel.corrections = [] ∧ v.tiers = s.tiers
         ∧ (s.scrubUnits kind ≤ u + 1 → v.obj (Obj.scrubPasses + kind.num) =
             BitVec.ofNat 64 (((s.obj (Obj.scrubPasses + kind.num)).toNat + 1) % 2 ^ 32))
         ∧ rest v))
     ∧ (reads .kernelData sl → u + 1 < 98304 → Does (.scrubRead .kernelData sl slot [(word, b1)]) s fun v =>
         v.obj bank = satAdd32 (s.obj bank) 1 ∧ v.tiers = s.tiers ∧ rest v
         ∧ ∃ c, v.rel.corrections = [c] ∧ c.kind = .kernelData ∧ c.row = sl.val ∧ c.unit = u ∧ c.bits = [(word, b1)]
             ∧ c.written = false)
     ∧ (reads .kernelData sl → u + 1 < 98304 → b1 ≠ b2 → s.tiers.staging = [] → s.ktag kset w = some t → t.st = .clean →
         Does (.scrubRead .kernelData sl slot [(word, b1), (word, b2)]) s fun v =>
           v.ktag kset w = some { t with st := .poisoned } ∧ v.obj Obj.poisonCreated = satAdd32 (s.obj Obj.poisonCreated) 1
           ∧ Raised s v 0xC0 ∧ v.rel.corrections = [] ∧ rest v))
  ∧ (∀ (s : State) (sl : Fin 16) (slot : Fin 64) (c : Correction) (more : List Correction),
       let slots := (s.engineSlot .kernelData sl slot Cls.mt (s.unitDram .kernelData sl c.unit) (unitPlace .kernelData sl c.unit)).isSome = true
       let lines := s.unitLines .kernelData sl.val c.unit
       s.rel.corrections = c :: more → c.kind = .kernelData → c.row = sl.val →
       (s.modes.mode.service = false → exec (.correctionWrite .kernelData sl slot) s = .next s
         ∧ ∀ err, exec (.correctionReread .kernelData sl slot err) s = .next s)
       ∧ (s.modes.mode.service = true → (c.written = false → s.unitImage .kernelData sl.val c.unit ≠ c.was →
         Does (.correctionWrite .kernelData sl slot) s fun t => t = s.withRel { s.rel with corrections := more })
       ∧ (c.written = false → s.unitImage .kernelData sl.val c.unit = c.was → (lines.any fun l => s.lineHeld l 0) = true →
         exec (.correctionWrite .kernelData sl slot) s = .next s)
       ∧ (c.written = false → s.unitImage .kernelData sl.val c.unit = c.was → (lines.any fun l => s.lineHeld l 0) = false → slots →
         Does (.correctionWrite .kernelData sl slot) s fun t =>
           t.rel = { s.rel with corrections := { c with written := true } :: more } ∧ t.tiers = s.tiers ∧ t.home = s.home
           ∧ (∀ h m, (h, m) ∈ t.ports.monitors → m.line ∉ lines))
       ∧ (c.written = true → slots → Does (.correctionReread .kernelData sl slot []) s fun t =>
           t.rel = { s.rel with corrections := more } ∧ t.tiers = s.tiers ∧ t.home = s.home ∧ t.ports = s.ports
           ∧ (∀ k, t.obj k = s.obj k) ∧ t.sent = s.sent)
       ∧ (∀ x, c.written = true → slots → c.bits = [x] → s.rel.stopped = false → s.rel.work = none → s.rel.queue.length < 16 →
         Does (.correctionReread .kernelData sl slot [x]) s fun t =>
           t.rel.queue = s.rel.queue ++ [⟨sl.val, c.unit / 12, c.unit % 12⟩] ∧ t.rel.corrections = more ∧ t.tiers = s.tiers)))
  ∧ (∀ (s : State) (b : Fin 64),
       (Assoc.getD s.rel.lastLeak b.val 0 + s.eff (Obj.bucketLeak + b.val) ≤ s.now → Does (.bucketLeak b) s fun t =>
         t.obj (Obj.bucketLevel + b.val) = BitVec.ofNat 64 ((s.obj (Obj.bucketLevel + b.val)).toNat - 1)
         ∧ Assoc.getD t.rel.lastLeak b.val 0 = s.now ∧ (∀ k, k ≠ Obj.bucketLevel + b.val → t.obj k = s.obj k)
         ∧ WroteOnly (s.withRel t.rel) t)
       ∧ (s.now < Assoc.getD s.rel.lastLeak b.val 0 + s.eff (Obj.bucketLeak + b.val) → exec (.bucketLeak b) s = .next s))

/-- R82, R378, R380, R381: Farrier takes the oldest fault; in a Maintenance slot of the slice, with the row's sets empty, it
programs a field-repair entry, which takes 1,250 strides; read back right, the spare goes into service at a later stride
boundary with source 0x0B8's event, and else the next spare is programmed. Where the condition of a row is not met nothing
happens (the model's choice, log entry 23). A flush handles one line a slot, at a boundary after its fault (the model's
choice, log entries 66 and 135). R82, R382 to R384: when the last set of a way's group is empty, the way is retired; a Kernel
or Husk group whose budget is spent is disabled, and Degraded is due with source 0x0B2's event. The flush takes Maintenance
slots of the slice. A retirement handles one set a slot (the model's choice, log entry 66). -/
def Obligations.Farrier : Prop :=
  (∀ (s : State) (f : HardFault) (q : List HardFault) (sl : Fin 16) (cyc : Fin 64),
     (s.modes.mode.service = true → s.rel.work = none → s.rel.stopped = false → s.rel.queue = f :: q → f.array < 64 →
       s.fieldUsed f.array < 64 → Does (.farrierFlush sl cyc) s fun t =>
         t.rel = { s.rel with queue := q, work := some (f, .flushing), workSince := s.now, workNext := 0 }
         ∧ t.obj Obj.farrierStatus = 1 ∧ WroteOnly (s.withRel t.rel) t)
     ∧ (s.modes.mode.service = true → s.rel.work = some (f, .flushing) → s.rel.workSince < s.now → f.array < 32 →
       (∀ i w, i < rowSets f.array → s.ktag (f.place.1 * 8192 + (i + f.row * rowSets f.array)) w = none) →
       (∀ x ∈ s.home.txns, x.job ≠ some .farrier) →
       (s.farrierSlot f sl cyc).isSome = true → Does (.farrierFlush sl cyc) s fun t =>
         t.rel.work = some (f, .programming) ∧ t.rel.workSince = s.now ∧ t.obj Obj.farrierStatus = 2 ∧ t.tiers = s.tiers
         ∧ t.home = s.home ∧ t.mem = s.mem ∧ ObjsKept s t [Obj.farrierStatus])
     ∧ (s.rel.work = some (f, .flushing) → s.farrierSlot f sl cyc = none ∨ s.now ≤ s.rel.workSince → exec (.farrierFlush sl cyc) s = .next s)
     ∧ (s.rel.work = some (f, .programming) → s.now < s.rel.workSince + 1250 →
       ∀ good, exec (.fieldRepairProgram good) s = .next s)
     ∧ (s.rel.work = some (f, .programming) → s.rel.workSince + 1250 ≤ s.now → s.rel.stopped = false → s.modes.mode ≠ .rest →
       (Does (.fieldRepairProgram true) s fun t => t.rel.work = some (f, .activating)
         ∧ Assoc.find? (f.array * 64 + s.rel.workNext) t.rel.field =
             some (BitVec.ofNat 32 (2 ^ 30 + f.array * 2 ^ 24 + f.row * 2 ^ 6 + s.rel.workNext))
         ∧ WroteOnly (s.withRel t.rel) t)
       ∧ (s.rel.workNext < 63 → Does (.fieldRepairProgram false) s fun t => t.rel.work = some (f, .programming)
         ∧ t.rel.workNext = s.rel.workNext + 1
         ∧ Assoc.find? (f.array * 64 + s.rel.workNext) t.rel.field =
             some (BitVec.ofNat 32 (3 * 2 ^ 30 + f.array * 2 ^ 24 + f.row * 2 ^ 6 + s.rel.workNext))))
     ∧ (s.rel.work = some (f, .activating) → s.now ≤ s.rel.workSince ∨ s.modes.mode = .rest → exec .fieldRepairActivate s = .next s)
     ∧ (s.rel.work = some (f, .activating) → s.rel.workSince < s.now → s.modes.mode ≠ .rest → s.rel.stopped = false →
       (∀ x ∈ s.home.txns, x.job ≠ some .farrier) → Does .fieldRepairActivate s fun t =>
         t.rel = { s.rel with work := none, spares := s.rel.spares ++ [.row f.array f.row] } ∧ t.obj Obj.farrierStatus = 0 ∧ Raised s t 0xB8
         ∧ WroteRaised (s.withRel t.rel) t))
  ∧ (∀ (s : State) (f : HardFault) (sl : Fin 16) (cyc : Fin 64), s.modes.mode.service = true → s.rel.workNext = 1024 →
         s.rel.stopped = false → (s.farrierSlot f sl cyc).isSome = true → (∀ x ∈ s.home.txns, x.job ≠ some .farrier) →
       (s.rel.work = some (f, .retiring) → Retired.way f.tier f.place.1 f.grp f.way ∉ s.rel.retired →
         Does (.wayRetirement sl cyc) s fun t =>
           t.rel.retired = s.rel.retired ++ [.way f.tier f.place.1 f.grp f.way] ∧ t.rel.work = none
           ∧ t.obj Obj.farrierStatus = 0 ∧ Raised s t 0xB8 ∧ t.tiers = s.tiers ∧ t.home = s.home ∧ t.mem = s.mem)
       ∧ (s.rel.work = some (f, .stage4) → f.tier ≠ 2 → Retired.group f.tier f.place.1 f.grp ∉ s.rel.retired →
         Does (.stage4Action sl cyc) s fun t =>
           t.rel.retired = s.rel.retired ++ [.group f.tier f.place.1 f.grp] ∧ t.rel.work = none ∧ t.reducedNow = true
           ∧ (s.modes.mode ≠ .degraded → t.obj Obj.degradePending = 1) ∧ t.tiers = s.tiers ∧ t.home = s.home ∧ t.mem = s.mem))

/-- R364, R386, R388, Table 9.7: what is a fatal fault, with the code and the slice that it fences: a vote that differs, FCLK
out of its limits, a missing reference clock, a lost channel, and state found uncorrectable. Where the condition of a row is
not met nothing happens (the model's choice, log entry 23). A fault in a mode without a way to Contained, the detail of
CONTAIN_CAUSE, and a PHY fault's record are the model's readings (log entries 62, 63 and 67). R390: a command/address alert is
counted with source 0x0C4's event, and the third one of a channel in an epoch loses the channel: a fatal fault. What has been
sent is marked in the model's own log of messages (the model's choice, log entry 14). R389, R391, R393, R341, Table 9.13: from
a service mode a fatal fault enters, at a boundary after its detection, Contained with its cause, its fenced slices, the
Paddock's record and source 0x0B0's event, and the sweep of the fenced slices starts; a slice's sweep passes a tag set at a
time, writing out what is Dirty or Poisoned to the posted write buffer, or to staging where that is full, and the last one
ends it. Where the condition of a row is not met nothing happens (the model's choice, log entry 23). When staged victims are
written out, and that CONTAINED_ENTRY tests its boundary, is the model's choice (log entries 68 and 135). -/
def Obligations.FatalFaults : Prop :=
  (∀ (s : State) (copy : Fin 3) (count : Nat) (sl : Fin 16) (ch : Fin 12),
     let fatal : Instr → Nat → Option Nat → (State → Prop) → Prop := fun i code slice P => Does i s fun t =>
       (∃ d, t.rel.fatal = s.rel.fatal ++ [(code, slice, d)]) ∧ t.tiers = s.tiers ∧ t.home = s.home ∧ t.gait = s.gait
       ∧ t.modes = s.modes ∧ P t
     let any : State → Prop := fun _ => True
     let uncorrected : Nat → State → Prop := fun b t =>
       t.obj (Obj.uncorrectedCount + b) = satAdd32 (s.obj (Obj.uncorrectedCount + b)) 1
     fatal (.voteMismatch true copy) 1 none any ∧ fatal (.voteMismatch false copy) 2 none any
     ∧ (s.modes.mode = .normal → count < 19900 ∨ 20100 < count →
         fatal (.fclkOutOfLimit count) 0xC none fun t => (t.obj Obj.clockMonStatus).toNat.testBit 0 = true)
     ∧ (19900 ≤ count → count ≤ 20100 → exec (.fclkOutOfLimit count) s = .next s)
     ∧ (s.modes.mode = .normal → fatal .refclkMissing 0xD none fun t => (t.obj Obj.clockMonStatus).toNat.testBit 1 = true)
     ∧ (s.modes.mode = .normal → fatal (.phyClockFault (.channel ch true)) 0xE none fun t =>
         (t.obj Obj.clockMonStatus).toNat.testBit 2 = true)
     ∧ fatal (.uncorrectableStateError (.kernelTag sl)) 5 (some sl.val) (uncorrected (16 + sl.val))
     ∧ fatal (.uncorrectableStateError (.huskTagLower sl)) 6 (some sl.val) (uncorrected (16 + sl.val))
     ∧ fatal (.uncorrectableStateError (.directory sl)) 7 (some sl.val) (uncorrected (16 + sl.val))
     ∧ fatal (.uncorrectableStateError (.tracker sl)) 8 (some sl.val) (uncorrected 62)
     ∧ fatal (.uncorrectableStateError .bufferAddr) 9 none (uncorrected 62)
     ∧ fatal (.uncorrectableStateError .keyStore) 0xA none (uncorrected 63)
     ∧ fatal (.uncorrectableStateError .ledgerParity) 3 none any)
  ∧ (∀ (s : State) (ch : Fin 12), Assoc.getD s.mem.shadow ch.val [] = [] → s.mem.alerts = [] →
       Does (.caParityAlert ch) s fun t =>
         let n := Assoc.getD s.rel.alertCount ch.val 0 + 1
         Assoc.getD t.rel.alertCount ch.val 0 = n ∧ t.obj Obj.ddr5CaAlerts = satAdd32 (s.obj Obj.ddr5CaAlerts) 1
         ∧ Raised s t 0xC4 ∧ t.rel.fatal = s.rel.fatal ++ (if n = 3 then [(0xE, none, ch.val)] else [])
         ∧ WroteRaised ((s.withRel t.rel).withMem t.mem) t ∧ t.mem.dram = s.mem.dram)
  ∧ (∀ (s : State) (code d : Nat) (sl : Fin 16),
       (s.modes.mode.service = true → s.modes.mode ≠ .contained → s.rel.fatal = [(code, some sl.val, d)] → s.rel.fatalAt < s.now →
         code < 16 → d < 256 → s.home.txns = [] →
         Does .containedEntry s fun t =>
           t.modes.mode = .contained ∧ t.obj Obj.modePrevious = BitVec.ofNat 64 s.modes.mode.code ∧ t.rel.fatal = []
           ∧ t.obj Obj.containCause = BitVec.ofNat 64 (code * 65536 + sl.val * 256 + d)
           ∧ t.obj Obj.fencedSlices = BitVec.ofNat 64 (2 ^ sl.val) ∧ Assoc.find? sl.val t.rel.sweep = some 0
           ∧ t.obj Obj.containSweep = 1 ∧ t.rel.queue = [] ∧ t.rel.stopped = true ∧ t.modes.trans = none
           ∧ (t.modes.paddock.getD 2 0) = s.time.stride ∧ Raised s t 0xB0)
       ∧ (s.rel.fatal = [] ∨ s.now ≤ s.rel.fatalAt → exec .containedEntry s = .next s)
       ∧ (∀ n, Assoc.find? sl.val s.rel.sweep = some n → n < 8191 → (∀ w, s.ktag (sl.val * 8192 + n) w = none) →
         Does (.containmentSweep sl []) s fun t =>
           t = s.withRel { s.rel with sweep := Assoc.put sl.val (n + 1) s.rel.sweep })
       ∧ (∀ n w x, Assoc.find? sl.val s.rel.sweep = some n → n < 8191 → w < 12 → s.ktag (sl.val * 8192 + n) w = some x →
         (∀ v, v ≠ w → s.ktag (sl.val * 8192 + n) v = none) → x.st = .clean → s.pendingBank (sl.val * 8192 + n) w = none →
         Does (.containmentSweep sl []) s fun t =>
           t.ktag (sl.val * 8192 + n) w = none ∧ t.mem = s.mem ∧ Assoc.find? sl.val t.rel.sweep = some (n + 1))
       ∧ (∀ n w x, Assoc.find? sl.val s.rel.sweep = some n → n < 8191 → w < 12 → s.ktag (sl.val * 8192 + n) w = some x →
         (∀ v, v ≠ w → s.ktag (sl.val * 8192 + n) v = none) → x.st = .dirty ∨ x.st = .poisoned →
         s.pendingBank (sl.val * 8192 + n) w = none →
         let line := laOfK (sl.val * 8192 + n) x.tag / 128
         let data := s.kernelData (sl.val * 8192 + n) w
         (s.pwbUnreserved (chanOf (line * 128)) < 256 → Does (.containmentSweep sl []) s fun t =>
           t.ktag (sl.val * 8192 + n) w = none ∧ Assoc.find? sl.val t.rel.sweep = some (n + 1)
           ∧ ∃ e ∈ t.pwb (chanOf (line * 128)), e.line = line ∧ e.keyid = x.keyid ∧ e.data = data ∧ e.poison = (x.st == .poisoned)
               ∧ e.reserved = false)
         ∧ (256 ≤ s.pwbUnreserved (chanOf (line * 128)) → Does (.containmentSweep sl []) s fun t =>
           t.ktag (sl.val * 8192 + n) w = none ∧ t.mem = s.mem ∧ Assoc.find? sl.val t.rel.sweep = some (n + 1)
           ∧ ∃ e ∈ t.tiers.staging, e.kind = .placement ∧ e.line = line ∧ e.keyid = x.keyid ∧ e.data = some data ∧ e.st = x.st))
       ∧ (∀ n w y j, Assoc.find? sl.val s.rel.sweep = some (8192 + n) → n < 32767 → w < 16 →
         s.sector (sl.val * 32768 + n) w = some y → (∀ v, v ≠ w → s.sector (sl.val * 32768 + n) v = none) → y.owedLines = [j] →
         s.kernelOnly = false →
         let line := laOfH (sl.val * 32768 + n) y.tag j / 128
         s.tiers.hull = [] → s.tiers.staging = [] → s.checkWrong (sl.val * 32768 + n) w j line = false →
         (s.pwb (chanOf (line * 128))).length < 256 → Does (.containmentSweep sl []) s fun t =>
           t.sector (sl.val * 32768 + n) w = none ∧ Assoc.find? sl.val t.rel.sweep = some (8192 + n + 1)
           ∧ ∃ e ∈ t.pwb (chanOf (line * 128)), e.line = line ∧ e.data = s.huskData (sl.val * 32768 + n) w j
               ∧ e.poison = (y.st j == .poisoned) ∧ e.reserved = false)
       ∧ (Assoc.find? sl.val s.rel.sweep = none → ∀ bad, exec (.containmentSweep sl bad) s = .next s)
       ∧ (s.kernelOnly = false → s.rel.sweep = [(sl.val, 40959)] → (∀ w, s.sector (sl.val * 32768 + 32767) w = none) →
         (∀ e ∈ s.tiers.staging, e.slice ≠ sl.val) →
         Does (.containmentSweep sl []) s fun t => t.rel.sweep = [] ∧ t.obj Obj.containSweep = 2 ∧ t.mem = s.mem))

/-- R97, R300, R312, R314, R315: a request commits at the tail of its Tether queue; the replay of a recorded refusal takes
back its age and its order, and the record goes; a TAG still open ends in Error-Opcode, counted; a full queue refuses with
QUEUE, or with the reason that admission would give; a request that fails an input check ends in Error-Opcode, counted; a half
that is not up takes none. Records that are not replayed in REPLAY_WAIT strides are forgotten, here where none holds a
tracker. That the 64 places count the refused requests whose replays are awaited is the model's choice (log entry 119). A half
that is not up takes none by the model's choice (log entry 102); a QUEUE refusal is not recorded, what the monitors count and
the crossing time of a packet are its readings (log entries 52, 106 and 154). -/
def Obligations.RequestsEnterQueues : Prop :=
  ∀ (s : State) (half : Fin 32) (cyc : Fin 64) (r : Req),
    let h := half.val
    let q := h * 512 + r.stream.toNat
    let i : Instr := .requestPacketCommit half cyc r
    let fresh := s.halfUp h = true ∧ s.tagOpen h r.tag = false ∧ s.inputError h r = none
    let full := (s.queue q).length + (s.refusedOf q).length
    (s.halfUp h = false → exec i s = .next s)
    ∧ (fresh → r.rpl = false → full < 64 → r.op = Op.barrier ∨ r.op = Op.wrCond → Does i s fun t =>
      t.queue q = s.queue q ++ [{ id := s.home.nextId, req := r, entered := s.now, crossed := s.now * 64 + cyc.val - 8 }]
      ∧ t.home.nextId = s.home.nextId + 1
      ∧ t.home.txns = s.home.txns ∧ t.ports = { s.ports with queues := t.ports.queues } ∧ t.sent = s.sent
      ∧ ∀ p, p ≠ q → t.queue p = s.queue p)
    ∧ (fresh → r.rpl = false → full < 64 → r.op ≠ Op.barrier → r.op ≠ Op.wrCond → Does i s fun t =>
      t.queue q = ((s.queue q).map fun x => { x with after := x.after + 1 })
        ++ [{ id := s.home.nextId, req := r, entered := s.now, crossed := s.now * 64 + cyc.val - 8 }]
      ∧ t.home.nextId = s.home.nextId + 1 ∧ t.tiers = s.tiers ∧ t.home.dir = s.home.dir ∧ t.sent = s.sent
      ∧ (∀ m, Assoc.find? q s.ports.monitors = some m → m.intervening = 0 →
        Assoc.find? q t.ports.monitors = some { m with intervening := 1 })
      ∧ (∀ m, Assoc.find? q s.ports.monitors = some m → 1 ≤ m.intervening → Assoc.find? q t.ports.monitors = none))
    ∧ (∀ x, fresh → r.rpl = true → s.refusedOf q = [x] → x.req.tag = r.tag → (s.queue q).length < 64 → Does i s fun t =>
      t.queue q = s.queue q ++ [{ id := x.id, req := r, entered := x.entered, ageStart := x.ageStart, promoted := x.promoted,
                                  replay := true, refusals := x.refusals, after := x.after, tracker := x.tracker,
                                  trackerAt := x.trackerAt, crossed := s.now * 64 + cyc.val - 8 }]
      ∧ t.refusedOf q = [] ∧ t.home = s.home ∧ t.sent = s.sent)
    ∧ (∀ x, fresh → r.rpl = true → s.refusedOf q = [x] → x.req.tag = r.tag → 64 ≤ (s.queue q).length → Does i s fun t =>
      let why := ((s.earlyRefusal r.op).or (s.lateRefusal h x.id r)).getD (1, 4)
      (∃ at_, .refused h r.tag (BitVec.ofNat 8 (why.1 + why.2 * 16)) (if why = (1, 4) then 1 else 255) at_ ∈ t.sent)
      ∧ t.refusedOf q = [{ x with at_ := s.now, refusals := x.refusals + 1 }] ∧ t.ports.queues = s.ports.queues ∧ t.home = s.home)
    ∧ (s.halfUp h = true → s.tagOpen h r.tag = true → Does i s fun t =>
      .rsp h 0x24 r.tag 0 ∈ t.sent ∧ t.obj (arrIx Obj.tagErrors h) = satAdd32 (s.obj (arrIx Obj.tagErrors h)) 1
      ∧ t.ports.queues = s.ports.queues ∧ t.home = s.home)
    ∧ (∀ k, s.halfUp h = true → s.tagOpen h r.tag = false → s.inputError h r = some k → Does i s fun t =>
      .rsp h 0x24 r.tag 0 ∈ t.sent ∧ t.obj k = satAdd32 (s.obj k) 1 ∧ t.ports.queues = s.ports.queues
      ∧ t.ports.replay = s.ports.replay ∧ t.ports.monitors = s.ports.monitors ∧ t.home = s.home)
    ∧ (fresh → r.rpl = false → 64 ≤ full → Does i s fun t =>
      let why := ((s.earlyRefusal r.op).or (s.lateRefusal h s.home.nextId r)).getD (1, 4)
      (∃ at_, .refused h r.tag (BitVec.ofNat 8 (why.1 + why.2 * 16)) (if why = (1, 4) then 1 else 255) at_ ∈ t.sent) ∧ t.ports.queues = s.ports.queues ∧ t.ports.replay = s.ports.replay
      ∧ t.home = s.home)
    ∧ (s.pmu.tags = [] → (∀ x ∈ s.refusedOf q, x.tracker = none) → exec (.replayForgotten half r.stream) s = .next (s.setRefused q
        ((s.refusedOf q).filter fun x => !decide (x.at_ + s.eff Obj.replayWait ≤ s.now))))

/-- R70, R97, R227, R251, R315 to R321, Tables 7.13 and 9.9: after what has been sent by then is performed and the promoted
work has made its bookings, a half offers one head. It is refused with its REASON and cause and recorded for its replay: a
buffer without an entry is cause BUFFER, a path that no group can book cause SLOT, with the strides until a slot or its bank
is free; it ends in an error response; or it is accepted: tracked, with its tag-slice slot booked. What the resources decide
is stated where no wait-list head of the slice is due, and WAIT of a SLOT refusal, what counts for a quota, and the order of
the checks are as log entries 51, 107 and 109 read the spec. Where the condition of a row is not met nothing happens (the
model's choice, log entry 23). -/
def Obligations.AdmissionOutcomes : Prop :=
  ∀ (s₀ : State) (half : Fin 32) (cyc : Fin 64) (q : Nat) (x : QReq),
    let h := half.val
    let c := s₀.now * 64 + cyc.val
    let s := (s₀.sentBy c).bookEarly c
    let r := x.req
    let i : Instr := .admission half cyc
    let v := (s.withPorts { s.ports with rr := Assoc.put h (q % 512) s.ports.rr }).setQueue q
      ((s.queue q).filter fun y => y.id != x.id)
    let left : State → Prop := fun t => t.queue q = (s.queue q).filter (fun y => y.id != x.id)
    let refused : Nat × Nat → Nat → State → Prop := fun why wait t =>
      (∃ at_, .refused h r.tag (BitVec.ofNat 8 (why.1 + why.2 * 16)) (BitVec.ofNat 8 (min 255 (max 1 wait))) at_ ∈ t.sent)
      ∧ ((t.refusedOf q).getLast?.map fun y => (y.id, y.req.tag)) = some (x.id, r.tag)
      ∧ left t ∧ t.home = s.home ∧ t.tiers = s.tiers ∧ t.mem = s.mem
    let failed : BitVec 6 → State → Prop := fun op t =>
      .rsp h op r.tag 0 ∈ t.sent ∧ left t ∧ t.refusedOf q = s.refusedOf q ∧ t.home = s.home ∧ t.tiers = s.tiers ∧ t.mem = s.mem
    let tracked : Nat → Prop := fun la => v.quotaBroken r = none
      ∧ (isEvict r.op = true ∨ x.tracker.isSome = true ∨ 0 < v.freeGeneral (sliceOf la))
      ∧ (x.promoted = true ∨ ∀ y ∈ s.home.txns, v.headDue y = false)
    let booked : Nat → Option Want ⊕ (Nat × State) := fun la =>
      v.bookGroups c { id := x.id, req := r, line := la / 128, slice := sliceOf la, half := h, promoted := x.promoted,
                       pc := v.partClass r.partid.toNat, arrive := v.reaches q (la / 128) c } (v.admGroups h r (sliceOf la))
    (s.nextQueue h = none → exec i s₀ = .next s)
    ∧ (s.nextQueue h = some (q, x) → q / 512 = h → s.halfUp h = true →
      (∀ why, s.earlyRefusal r.op = some why → Does i s₀ (refused why 255))
      ∧ (s.earlyRefusal r.op = none →
        (∀ k, s.inputError h r = some k → Does i s₀ fun t => failed 0x24 t ∧ t.obj k = satAdd32 (s.obj k) 1)
        ∧ (s.inputError h r = none → r.op ≠ Op.barrier →
          (s.target r.addr.toNat = .notHome → Does i s₀ fun t =>
            failed 0x21 t ∧ t.obj Obj.notHomeCount = satAdd32 (s.obj Obj.notHomeCount) 1)
          ∧ (s.target r.addr.toNat = .unmapped → Does i s₀ (failed 0x20))
          ∧ (∀ la, s.target r.addr.toNat = .memory la →
            (∀ why, s.lateRefusal h x.id r = some why → Does i s₀ (refused why 255))
            ∧ (s.lateRefusal h x.id r = none →
              (∀ n, v.quotaBroken r = some n → (x.promoted = true ∨ ∀ y ∈ s.home.txns, v.headDue y = false) → Does i s₀ (refused (2, n) (s.holdMean (sliceOf la))))
              ∧ (v.quotaBroken r = none → isEvict r.op = false → x.tracker = none → v.freeGeneral (sliceOf la) = 0 →
                (x.promoted = true ∨ ∀ y ∈ s.home.txns, v.headDue y = false) → Does i s₀ fun t =>
                refused (1, 1) (s.holdMean (sliceOf la)) t
                ∧ t.obj Obj.trackerRefusals = satAdd32 (s.obj Obj.trackerRefusals) 1)
              ∧ (tracked la → hasData r.op = true → 1792 ≤ v.pwbReservedUse (chanOf la) → Does i s₀ (refused (1, 3) 1))
              ∧ (tracked la → hasData r.op = false ∨ v.pwbReservedUse (chanOf la) < 1792 →
                ∀ w, booked la = .inl (some w) → Does i s₀ fun t =>
                  let hit := v.refreshHit c w
                  refused (1, 0) (match hit with | some free => ceilDiv (free - c) 64 | none => v.slotWait c w) t
                  ∧ (hit.isSome = true ∧ w.dram.isSome = true → t.obj (arrIx Obj.refreshRefusals (chanOf la))
                    = satAdd32 (s.obj (arrIx Obj.refreshRefusals (chanOf la))) 1))
              ∧ (∀ grp s', tracked la →
                hasData r.op = false ∨ v.pwbReservedUse (chanOf la) < 1792 →
                booked la = .inr (grp, s') →
                s.txn x.id = none → s.bookingOf x.id Leg.tag = none → Does i s₀ fun t =>
                  left t ∧ (t.bookingOf x.id Leg.tag).isSome = true ∧ t.sent = s.sent ∧ t.tiers = s.tiers ∧ t.mem = s.mem
                  ∧ ∃ u, t.txn x.id = some u ∧ u.req = r ∧ u.line = la / 128 ∧ u.slice = sliceOf la ∧ u.half = some h
                    ∧ u.group = grp ∧ u.phase = .admitted ∧ u.acceptAt = c ∧ u.pwbReserved = hasData r.op
                    ∧ u.tracker = (if isEvict r.op then none else x.tracker.or (v.freeIn (sliceOf la) 0 480))))))))

/-- R190 to R194, R199, R267: a read-type request that looks up, with a clean Kernel copy as the home data, and no agent
recorded on the line: RdCur and RdRsv take the data with no grant and leave no record, ending when the data's egress slot has
gone (R199, R251), RdRsv setting its queue's reservation from its look-up's stride on; RdShared, RdOwn and Upgrade are granted
E and recorded as the owner when they have sent CompAck. That a request row runs on to its look-up, which decides all at once,
is the model's choice (log entries 30 and 31). R190 to R194, R197, R311: a request on a line that another agent owns asks that
agent: RdShared with SnpFwdShd, RdOwn and Upgrade with SnpFwdOwn, RdCur and RdRsv with SnpCur, and WrInvAll, WrPartial and the
far atomics with SnpInv; it waits for the answer with the line's entry blocked, and nothing is sent to its requester. An
Upgrade of the line's one sharer needs no data and no snoop: it completes with CompE. The row runs on to its look-up by the
model's choice (log entries 30 and 31). -/
def Obligations.HomeReads : Prop :=
  (∀ (s v : State) (half : Fin 32) (cyc : Fin 64) (r : Req) (t : Txn) (c key : Nat) (d : Line),
     let h := half.val
     let current : List (Instr × Nat) := [(.rdCur half cyc r, Op.rdCur), (.rdRsv half cyc r, Op.rdRsv)]
     let granted : List (Instr × Nat) :=
       [(.rdShared half cyc r, Op.rdShared), (.rdOwn half cyc r, Op.rdOwn), (.upgrade half cyc r, Op.upgrade)]
     ∀ i op, (i, op) ∈ current ++ granted → s.looksUp h cyc op r = some (v, t, c) → LooksUpFree v t h →
       t.req = { r with opcode := BitVec.ofNat 6 op } → v.dirHit t.line = none →
       v.tierCopy t.line = some ⟨.kernel, d, false, key⟩ →
       ((i, op) ∈ current → Does i s fun u =>
         .compData h r.tag t.htid 0 false false d ∈ u.sent ∧ u.home.dir = v.home.dir ∧ u.tiers = v.tiers ∧ u.mem = v.mem
         ∧ (∃ x, u.txn t.id = some x ∧ x.performed = true ∧ x.needAck = false ∧ x.record = none ∧ x.dirWay = none)
         ∧ (∃ o ∈ u.ports.outcomes, o.id = t.id ∧ o.data = true)
         ∧ (op = Op.rdRsv → t.after < 2 → Assoc.find? t.queue u.ports.monitors
             = some { pline := r.addr.toNat / 128, line := t.line, keyid := r.keyid, partid := r.partid, at_ := c / 64,
                      intervening := t.after }))
       ∧ (∀ w, (i, op) ∈ granted → v.chooseDir (dsetOf (t.line * 128)) (c - 64 * v.now) = some (w, none) → Does i s fun u =>
         .compData h r.tag t.htid 3 false false d ∈ u.sent ∧ u.home.dir = v.home.dir ∧ u.tiers = v.tiers ∧ u.mem = v.mem
         ∧ ∃ x, u.txn t.id = some x ∧ x.phase = .active ∧ x.performed = true ∧ x.needAck = true ∧ x.dirWay = some w
           ∧ x.record = some (.owned, h, (1 : BitVec 32) <<< h)))
  ∧ (∀ (s v : State) (half : Fin 32) (cyc : Fin 64) (r : Req) (t : Txn) (c w o : Nat) (e : DirEnt),
       let h := half.val
       let rows : List (Instr × Nat × BitVec 6) :=
         [(.rdShared half cyc r, Op.rdShared, 1), (.rdOwn half cyc r, Op.rdOwn, 2), (.upgrade half cyc r, Op.upgrade, 2),
          (.rdCur half cyc r, Op.rdCur, 3), (.rdRsv half cyc r, Op.rdRsv, 3), (.wrInvAll half cyc r, Op.wrInvAll, 4),
          (.wrPartial half cyc r, Op.wrPartial, 4), (.atomAdd half cyc r, Op.atomAdd, 4), (.atomSwap half cyc r, Op.atomSwap, 4),
          (.atomCas half cyc r, Op.atomCas, 4), (.atomAnd half cyc r, Op.atomAnd, 4), (.atomOr half cyc r, Op.atomOr, 4)]
       (∀ i op snp, (i, op, snp) ∈ rows → s.looksUp h cyc op r = some (v, t, c) → LooksUpFree v t h →
         t.req = { r with opcode := BitVec.ofNat 6 op } → v.dirHit t.line = some (w, e) → e.st = .owned → e.fholder = o → o < 32 →
         o ≠ h → e.sharers = (1 : BitVec 32) <<< o → v.halfUp o = true → (v.link o).snpCredit ≠ 0 → Does i s fun u =>
           u.sent = v.sent ++ [.snoop o snp t.htid (if snp = 4 then 0 else h) (if snp = 4 then 0 else r.tag) false
             (BitVec.ofNat 45 (v.paLine t.line))]
           ∧ (u.link o).snpCredit = (v.link o).snpCredit - 1
           ∧ u.dirEnt (dsetOf (t.line * 128)) w = some { e with blocked := true }
           ∧ ∃ x, u.txn t.id = some x ∧ x.phase = .active ∧ x.performed = false ∧ x.dirWay = some w
             ∧ x.snoops = [{ half := o, op := snp, role := 2, at_ := (c + 63) / 64 }])
       ∧ (s.looksUp h cyc Op.upgrade r = some (v, t, c) → LooksUpFree v t h → t.req = { r with opcode := BitVec.ofNat 6 Op.upgrade } →
         v.dirHit t.line = some (w, e) → e.st = .shared → e.sharers = (1 : BitVec 32) <<< h → Does (.upgrade half cyc r) s fun u =>
           .rsp h 0x11 r.tag t.htid ∈ u.sent ∧ u.tiers = v.tiers ∧ u.mem = v.mem
           ∧ ∃ x, u.txn t.id = some x ∧ x.performed = true ∧ x.needAck = true
             ∧ x.record = some (.owned, h, (1 : BitVec 32) <<< h))
       ∧ (s.looksUp h cyc Op.rdOwn r = some (v, t, c) → LooksUpFree v t h → t.req = { r with opcode := BitVec.ofNat 6 Op.rdOwn } →
         v.dirHit t.line = some (w, e) → e.st = .owned → e.fholder = h → e.sharers ≠ 0 → Does (.rdOwn half cyc r) s fun u =>
           .rsp h 0x25 r.tag 0 ∈ u.sent ∧ u.obj Obj.stateErrors = satAdd32 (v.obj Obj.stateErrors) 1 ∧ u.txn t.id = none
           ∧ u.dirEnt (dsetOf (t.line * 128)) w
             = some { st := .owned, fholder := h, dtag := dtagOf (t.line * 128), sharers := e.sharers }))

/-- R121, R190, R268, R269, R274 to R278, Table 6.5: writes and far atomics that look up with no agent recorded on the line,
and a Kernel copy of it: WrInvAll replaces the line, WrPartial merges its bytes, an atomic answers the operand's old value and
writes the new one; a WrCond merges and completes only while its queue's reservation holds, and completes with CompFail
without one. The written line is Modified in the Kernel. An atomic ends when its data's egress slot has gone (R199, R251). The
row runs on to its look-up by the model's choice (log entries 30 and 31); what a WrCond reserves and how its failure counts
are log entries 36 and 131. R190, R195, R199, R219: evictions: a WbData of the line's owner places its data, completes and
leaves no record; an EvictClean of a sharer clears its bit; one of a half that the directory does not record is counted, and
WbData then ends in Error-State with its data discarded. The row runs on to its look-up by the model's choice (log entries 30
and 31), and a WbData counts as a write for the monitors as log entry 35 reads the spec. -/
def Obligations.HomeWrites : Prop :=
  (∀ (s v : State) (half : Fin 32) (cyc : Fin 64) (r : Req) (t : Txn) (c key : Nat) (d : Line),
     let h := half.val
     let ready : Nat → Prop := fun op => s.looksUp h cyc op r = some (v, t, c) ∧ LooksUpFree v t h
       ∧ t.req = { r with opcode := BitVec.ofNat 6 op } ∧ v.dirHit t.line = none
       ∧ v.tierCopy t.line = some ⟨.kernel, d, false, key⟩ ∧ v.tiers.staging = [] ∧ v.modes.mode = .normal ∧ t.mode = .normal ∧ v.modes.settle = 0
       ∧ r.poison = false
     let holds : State → Line → Prop := fun u x => u.tierCopy t.line = some ⟨.kernel, x, false, key⟩
     let atomics : List (Instr × Nat) :=
       [(.atomAdd half cyc r, Op.atomAdd), (.atomSwap half cyc r, Op.atomSwap), (.atomCas half cyc r, Op.atomCas),
        (.atomAnd half cyc r, Op.atomAnd), (.atomOr half cyc r, Op.atomOr)]
     let m : Monitor := { pline := r.addr.toNat / 128, line := t.line, keyid := r.keyid, partid := r.partid, at_ := t.entered,
                          intervening := 0 }
     (ready Op.wrInvAll → ((v.streamWrite t.slice t.queue t.line).stream t.slice t.queue).streaming = false →
       Does (.wrInvAll half cyc r) s fun u =>
         .rsp h 0x10 r.tag 0 ∈ u.sent ∧ u.txn t.id = none ∧ holds u r.data ∧ u.home.dir = v.home.dir ∧ u.mem = v.mem)
     ∧ (ready Op.wrPartial → Does (.wrPartial half cyc r) s fun u =>
         .rsp h 0x10 r.tag 0 ∈ u.sent ∧ u.txn t.id = none ∧ holds u (mergeLine d r.data r.mask) ∧ u.home.dir = v.home.dir
         ∧ u.mem = v.mem)
     ∧ (ready Op.wrCond → Assoc.find? t.queue v.ports.monitors = some m → Does (.wrCond half cyc r) s fun u =>
         .rsp h 0x10 r.tag 0 ∈ u.sent ∧ u.txn t.id = none ∧ holds u (mergeLine d r.data r.mask)
         ∧ Assoc.find? t.queue u.ports.monitors = none
         ∧ u.obj Obj.wrcondPasses = satAdd32 (v.obj Obj.wrcondPasses) 1)
     ∧ (ready Op.wrCond → Assoc.find? t.queue v.ports.monitors = none → Assoc.find? t.queue v.ports.cleared = none →
       Does (.wrCond half cyc r) s fun u =>
         .rsp h 0x13 r.tag 0 ∈ u.sent ∧ u.txn t.id = none ∧ holds u d ∧ u.tiers = v.tiers
         ∧ u.obj Obj.wrcondFails = satAdd32 (v.obj Obj.wrcondFails) 1)
     ∧ (∀ i op, (i, op) ∈ atomics → ready op → r.size = 1 ∨ r.size = 2 →
       let n := sizeBytes r.size.toNat
       let off := r.addr.toNat % 128
       let old := (d >>> (8 * off)).toNat % 2 ^ (8 * n)
       let a := r.data.toNat % 2 ^ (8 * n)
       let b := (r.data >>> 128).toNat % 2 ^ (8 * n)
       Does i s fun u =>
         .compData h r.tag t.htid 0 false false (BitVec.ofNat 1024 old) ∈ u.sent
         ∧ (∃ x, u.txn t.id = some x ∧ x.performed = true ∧ x.needAck = false ∧ x.record = none)
         ∧ (∃ o ∈ u.ports.outcomes, o.id = t.id ∧ o.data = true)
         ∧ holds u (if op = Op.atomCas ∧ old ≠ a then d else setBytes d off n (atomNew op (8 * n) old a b))
         ∧ u.obj Obj.atomics = satAdd32 (v.obj Obj.atomics) 1))
  ∧ (∀ (s v : State) (half : Fin 32) (cyc : Fin 64) (r : Req) (t : Txn) (c w key : Nat) (e : DirEnt) (d : Line),
       let h := half.val
       let ready : Nat → Prop := fun op => s.looksUp h cyc op r = some (v, t, c) ∧ LooksUpFree v t h
         ∧ t.req = { r with opcode := BitVec.ofNat 6 op }
       let dset := dsetOf (t.line * 128)
       (ready Op.wbData → v.dirHit t.line = some (w, e) → e.st = .owned → e.fholder = h → e.sharers = (1 : BitVec 32) <<< h →
         ((v.streamWrite t.slice t.queue t.line).stream t.slice t.queue).streaming = false → r.poison = false →
         v.tierCopy t.line = some ⟨.kernel, d, false, key⟩ → v.tiers.staging = [] → v.modes.mode = .normal → t.mode = .normal → v.modes.settle = 0 →
         Does (.wbData half cyc r) s fun u =>
           .rsp h 0x10 r.tag 0 ∈ u.sent ∧ u.txn t.id = none ∧ u.dirEnt dset w = none
           ∧ u.tierCopy t.line = some ⟨.kernel, r.data, false, key⟩ ∧ u.mem = v.mem)
       ∧ (ready Op.evictClean → v.dirHit t.line = some (w, e) → e.st = .shared → e.sharers.getLsbD h = true →
         e.sharers &&& ~~~ ((1 : BitVec 32) <<< h) ≠ 0 → Does (.evictClean half cyc r) s fun u =>
           .rsp h 0x10 r.tag 0 ∈ u.sent ∧ u.txn t.id = none ∧ u.tiers = v.tiers ∧ u.mem = v.mem
           ∧ u.dirEnt dset w = some { st := .shared, fholder := e.fholder, dtag := dtagOf (t.line * 128),
                                      sharers := e.sharers &&& ~~~ ((1 : BitVec 32) <<< h) })
       ∧ (ready Op.wbData → v.dirHit t.line = some (w, e) → e.st = .shared → e.sharers.getLsbD h = true →
         e.sharers &&& ~~~ ((1 : BitVec 32) <<< h) ≠ 0 → Does (.wbData half cyc r) s fun u =>
           .rsp h 0x10 r.tag 0 ∈ u.sent ∧ u.txn t.id = none ∧ u.tiers = v.tiers ∧ u.mem = v.mem
           ∧ u.obj Obj.stateErrors = satAdd32 (v.obj Obj.stateErrors) 1
           ∧ u.dirEnt dset w = some { st := .shared, fholder := e.fholder, dtag := dtagOf (t.line * 128),
                                      sharers := e.sharers &&& ~~~ ((1 : BitVec 32) <<< h) })
       ∧ (ready Op.evictClean → v.dirHit t.line = none → Does (.evictClean half cyc r) s fun u =>
           .rsp h 0x10 r.tag 0 ∈ u.sent ∧ u.txn t.id = none ∧ u.tiers = v.tiers ∧ u.home.dir = v.home.dir
           ∧ u.obj Obj.unrecordedEvictions = satAdd32 (v.obj Obj.unrecordedEvictions) 1)
       ∧ (ready Op.wbData → v.dirHit t.line = none → Does (.wbData half cyc r) s fun u =>
           .rsp h 0x25 r.tag 0 ∈ u.sent ∧ u.txn t.id = none ∧ u.tiers = v.tiers ∧ u.mem = v.mem ∧ u.home.dir = v.home.dir
           ∧ u.obj Obj.unrecordedEvictions = satAdd32 (v.obj Obj.unrecordedEvictions) 1
           ∧ u.obj Obj.stateErrors = satAdd32 (v.obj Obj.stateErrors) 1))

/-- R260, R261: a Barrier at the head of its queue completes once every request of its queue admitted before it has been
performed (R251), at once where there is none, and is counted; until its Comp has been sent its queue offers nothing. The
Barrier row is stated where nothing that has been sent ends, and no promoted work books, in the same cycle. The row runs on
from its commit, and a row not due does nothing, by the model's choice (log entries 23 and 31). R209 to R211, R225, R226,
R251: after what has been sent by then is performed, the due head of a wait list books its path, or counts another try (stated
where no promoted work books before it); a request that has waited SPUR_THRESHOLD strides is promoted, counted, and keeps its
place. Where the condition of a row is not met nothing happens (the model's choice, log entry 23). The order of the promoted
work is log entry 103. -/
def Obligations.BarriersAndWaiters : Prop :=
  (∀ (s v : State) (half : Fin 32) (cyc : Fin 64) (r : Req) (stream : BitVec 9) (id : Nat) (x : QReq),
     let h := half.val
     let b : Req := { r with opcode := BitVec.ofNat 6 Op.barrier }
     let q := h * 512 + r.stream.toNat
     let before : Nat → Bool := s.queueOpen h
     let w := s.sentBy (s.now * 64)
     (s.commit h cyc b = (some id, v) → v.nextQueue h = some (q, x) → x.id = id → x.req = b → s.halfUp h = true →
       v.earlyRefusal b.op = none → v.inputError h b = none → v.lateRefusal h x.id b = none → v.sentBy (v.now * 64 + cyc.val) = v → v.sentBy (v.now * 64) = v → v.bookEarly (v.now * 64 + cyc.val) = v →
       (before q = false → Assoc.find? q s.ports.barriers = none → Does (.barrier half cyc r) s fun u =>
         .rsp h 0x10 r.tag 0 ∈ u.sent ∧ Assoc.find? q u.ports.barriers = none
         ∧ u.obj Obj.barriers = satAdd32 (s.obj Obj.barriers) 1 ∧ u.tiers = s.tiers ∧ u.mem = s.mem)
       ∧ (before q = true → Does (.barrier half cyc r) s fun u =>
         Assoc.find? q u.ports.barriers = some x ∧ u.offered q = none ∧ u.sent = s.sent ∧ u.tiers = s.tiers ∧ u.mem = s.mem))
     ∧ (let p := h * 512 + stream.toNat
       Assoc.find? p w.ports.barriers = some x →
       (w.halfUp h = true → w.queueOpen h p = false → Does (.barrierComp half stream) s fun u =>
         .rsp h 0x10 x.req.tag 0 ∈ u.sent ∧ Assoc.find? p u.ports.barriers = none ∧ u.offered p = none ∧ u.home = w.home
         ∧ u.tiers = w.tiers ∧ u.mem = w.mem)
       ∧ (w.queueOpen h p = true → exec (.barrierComp half stream) s = .next w))
     ∧ (∀ p, (Assoc.find? p s.ports.barriers).isSome = true → s.offered p = none)
     ∧ (Assoc.find? (h * 512 + stream.toNat) w.ports.barriers = none → exec (.barrierComp half stream) s = .next w))
  ∧ (∀ (s₀ : State) (slice : Fin 16) (t : Txn),
       let s := s₀.sentBy (s₀.now * 64)
       let c := s.now * 64
       let h := t.half.getD 0
       let heads := s.home.txns.filter fun t => t.slice == slice.val && s.headDue t
       let p : Path := { id := t.id, req := t.req, line := t.line, slice := t.slice, half := h, pc := s.partClass t.req.partid.toNat,
                         promoted := t.promoted, arrive := c }
       (s.early = [] → heads = [] → exec (.headBooking slice) s₀ = .next s)
       ∧ (s.early = [] → heads = [t] → s.txn t.id = some t →
         (∀ grp s', s.bookGroups c p (s.admGroups h t.req t.slice) = .inr (grp, s') → Does (.headBooking slice) s₀ fun u =>
           u.txn t.id = some { t with group := grp, arrive := c, acceptAt := c - 4, lostAt := (s.link h).lost, counted := true } ∧ u.gait = s'.gait
           ∧ u.home.dir = s.home.dir ∧ u.tiers = s.tiers ∧ u.sent = s.sent)
         ∧ (∀ w, s.bookGroups c p (s.admGroups h t.req t.slice) = .inl w → Does (.headBooking slice) s₀ fun u =>
           u = (s.bump Obj.headRetries).updTxn t.id fun t => { t with triedAt := some s.now }))
       ∧ ((∀ a ∈ s₀.aged, s₀.now - a.start < s₀.eff Obj.spurThreshold) → exec .spurPromotion s₀ = .next s₀)
       ∧ (∀ a, s₀.aged = [a] → a.promoted = false → s₀.eff Obj.spurThreshold ≤ s₀.now - a.start → Does .spurPromotion s₀ fun u =>
         u.obj Obj.spurPromotions = satAdd32 (s₀.obj Obj.spurPromotions) 1
         ∧ (∀ x, s₀.txn a.id = some x → u.txn a.id = some { x with promoted := true })
         ∧ u.home.dir = s₀.home.dir ∧ u.tiers = s₀.tiers ∧ u.gait = s₀.gait ∧ u.sent = s₀.sent))

/-- R119, R120, R125, R126: a clean fill that its Fill slot serves takes a Kernel way, its tag written Clean, and its data
stays staged until the bank write; the victim it displaces is staged; a fill that four strides have not served is dropped and
counted, and its way, if it had one, is given up. Without a fill to serve, or a slot, nothing happens. Where the condition of
a row is not met nothing happens (the model's choice, log entry 23). R119, R125: in a bank Eviction slot a victim still in its
bank is read out into its staging entry; in a bank slot of the class that allocated it, a staged line whose victim has been
read out is put into the bank and frees its entry. Where the condition of a row is not met nothing happens (the model's
choice, log entry 23). -/
def Obligations.KernelFills : Prop :=
  (∀ (s : State) (sl : Fin 16) (cyc : Fin 64) (e : Staged),
     let waits := s.tiers.staging.find? fun x => x.slice == sl.val && x.kind == .cleanFill && x.loc.isNone
     let late := s.tiers.staging.find? fun x => x.slice == sl.val && x.kind == .cleanFill && x.stale (s.now * 64 + cyc.val)
     (waits = none ∨ s.takeSlot 0 sl cyc Cls.fl 1 = none → exec (.kernelFill sl cyc) s = .next s)
     ∧ (∀ (w : Nat) (v u : State), waits = some e → s.takeSlot 0 sl cyc Cls.fl 1 = some v → e.stale (s.now * 64 + cyc.val) = false →
       s.modes.mode.noAlloc = false → s.kernelHit e.line = none →
       v.chooseKernel (ksetOf (e.line * 128)) e.partid.toNat cyc = some w → v.evictKernel (ksetOf (e.line * 128)) w cyc 0 = some u →
       Does (.kernelFill sl cyc) s fun t =>
         t.ktag (ksetOf (e.line * 128)) w
           = some { tag := ktagOf (e.line * 128), st := .clean, keyid := e.keyid, partid := e.partid }
         ∧ t.tiers.staging = updFirst (fun x => x.id == e.id) (fun x => { x with loc := some (ksetOf (e.line * 128), w) }) u.tiers.staging
         ∧ t.tiers.kdata = u.tiers.kdata ∧ t.tiers.sectors = u.tiers.sectors ∧ t.mem = u.mem ∧ t.home = u.home ∧ t.modes = u.modes)
     ∧ (late = none → exec (.fillDrop sl cyc) s = .next s)
     ∧ (late = some e → Does (.fillDrop sl cyc) s fun t =>
         t.tiers.staging = s.tiers.staging.filter (fun x => x.id != e.id)
         ∧ t.obj Obj.fillDrops = satAdd32 (s.obj Obj.fillDrops) 1 ∧ ObjsKept s t [Obj.fillDrops]
         ∧ (e.loc = none → t.tiers.ktags = s.tiers.ktags) ∧ t.tiers.kdata = s.tiers.kdata ∧ t.tiers.sectors = s.tiers.sectors
         ∧ t.home = s.home ∧ t.mem = s.mem ∧ t.modes = s.modes))
  ∧ (∀ (s v : State) (sl : Fin 16) (cyc : Fin 64) (e : Staged),
       let victim := s.tiers.staging.find? fun x => x.slice == sl.val && x.kind == .victim && x.data.isNone
       let write := s.tiers.staging.find? fun e => s.bankReady sl e && (s.takeSlot 1 sl cyc e.cls 1).isSome
       (victim = none ∨ s.takeSlot 1 sl cyc Cls.ev 1 = none → exec (.kernelVictimReadout sl cyc) s = .next s)
       ∧ (victim = some e → s.takeSlot 1 sl cyc Cls.ev 1 = some v → Does (.kernelVictimReadout sl cyc) s fun t =>
           t = v.withTiers { v.tiers with
             staging := updFirst (fun x => x.id == e.id) (fun x => { x with data := some (v.stagedData e), loc := none }) v.tiers.staging })
       ∧ (write = none → exec (.kernelBankWrite sl cyc) s = .next s)
       ∧ (∀ kset w, write = some e → e.loc = some (kset, w) → s.takeSlot 1 sl cyc e.cls 1 = some v →
         e.kind ≠ .cleanFill ∨ e.stale (s.now * 64 + cyc.val) = false → Does (.kernelBankWrite sl cyc) s fun t =>
           Assoc.getD t.tiers.kdata (kset * 12 + w) 0 = e.data.getD 0
           ∧ (∀ k, k ≠ kset * 12 + w → Assoc.getD t.tiers.kdata k 0 = Assoc.getD s.tiers.kdata k 0)
           ∧ t = v.withTiers { v.tiers with kdata := t.tiers.kdata, staging := v.tiers.staging.filter fun x => x.id != e.id }))

/-- R119, R129, R134, R346, R561: a dirty victim's placement is chosen in its tag-slice Writeback slot, a sector present for
the same KEYID first (the clause here); in a Writeback slot of the Husk port and its check port, of which no bank is
refresh-busy, the line is written into its sector with its check entry and the state it has by then, and its staging entry
freed; in their Eviction slots the owed lines of a replaced sector are read into the Hull one by one, Poisoned where the check
entry names another line (R347); after the last one, in a tag-slice Eviction slot, the new sector takes the way. Where the
condition of a row is not met nothing happens (the model's choice, log entry 23). R119, R127, R128: in a Fill slot a clean
victim is offered to the Husk; an offer that Table 3.7 declines is counted under its first reason, and the victim is gone
either way; one that is taken is Clean in its sector, present or new, or Dirty where the line was Poisoned. Where the
condition of a row is not met nothing happens (the model's choice, log entry 23). -/
def Obligations.HuskPlacement : Prop :=
  (∀ (s v : State),
     (∀ (sl : Fin 16) (cyc : Fin 64),
       let waits := s.tiers.staging.find? fun y =>
         y.slice == sl.val && y.kind == .victim && y.st.owed && y.data.isSome && y.target.isNone
       (waits = none ∨ s.takeSlot 0 sl cyc Cls.wb 1 = none → exec (.dirtyVictimPlacement sl cyc) s = .next s)
       ∧ (∀ (e : Staged) (w : Nat) (x : Sector), waits = some e → s.takeSlot 0 sl cyc Cls.wb 1 = some v →
         v.huskPlace e.line e.keyid.toNat e.partid.toNat cyc = .present w → s.sector (hsetOf (e.line * 128)) w = some x →
         Does (.dirtyVictimPlacement sl cyc) s fun t =>
           t.sector (hsetOf (e.line * 128)) w = some (x.set (lineIn (e.line * 128)) e.st)
           ∧ t.tiers.staging = updFirst (fun y => y.id == e.id)
               (fun y => { y with target := some (hsetOf (e.line * 128), w), pwbReserved := false }) s.tiers.staging
           ∧ t.tiers.ktags = s.tiers.ktags ∧ t.tiers.hdata = s.tiers.hdata ∧ t.mem = s.mem ∧ t.home = s.home ∧ t.dict = s.dict))
     ∧ (∀ (port : Fin 16) (slot : Fin 32),
       let ready := s.tiers.staging.find? (s.huskReady port)
       let slots : Nat → Option State := fun line =>
         s.takeSlots 2 port (checkPort port) slot Cls.wb 1 (some (hsetOf (line * 128), lineIn (line * 128)))
       ((∀ e ∈ ready, slots e.line = none) → exec (.huskWriteback port slot) s = .next s)
       ∧ (∀ (e : Staged) (hset w : Nat), ready = some e → e.target = some (hset, w) → (slots e.line).isSome = true →
         Does (.huskWriteback port slot) s fun t =>
           t.huskData hset w (lineIn (e.line * 128)) = e.data.getD 0
           ∧ t.tiers.hdata = Assoc.put (huskKey hset w (lineIn (e.line * 128)))
               { chans := huskSplit (e.data.getD 0), keyGen := s.mem.huskGen } s.tiers.hdata
           ∧ Assoc.find? (checkKey hset w (lineIn (e.line * 128))) t.tiers.hchecks
               = some { addr := e.line, poison := e.st == .poisoned }
           ∧ t.tiers.staging = s.tiers.staging.filter (fun y => y.id != e.id)
           ∧ t.sector hset w = (s.sector hset w).map (fun y => y.set (lineIn (e.line * 128)) e.st)
           ∧ (∀ k, k ≠ hset * 16 + w → Assoc.find? k t.tiers.sectors = Assoc.find? k s.tiers.sectors)
           ∧ t.tiers.ktags = s.tiers.ktags ∧ t.mem = s.mem ∧ t.home = s.home ∧ t.dict = s.dict))
     ∧ (∀ (port : Fin 16) (slot : Fin 32),
       let owes := s.tiers.repl.find? fun r => portOfWay r.hset r.way == port.val && !r.left.isEmpty
       let slots : Nat × Nat → Option State := fun place => s.takeSlots 2 port (checkPort port) slot Cls.ev 1 (some place)
       ((∀ r ∈ owes, ∀ n ∈ r.left.head?, slots (r.hset, n) = none) → exec (.sectorReplacementRead port slot) s = .next s)
       ∧ (∀ (r : Repl) (n : Nat) (rest : List Nat) (x : Sector), owes = some r → r.left = n :: rest →
         s.sector r.hset r.way = some x → (slots (r.hset, n)).isSome = true → Does (.sectorReplacementRead port slot) s fun t =>
           t.tiers.hull = updFirst (fun (e : Hull) => e.line == laOfH r.hset x.tag n / 128 && e.data.isNone)
             (fun e => { e with data := some (s.huskData r.hset r.way n),
                                poison := e.poison || x.st n == .poisoned || s.checkWrong r.hset r.way n (laOfH r.hset x.tag n / 128) })
             s.tiers.hull
           ∧ t.tiers.repl = updFirst (fun y => y.hset == r.hset && y.way == r.way) (fun y => { y with left := rest }) s.tiers.repl
           ∧ t.tiers.sectors = s.tiers.sectors ∧ t.tiers.hdata = s.tiers.hdata ∧ t.mem = s.mem ∧ t.home = s.home))
     ∧ (∀ (sl : Fin 16) (cyc : Fin 64),
       let done := s.tiers.repl.find? fun r => r.hset / 32768 == sl.val && r.left.isEmpty
       (done = none ∨ s.takeSlot 0 sl cyc Cls.ev 1 = none → exec (.sectorTagWrite sl cyc) s = .next s)
       ∧ (∀ (r : Repl), done = some r → r.keep = false → (s.takeSlot 0 sl cyc Cls.ev 1).isSome = true →
         Does (.sectorTagWrite sl cyc) s fun t =>
           t.sector r.hset r.way = r.incoming
           ∧ t.tiers.repl = dropFirst (fun y => y.hset == r.hset && y.way == r.way) s.tiers.repl
           ∧ t.tiers.hull = s.tiers.hull ∧ t.tiers.ktags = s.tiers.ktags ∧ t.mem = s.mem ∧ t.home.dir = s.home.dir)))
  ∧ (∀ (s v : State) (sl : Fin 16) (cyc : Fin 64) (e : Staged),
       let waits := s.tiers.staging.find? fun x => x.slice == sl.val && x.kind == .victim && x.st == .clean && x.data.isSome
       (waits = none ∨ s.takeSlot 0 sl cyc Cls.fl 1 = none → exec (.cleanOffer sl cyc) s = .next s)
       ∧ (waits = some e → s.takeSlot 0 sl cyc Cls.fl 1 = some v →
       (∀ r, 0 < r → r ≤ 7 → v.offer e cyc = .declined r →
         Does (.cleanOffer sl cyc) s fun t =>
           t.tiers = { s.tiers with staging := s.tiers.staging.filter fun x => x.id != e.id }
           ∧ t.obj (Obj.declineCount + r - 1) = satAdd32 (s.obj (Obj.declineCount + r - 1)) 1
           ∧ t.mem = s.mem ∧ t.home = s.home ∧ t.modes = s.modes)
       ∧ (v.offer e cyc = .accepted →
         Does (.cleanOffer sl cyc) s fun t =>
           t.tiers = { s.tiers with staging := s.tiers.staging.filter fun x => x.id != e.id }
           ∧ t.mem = s.mem ∧ t.home = s.home ∧ t.dict = s.dict)
       ∧ (∀ w x, v.offer e cyc = .present w → s.sector (hsetOf (e.line * 128)) w = some x →
         Does (.cleanOffer sl cyc) s fun t =>
           t.sector (hsetOf (e.line * 128)) w = some (x.set (lineIn (e.line * 128))
               (if x.st (lineIn (e.line * 128)) = .poisoned then .dirty else .clean))
           ∧ t.tiers.staging = s.tiers.staging.filter (fun y => y.id != e.id)
           ∧ t.huskData (hsetOf (e.line * 128)) w (lineIn (e.line * 128)) = e.data.getD 0
           ∧ t.mem = s.mem ∧ t.home = s.home ∧ t.dict = s.dict)
       ∧ (∀ w, v.offer e cyc = .take w →
         Does (.cleanOffer sl cyc) s fun t =>
           (∃ y : Sector, t.sector (hsetOf (e.line * 128)) w = some y ∧ y.tag = htagOf (e.line * 128) ∧ y.keyid = e.keyid
             ∧ y.partid = e.partid ∧ y.dcnt = 0 ∧ y.st (lineIn (e.line * 128)) = .clean)
           ∧ t.tiers.staging = s.tiers.staging.filter (fun x => x.id != e.id)
           ∧ t.huskData (hsetOf (e.line * 128)) w (lineIn (e.line * 128)) = e.data.getD 0
           ∧ t.mem = s.mem ∧ t.home = s.home)))

/-- R116: setting the state of one of a sector's 32 lines sets it, leaves the other lines, and keeps DCNT the number of Dirty
and Poisoned lines. R150, R151, R152: a counted write of a queue in ascending order within the window counts, and brings its
detector into streaming at the threshold; a write out of order starts the count again at 1; a detector leaves streaming after
STREAM_GAP strides without one, or when streaming is disabled. -/
def Obligations.SectorsAndStreams : Prop :=
  (∀ (x : Sector) (n m : Nat) (st : LState), n < 32 → m < 32 →
     (x.set n st).st m = (if m = n then st else x.st m) ∧ (x.set n st).dcnt = (x.set n st).owedLines.length
     ∧ (x.set n st).tag = x.tag ∧ (x.set n st).keyid = x.keyid ∧ (x.set n st).partid = x.partid)
  ∧ ((∀ (d : Stream) (threshold line now : Nat), 0 < d.count → d.last < line → line ≤ d.last + 0x800 → 0 < threshold →
       d.streaming = false →
       let r := streamUpdate d threshold line now
       r.1.last = line ∧ r.1.ascStride = now ∧ (r.2 = true ↔ threshold ≤ d.count + 1) ∧ (r.1.streaming = true ↔ threshold ≤ d.count + 1)
       ∧ r.1.count = min (d.count + 1) threshold)
     ∧ (∀ (d : Stream) (threshold line now : Nat), line ≤ d.last ∨ d.last + 0x800 < line → 1 < threshold →
       streamUpdate d threshold line now = ({ d with count := 1, last := line }, false))
     ∧ (∀ (s : State),
       Does .streamExit s fun t =>
         t = s.withTiers { s.tiers with streams := t.tiers.streams }
         ∧ t.tiers.streams = s.tiers.streams.map fun x =>
             if x.2.streaming = true ∧ (s.eff Obj.streamThreshold = 0 ∨ x.2.ascStride + s.eff Obj.streamGap ≤ s.now) then
               (x.1, { x.2 with streaming := false, count := 0 })
             else x))

/-- R37, R44, R431, R518, R554: while the stride timer runs, a stride boundary increments STRIDE_COUNT, the leader drives a
pulse of 16 cycles at an epoch boundary and of 8 at others and a follower none, no write is left pending and one of
STREAM_THRESHOLD is in force, DIE_TEMP takes the reading, held to its range of 0 to 150 (the model's choice, log entry 164),
and its peak is no less; a reading of 120 or more while VDD is in range takes THERMTRIP_N low; Groom's clock, while it runs or
waits, makes up the 32 cycles of the stride, and the fuses stay. While the timer does not run, nothing happens (the model's
choice, log entry 23). R37, R348, R529, R530, R538: at an epoch boundary, once, a WAITE returns with the boundaries counted
since the last return, a running Groom has an overrun counted, a halted one a halted epoch, and the hottest Husk port in
service is reported; the tiers, the ports, the gaits and the mode stay. Elsewhere nothing happens (the model's choice, log
entry 23). -/
def Obligations.Boundaries : Prop :=
  (∀ (s : State) (temp : BitVec 8),
     (s.timerRuns = true → Does (.strideBoundary temp) s fun t =>
       t.time.stride = s.time.stride + 1
       ∧ t.time.syncOut = (if s.leader = false then 0 else if t.time.stride.toNat % 1024 = 0 then 16 else 8)
       ∧ t.dict.pending = [] ∧ (∀ w, s.dict.pending = [(Obj.streamThreshold, w)] → t.effObj Obj.streamThreshold = w)
       ∧ t.obj Obj.dieTemp = BitVec.ofNat 64 (min temp.toNat 150) ∧ min temp.toNat 150 ≤ (t.obj Obj.dieTempPeak).toNat
       ∧ t.pkg = (if 120 ≤ temp.toNat ∧ s.modes.rails.getLsbD 0 = true then { s.pkg with thermtrip := true } else s.pkg)
       ∧ (let rest := 32 - s.groom.spent
         t.groom = if s.groom.run = .running ∨ s.groom.run = .waite then
             { s.groom with cycle := s.groom.cycle + BitVec.ofNat 32 rest, spent := s.groom.spent + rest - 32 }
           else s.groom)
       ∧ t.fuse = s.fuse)
     ∧ (s.timerRuns = false → exec (.strideBoundary temp) s = .next s))
  ∧ (∀ (s : State) (temps : List (BitVec 8)),
       (s.timerRuns = true → s.now % 1024 = 0 → s.time.epochAt ≠ some s.now → Does (.epochBoundary temps) s fun t =>
         t.time.epochAt = some s.now ∧ t.time.stride = s.time.stride
         ∧ t.tiers = s.tiers ∧ t.ports = s.ports ∧ t.gait = s.gait ∧ t.modes = s.modes
         ∧ t.obj Obj.huskTempMax = BitVec.ofNat 64
             ((List.range 18).foldl (fun m j => if s.portInService j then max m (temps.getD j 0).toNat else m) 0)
         ∧ (s.groom.run = .running → t.groom = { s.groom with
               overruns := s.groom.overruns + 1, missed := s.groom.missed + 1, dog := s.groom.dog + 1 }
             ∧ t.obj Obj.groomOverruns = satAdd32 (s.obj Obj.groomOverruns) 1)
         ∧ (s.groom.run = .waite → t.groom.missed = 0 ∧ t.groom.restarts = 0 ∧ t.groom.pc = s.groom.pc
             ∧ (t.groom.run = .running ∨ t.groom.run = .halted)
             ∧ GroomWrites s t s.groom.waitReg (BitVec.ofNat 32 (s.groom.missed + 1)))
         ∧ (s.groom.run = .halted → t.groom = s.groom ∧ t.obj Obj.groomHaltEpochs = satAdd32 (s.obj Obj.groomHaltEpochs) 1))
       ∧ (s.timerRuns = false ∨ s.now % 1024 ≠ 0 ∨ s.time.epochAt = some s.now → exec (.epochBoundary temps) s = .next s))

/-- R39 to R42: a follower in service compares each pulse with its boundary: a good one ends a run of misaligned strides, a
bad or absent one lengthens it, and the second of a run sets SYNC_LOST, counts an error and has source 0x0B9's event. That the
third and later ones of a run only lengthen it is the model's choice (log entry 127); the leader, and a follower out of
service, ignore the pulse (the model's choice, log entry 23). R40, R43: a follower in step 9 of Bring-up aligns its boundary
at the first valid epoch pulse, where STRIDE_SYNC_DELAY comes into force, and the event balls' filters keep the samples they
have; pulses in tolerance are then counted, and at the 1,024th in a row the step completes with STRIDE_SYNC_STATUS aligned.
What bits [63:10] of STRIDE_COUNT become is free (log entry 9); that a pulse out of tolerance starts the count again is the
model's choice (log entry 127). Where the condition of a row is not met nothing happens (the model's choice, log entry 23). -/
def Obligations.StrideAlignment : Prop :=
  (∀ (s : State) (edge : Int) (width : Nat),
     let good := -2 ≤ edge - s.time.delay ∧ edge - s.time.delay ≤ 2 ∧ width = (if s.now % 1024 = 0 then 16 else 8)
     let only : State → Prop := fun t => t = s.withTime t.time ∧ t.time = { s.time with bad := t.time.bad }
     let lost : Option Int → Prop := fun e => Does (.strideSyncPulse e width) s fun t =>
       t.time = { s.time with bad := 2 } ∧ (t.obj Obj.strideSyncStatus).toNat.testBit 1 = true
       ∧ t.obj Obj.strideSyncErrors = satAdd32 (s.obj Obj.strideSyncErrors) 1 ∧ Raised s t 0xB9
       ∧ ObjsKept s t [Obj.strideSyncStatus, Obj.strideSyncErrors] ∧ WroteRaised (s.withTime t.time) t
     (s.leader = false → s.modes.mode.service = true →
       (good → Does (.strideSyncPulse (some edge) width) s fun t => t.time.bad = 0 ∧ only t)
       ∧ (¬ good → s.time.bad ≠ 1 → Does (.strideSyncPulse (some edge) width) s fun t => t.time.bad = s.time.bad + 1 ∧ only t)
       ∧ (s.time.bad ≠ 1 → Does (.strideSyncPulse none width) s fun t => t.time.bad = s.time.bad + 1 ∧ only t)
       ∧ (s.time.bad = 1 → lost none)
       ∧ (¬ good → s.time.bad = 1 → lost (some edge)))
     ∧ (s.leader = true ∨ s.modes.mode.service = false → exec (.strideSyncPulse (some edge) width) s = .next s))
  ∧ (∀ (s : State) (edge : Int) (e : Option Int) (width : Nat), s.leader = false → s.stepRuns 9 = true →
       (s.time.phase = .waiting → Does (.followerAlignment (some edge) 16) s fun t =>
         t.time.phase = .counting ∧ t.time.good = 0 ∧ t.now % 1024 = 0 ∧ t.obj Obj.strideAtSync = t.time.stride
         ∧ t.time.delay = (s.obj Obj.strideSyncDelay).toNat ∧ ObjsKept s t [Obj.strideAtSync]
         ∧ t.irq = { s.irq with restartAt := s.irq.restartAt.map fun x => (x.1, x.2 + ((t.now : Int) - s.now)) }
         ∧ WroteOnly (((s.withTime t.time).withFree t.free).withIrq t.irq) t)
       ∧ (s.time.phase = .waiting → width ≠ 16 → exec (.followerAlignment e width) s = .next s)
       ∧ (s.time.phase = .counting → s.pulseNear e = true → s.time.good < 1023 →
         Does (.followerAlignment e width) s fun t => t = s.withTime { s.time with good := s.time.good + 1 })
       ∧ (s.time.phase = .counting → s.pulseNear e = true → s.time.good = 1023 →
         Does (.followerAlignment e width) s fun t =>
           t.time = { s.time with good := 1024, phase := .aligned } ∧ t.obj Obj.strideSyncStatus = 1 ∧ t.stepDone 9 = true
           ∧ WroteOnly ((s.withTime t.time).withModes t.modes) t)
       ∧ (s.time.phase = .counting → s.pulseNear e = false →
         Does (.followerAlignment e width) s fun t => t = s.withTime { s.time with good := 0 }))

/-- R498, R509, R431: an accepted write of a counter or of its allocation is read back at once, in the form that the object
keeps, and is pending until the next stride boundary; nothing else changes. R507, Table 13.6: at the epoch boundary that
closes a window the live values of the enabled halves stand and restart, and those of other halves stay. The window objects of
each enabled half then take what stands, with the boundary as HIST_END; its sequence number advances, and source 0x220 plus
the half has its event. Where no window is due nothing happens (the model's choice, log entry 23). When a new window starts is
the model's reading (log entry 89). -/
def Obligations.CountersAndHistograms : Prop :=
  (∀ (s : State) (lvl : Level) (n : BitVec 8) (v : Reg),
     let written : Instr → Nat → Prop := fun i k => s.accepts lvl k v.toNat = true → Does i s fun t =>
       ∃ w, t.obj k = w ∧ t.dict.pending = s.dict.pending ++ [(k, w)] ∧ t.dict.eff = s.dict.eff ∧ t.pmu = s.pmu
         ∧ (∀ r, objRow k = some r → w = BitVec.ofNat 64 (r.rng.keep (r.ty.clip v.toNat)))
         ∧ (∀ j, j ≠ k → t.obj j = s.obj j) ∧ Answered t lvl k 0
         ∧ WroteOnly (s.withDict { s.dict with pending := t.dict.pending }) t
     written (.ctrValueWrite lvl false n v) (arr16 Obj.ctrValue n.toNat)
     ∧ (n.toNat < 32 → written (.ctrValueWrite lvl true n v) (arr16 Obj.fixedValue n.toNat))
     ∧ written (.ctrOwnerWrite lvl n v) (arr16 Obj.ctrOwner n.toNat))
  ∧ (∀ s : State,
       (s.pmu.windowDue = true → Does .histWindowClose s fun t =>
         t.pmu = { s.pmu with windowDue := false, closing := [] } ∧ WroteRaised (s.withPmu t.pmu) t
         ∧ ∀ h, h < 32 → (s.eff Obj.histEnable).testBit h = true →
           let x := Assoc.getD s.pmu.closing h {}
           (∀ b, b < 16 → t.obj (Obj.histBinLow + h * 256 + b) = BitVec.ofNat 64 (min (x.bins.getD b 0) 0xFFFFFFFF)
               ∧ t.obj (Obj.histBinHigh + h * 256 + b) = BitVec.ofNat 64 (min (x.bins.getD (16 + b) 0) 0xFFFFFFFF))
           ∧ t.obj (Obj.histReads + h * 256) = BitVec.ofNat 64 (min x.reads 0xFFFFFFFF)
           ∧ t.obj (Obj.histBytesOut + h * 256) = BitVec.ofNat 64 x.bytesOut
           ∧ t.obj (Obj.histBytesIn + h * 256) = BitVec.ofNat 64 x.bytesIn
           ∧ t.obj (Obj.histMax + h * 256) = BitVec.ofNat 64 (min x.max 0xFFFF)
           ∧ t.obj (Obj.histOverBound + h * 256) = BitVec.ofNat 64 (min x.overs 0xFFFFFFFF)
           ∧ t.obj (Obj.histEnd + h * 256) = BitVec.ofNat 64 s.pmu.closedAt
           ∧ t.obj (Obj.histSeq + h * 256) = BitVec.ofNat 64 (((s.obj (Obj.histSeq + h * 256)).toNat + 1) % 2 ^ 32)
           ∧ Raised s t (0x220 + h))
       ∧ (s.pmu.windowDue = false → exec .histWindowClose s = .next s)
       ∧ (∀ temps, s.timerRuns = true → s.now % 1024 = 0 → s.time.epochAt ≠ some s.now → s.pmu.restart = false →
           s.eff Obj.histWindow ≤ s.pmu.epochs + 1 → Does (.epochBoundary temps) s fun t =>
             t.pmu.windowDue = true ∧ t.pmu.closedAt = s.now ∧ t.pmu.epochs = 0
             ∧ ∀ h, h < 32 → (Assoc.find? h t.pmu.closing, Assoc.find? h t.pmu.live)
                 = if (s.eff Obj.histEnable).testBit h then (Assoc.find? h s.pmu.live, none) else (none, Assoc.find? h s.pmu.live)))

/-- R128: a clean offer that is served adds one to the DECLINE_COUNT of the reason for which it is declined, which saturates,
and leaves the other six; one that is taken, or not served, leaves all seven. -/
def Obligations.DeclinesCounted : Prop :=
  ∀ (s : State) (sl : Fin 16) (cyc : Fin 64) (n : Nat), 0 < n → n ≤ 7 →
    let waits := s.tiers.staging.find? fun x => x.slice == sl.val && x.kind == .victim && x.st == .clean && x.data.isSome
    let declined := ∃ e v, waits = some e ∧ s.takeSlot 0 sl cyc Cls.fl 1 = some v ∧ v.offer e cyc = .declined n
    Does (.cleanOffer sl cyc) s fun t =>
      (declined → t.obj (Obj.declineCount + n - 1) = satAdd32 (s.obj (Obj.declineCount + n - 1)) 1)
      ∧ (¬ declined → t.obj (Obj.declineCount + n - 1) = s.obj (Obj.declineCount + n - 1))
end

