-- ==== Sys2Proof/Laws/Assoc.lean ====
section
/-!
SUPPORT. The sparse arrays: a read after a write, and that a write keeps the keys rising.
-/
namespace Sys2Proof

theorem Assoc.find_put {β : Type} (k : Nat) (v : β) (j : Nat) :
    ∀ m : Assoc β, Assoc.find? j (Assoc.put k v m) = if j = k then some v else Assoc.find? j m
  | [] => by
    by_cases h : k = j
    · simp [Assoc.put, Assoc.find?, h]
    · simp [Assoc.put, Assoc.find?, h, Ne.symm h]
  | (i, w) :: m => by
    unfold Assoc.put
    split
    · by_cases h : k = j
      · simp [Assoc.find?, h]
      · simp [Assoc.find?, h, Ne.symm h]
    · split
      · subst_vars
        by_cases h : i = j
        · simp [Assoc.find?, h]
        · simp [Assoc.find?, h, Ne.symm h]
      · rw [Assoc.find?, Assoc.find?, Assoc.find_put k v j m]
        by_cases h : i = j
        · subst h
          rw [if_pos rfl, if_neg (by omega), if_pos rfl]
        · rw [if_neg h, if_neg h]

theorem Assoc.find_drop {β : Type} (k j : Nat) :
    ∀ m : Assoc β, Assoc.find? j (Assoc.drop k m) = if j = k then none else Assoc.find? j m
  | [] => by simp [Assoc.drop, Assoc.find?]
  | (i, w) :: m => by
    unfold Assoc.drop
    by_cases hi : i = k
    · rw [if_pos hi, Assoc.find_drop k j m, Assoc.find?]
      by_cases h : j = k
      · simp [h]
      · rw [if_neg h, if_neg h, if_neg (by omega)]
    · rw [if_neg hi, Assoc.find?, Assoc.find_drop k j m, Assoc.find?]
      by_cases h : i = j
      · subst h
        simp [hi]
      · simp [h]

/-- A read after a write in a store whose unlisted entries read as `d`. -/
@[simp] theorem Assoc.getD_putD {β : Type} [DecidableEq β] (m : Assoc β) (k j : Nat) (d v : β) :
    Assoc.getD (Assoc.putD m k d v) j d = if j = k then v else Assoc.getD m j d := by
  unfold Assoc.getD Assoc.putD
  by_cases hv : v = d
  · rw [if_pos hv, Assoc.find_drop]
    by_cases h : j = k
    · simp [h, hv]
    · simp [h]
  · rw [if_neg hv, Assoc.find_put]
    by_cases h : j = k
    · simp [h]
    · simp [h]

/-- A read of another key, whatever it reads as unlisted. -/
theorem Assoc.getD_putD_ne {β : Type} [DecidableEq β] (m : Assoc β) {k j : Nat} (d e v : β) (h : j ≠ k) :
    Assoc.getD (Assoc.putD m k d v) j e = Assoc.getD m j e := by
  unfold Assoc.getD Assoc.putD
  by_cases hv : v = d
  · rw [if_pos hv, Assoc.find_drop, if_neg h]
  · rw [if_neg hv, Assoc.find_put, if_neg h]

end Sys2Proof
end

