-- ==== Sys2Proof/Laws/State.lean ====
section
/-!
SUPPORT. What each named update of the state leaves as it was, one lemma per field, and what a read after it gives.
-/
namespace Sys2Proof.Machine

section
variable (s : State)

/-! ### withFree -/

@[simp] theorem State.withFree_free (x : Nat) : (s.withFree x).free = x := rfl
@[simp] theorem State.withFree_time (x : Nat) : (s.withFree x).time = s.time := rfl
@[simp] theorem State.withFree_dict (x : Nat) : (s.withFree x).dict = s.dict := rfl
@[simp] theorem State.withFree_gait (x : Nat) : (s.withFree x).gait = s.gait := rfl
@[simp] theorem State.withFree_tiers (x : Nat) : (s.withFree x).tiers = s.tiers := rfl
@[simp] theorem State.withFree_home (x : Nat) : (s.withFree x).home = s.home := rfl
@[simp] theorem State.withFree_ports (x : Nat) : (s.withFree x).ports = s.ports := rfl
@[simp] theorem State.withFree_mem (x : Nat) : (s.withFree x).mem = s.mem := rfl
@[simp] theorem State.withFree_rel (x : Nat) : (s.withFree x).rel = s.rel := rfl
@[simp] theorem State.withFree_modes (x : Nat) : (s.withFree x).modes = s.modes := rfl
@[simp] theorem State.withFree_bridle (x : Nat) : (s.withFree x).bridle = s.bridle := rfl
@[simp] theorem State.withFree_irq (x : Nat) : (s.withFree x).irq = s.irq := rfl
@[simp] theorem State.withFree_pmu (x : Nat) : (s.withFree x).pmu = s.pmu := rfl
@[simp] theorem State.withFree_groom (x : Nat) : (s.withFree x).groom = s.groom := rfl
@[simp] theorem State.withFree_pkg (x : Nat) : (s.withFree x).pkg = s.pkg := rfl
@[simp] theorem State.withFree_fuse (x : Nat) : (s.withFree x).fuse = s.fuse := rfl
@[simp] theorem State.withFree_sent (x : Nat) : (s.withFree x).sent = s.sent := rfl
@[simp] theorem State.withFree_pending (x : Nat) : (s.withFree x).pending = s.pending := rfl
@[simp] theorem State.withFree_obj (x : Nat) (j : Nat) : (s.withFree x).obj j = s.obj j := rfl
@[simp] theorem State.withFree_effObj (x : Nat) (j : Nat) : (s.withFree x).effObj j = s.effObj j := rfl
@[simp] theorem State.withFree_eff (x : Nat) (j : Nat) : (s.withFree x).eff j = s.eff j := rfl
@[simp] theorem State.withFree_lock (x : Nat) (j : Nat) : (s.withFree x).lock j = s.lock j := rfl
@[simp] theorem State.withFree_now (x : Nat) : (s.withFree x).now = s.now := rfl
@[simp] theorem State.withFree_link (x : Nat) (j : Nat) : (s.withFree x).link j = s.link j := rfl
@[simp] theorem State.withFree_ring (x : Nat) (j : Nat) : (s.withFree x).ring j = s.ring j := rfl
@[simp] theorem State.withFree_source (x : Nat) (j : Nat) : (s.withFree x).source j = s.source j := rfl

/-! ### withTime -/

@[simp] theorem State.withTime_free (x : Time) : (s.withTime x).free = s.free := rfl
@[simp] theorem State.withTime_time (x : Time) : (s.withTime x).time = x := rfl
@[simp] theorem State.withTime_dict (x : Time) : (s.withTime x).dict = s.dict := rfl
@[simp] theorem State.withTime_gait (x : Time) : (s.withTime x).gait = s.gait := rfl
@[simp] theorem State.withTime_tiers (x : Time) : (s.withTime x).tiers = s.tiers := rfl
@[simp] theorem State.withTime_home (x : Time) : (s.withTime x).home = s.home := rfl
@[simp] theorem State.withTime_ports (x : Time) : (s.withTime x).ports = s.ports := rfl
@[simp] theorem State.withTime_mem (x : Time) : (s.withTime x).mem = s.mem := rfl
@[simp] theorem State.withTime_rel (x : Time) : (s.withTime x).rel = s.rel := rfl
@[simp] theorem State.withTime_modes (x : Time) : (s.withTime x).modes = s.modes := rfl
@[simp] theorem State.withTime_bridle (x : Time) : (s.withTime x).bridle = s.bridle := rfl
@[simp] theorem State.withTime_irq (x : Time) : (s.withTime x).irq = s.irq := rfl
@[simp] theorem State.withTime_pmu (x : Time) : (s.withTime x).pmu = s.pmu := rfl
@[simp] theorem State.withTime_groom (x : Time) : (s.withTime x).groom = s.groom := rfl
@[simp] theorem State.withTime_pkg (x : Time) : (s.withTime x).pkg = s.pkg := rfl
@[simp] theorem State.withTime_fuse (x : Time) : (s.withTime x).fuse = s.fuse := rfl
@[simp] theorem State.withTime_sent (x : Time) : (s.withTime x).sent = s.sent := rfl
@[simp] theorem State.withTime_pending (x : Time) : (s.withTime x).pending = s.pending := rfl
@[simp] theorem State.withTime_obj (x : Time) (j : Nat) : (s.withTime x).obj j = s.obj j := rfl
@[simp] theorem State.withTime_effObj (x : Time) (j : Nat) : (s.withTime x).effObj j = s.effObj j := rfl
@[simp] theorem State.withTime_eff (x : Time) (j : Nat) : (s.withTime x).eff j = s.eff j := rfl
@[simp] theorem State.withTime_lock (x : Time) (j : Nat) : (s.withTime x).lock j = s.lock j := rfl
@[simp] theorem State.withTime_link (x : Time) (j : Nat) : (s.withTime x).link j = s.link j := rfl
@[simp] theorem State.withTime_ring (x : Time) (j : Nat) : (s.withTime x).ring j = s.ring j := rfl
@[simp] theorem State.withTime_source (x : Time) (j : Nat) : (s.withTime x).source j = s.source j := rfl

/-! ### withDict -/

@[simp] theorem State.withDict_free (x : Dict) : (s.withDict x).free = s.free := rfl
@[simp] theorem State.withDict_time (x : Dict) : (s.withDict x).time = s.time := rfl
@[simp] theorem State.withDict_dict (x : Dict) : (s.withDict x).dict = x := rfl
@[simp] theorem State.withDict_gait (x : Dict) : (s.withDict x).gait = s.gait := rfl
@[simp] theorem State.withDict_tiers (x : Dict) : (s.withDict x).tiers = s.tiers := rfl
@[simp] theorem State.withDict_home (x : Dict) : (s.withDict x).home = s.home := rfl
@[simp] theorem State.withDict_ports (x : Dict) : (s.withDict x).ports = s.ports := rfl
@[simp] theorem State.withDict_mem (x : Dict) : (s.withDict x).mem = s.mem := rfl
@[simp] theorem State.withDict_rel (x : Dict) : (s.withDict x).rel = s.rel := rfl
@[simp] theorem State.withDict_modes (x : Dict) : (s.withDict x).modes = s.modes := rfl
@[simp] theorem State.withDict_bridle (x : Dict) : (s.withDict x).bridle = s.bridle := rfl
@[simp] theorem State.withDict_irq (x : Dict) : (s.withDict x).irq = s.irq := rfl
@[simp] theorem State.withDict_pmu (x : Dict) : (s.withDict x).pmu = s.pmu := rfl
@[simp] theorem State.withDict_groom (x : Dict) : (s.withDict x).groom = s.groom := rfl
@[simp] theorem State.withDict_pkg (x : Dict) : (s.withDict x).pkg = s.pkg := rfl
@[simp] theorem State.withDict_fuse (x : Dict) : (s.withDict x).fuse = s.fuse := rfl
@[simp] theorem State.withDict_sent (x : Dict) : (s.withDict x).sent = s.sent := rfl
@[simp] theorem State.withDict_pending (x : Dict) : (s.withDict x).pending = s.pending := rfl
@[simp] theorem State.withDict_now (x : Dict) : (s.withDict x).now = s.now := rfl
@[simp] theorem State.withDict_link (x : Dict) (j : Nat) : (s.withDict x).link j = s.link j := rfl
@[simp] theorem State.withDict_ring (x : Dict) (j : Nat) : (s.withDict x).ring j = s.ring j := rfl
@[simp] theorem State.withDict_source (x : Dict) (j : Nat) : (s.withDict x).source j = s.source j := rfl

/-! ### withGait -/

@[simp] theorem State.withGait_free (x : Gait) : (s.withGait x).free = s.free := rfl
@[simp] theorem State.withGait_time (x : Gait) : (s.withGait x).time = s.time := rfl
@[simp] theorem State.withGait_dict (x : Gait) : (s.withGait x).dict = s.dict := rfl
@[simp] theorem State.withGait_gait (x : Gait) : (s.withGait x).gait = x := rfl
@[simp] theorem State.withGait_tiers (x : Gait) : (s.withGait x).tiers = s.tiers := rfl
@[simp] theorem State.withGait_home (x : Gait) : (s.withGait x).home = s.home := rfl
@[simp] theorem State.withGait_ports (x : Gait) : (s.withGait x).ports = s.ports := rfl
@[simp] theorem State.withGait_mem (x : Gait) : (s.withGait x).mem = s.mem := rfl
@[simp] theorem State.withGait_rel (x : Gait) : (s.withGait x).rel = s.rel := rfl
@[simp] theorem State.withGait_modes (x : Gait) : (s.withGait x).modes = s.modes := rfl
@[simp] theorem State.withGait_bridle (x : Gait) : (s.withGait x).bridle = s.bridle := rfl
@[simp] theorem State.withGait_irq (x : Gait) : (s.withGait x).irq = s.irq := rfl
@[simp] theorem State.withGait_pmu (x : Gait) : (s.withGait x).pmu = s.pmu := rfl
@[simp] theorem State.withGait_groom (x : Gait) : (s.withGait x).groom = s.groom := rfl
@[simp] theorem State.withGait_pkg (x : Gait) : (s.withGait x).pkg = s.pkg := rfl
@[simp] theorem State.withGait_fuse (x : Gait) : (s.withGait x).fuse = s.fuse := rfl
@[simp] theorem State.withGait_sent (x : Gait) : (s.withGait x).sent = s.sent := rfl
@[simp] theorem State.withGait_pending (x : Gait) : (s.withGait x).pending = s.pending := rfl
@[simp] theorem State.withGait_obj (x : Gait) (j : Nat) : (s.withGait x).obj j = s.obj j := rfl
@[simp] theorem State.withGait_effObj (x : Gait) (j : Nat) : (s.withGait x).effObj j = s.effObj j := rfl
@[simp] theorem State.withGait_eff (x : Gait) (j : Nat) : (s.withGait x).eff j = s.eff j := rfl
@[simp] theorem State.withGait_lock (x : Gait) (j : Nat) : (s.withGait x).lock j = s.lock j := rfl
@[simp] theorem State.withGait_now (x : Gait) : (s.withGait x).now = s.now := rfl
@[simp] theorem State.withGait_link (x : Gait) (j : Nat) : (s.withGait x).link j = s.link j := rfl
@[simp] theorem State.withGait_ring (x : Gait) (j : Nat) : (s.withGait x).ring j = s.ring j := rfl
@[simp] theorem State.withGait_source (x : Gait) (j : Nat) : (s.withGait x).source j = s.source j := rfl

/-! ### withTiers -/

@[simp] theorem State.withTiers_free (x : Tiers) : (s.withTiers x).free = s.free := rfl
@[simp] theorem State.withTiers_time (x : Tiers) : (s.withTiers x).time = s.time := rfl
@[simp] theorem State.withTiers_dict (x : Tiers) : (s.withTiers x).dict = s.dict := rfl
@[simp] theorem State.withTiers_gait (x : Tiers) : (s.withTiers x).gait = s.gait := rfl
@[simp] theorem State.withTiers_tiers (x : Tiers) : (s.withTiers x).tiers = x := rfl
@[simp] theorem State.withTiers_home (x : Tiers) : (s.withTiers x).home = s.home := rfl
@[simp] theorem State.withTiers_ports (x : Tiers) : (s.withTiers x).ports = s.ports := rfl
@[simp] theorem State.withTiers_mem (x : Tiers) : (s.withTiers x).mem = s.mem := rfl
@[simp] theorem State.withTiers_rel (x : Tiers) : (s.withTiers x).rel = s.rel := rfl
@[simp] theorem State.withTiers_modes (x : Tiers) : (s.withTiers x).modes = s.modes := rfl
@[simp] theorem State.withTiers_bridle (x : Tiers) : (s.withTiers x).bridle = s.bridle := rfl
@[simp] theorem State.withTiers_irq (x : Tiers) : (s.withTiers x).irq = s.irq := rfl
@[simp] theorem State.withTiers_pmu (x : Tiers) : (s.withTiers x).pmu = s.pmu := rfl
@[simp] theorem State.withTiers_groom (x : Tiers) : (s.withTiers x).groom = s.groom := rfl
@[simp] theorem State.withTiers_pkg (x : Tiers) : (s.withTiers x).pkg = s.pkg := rfl
@[simp] theorem State.withTiers_fuse (x : Tiers) : (s.withTiers x).fuse = s.fuse := rfl
@[simp] theorem State.withTiers_sent (x : Tiers) : (s.withTiers x).sent = s.sent := rfl
@[simp] theorem State.withTiers_pending (x : Tiers) : (s.withTiers x).pending = s.pending := rfl
@[simp] theorem State.withTiers_obj (x : Tiers) (j : Nat) : (s.withTiers x).obj j = s.obj j := rfl
@[simp] theorem State.withTiers_effObj (x : Tiers) (j : Nat) : (s.withTiers x).effObj j = s.effObj j := rfl
@[simp] theorem State.withTiers_eff (x : Tiers) (j : Nat) : (s.withTiers x).eff j = s.eff j := rfl
@[simp] theorem State.withTiers_lock (x : Tiers) (j : Nat) : (s.withTiers x).lock j = s.lock j := rfl
@[simp] theorem State.withTiers_now (x : Tiers) : (s.withTiers x).now = s.now := rfl
@[simp] theorem State.withTiers_link (x : Tiers) (j : Nat) : (s.withTiers x).link j = s.link j := rfl
@[simp] theorem State.withTiers_ring (x : Tiers) (j : Nat) : (s.withTiers x).ring j = s.ring j := rfl
@[simp] theorem State.withTiers_source (x : Tiers) (j : Nat) : (s.withTiers x).source j = s.source j := rfl

/-! ### withHome -/

@[simp] theorem State.withHome_free (x : Home) : (s.withHome x).free = s.free := rfl
@[simp] theorem State.withHome_time (x : Home) : (s.withHome x).time = s.time := rfl
@[simp] theorem State.withHome_dict (x : Home) : (s.withHome x).dict = s.dict := rfl
@[simp] theorem State.withHome_gait (x : Home) : (s.withHome x).gait = s.gait := rfl
@[simp] theorem State.withHome_tiers (x : Home) : (s.withHome x).tiers = s.tiers := rfl
@[simp] theorem State.withHome_home (x : Home) : (s.withHome x).home = x := rfl
@[simp] theorem State.withHome_ports (x : Home) : (s.withHome x).ports = s.ports := rfl
@[simp] theorem State.withHome_mem (x : Home) : (s.withHome x).mem = s.mem := rfl
@[simp] theorem State.withHome_rel (x : Home) : (s.withHome x).rel = s.rel := rfl
@[simp] theorem State.withHome_modes (x : Home) : (s.withHome x).modes = s.modes := rfl
@[simp] theorem State.withHome_bridle (x : Home) : (s.withHome x).bridle = s.bridle := rfl
@[simp] theorem State.withHome_irq (x : Home) : (s.withHome x).irq = s.irq := rfl
@[simp] theorem State.withHome_pmu (x : Home) : (s.withHome x).pmu = s.pmu := rfl
@[simp] theorem State.withHome_groom (x : Home) : (s.withHome x).groom = s.groom := rfl
@[simp] theorem State.withHome_pkg (x : Home) : (s.withHome x).pkg = s.pkg := rfl
@[simp] theorem State.withHome_fuse (x : Home) : (s.withHome x).fuse = s.fuse := rfl
@[simp] theorem State.withHome_sent (x : Home) : (s.withHome x).sent = s.sent := rfl
@[simp] theorem State.withHome_pending (x : Home) : (s.withHome x).pending = s.pending := rfl
@[simp] theorem State.withHome_obj (x : Home) (j : Nat) : (s.withHome x).obj j = s.obj j := rfl
@[simp] theorem State.withHome_effObj (x : Home) (j : Nat) : (s.withHome x).effObj j = s.effObj j := rfl
@[simp] theorem State.withHome_eff (x : Home) (j : Nat) : (s.withHome x).eff j = s.eff j := rfl
@[simp] theorem State.withHome_lock (x : Home) (j : Nat) : (s.withHome x).lock j = s.lock j := rfl
@[simp] theorem State.withHome_now (x : Home) : (s.withHome x).now = s.now := rfl
@[simp] theorem State.withHome_link (x : Home) (j : Nat) : (s.withHome x).link j = s.link j := rfl
@[simp] theorem State.withHome_ring (x : Home) (j : Nat) : (s.withHome x).ring j = s.ring j := rfl
@[simp] theorem State.withHome_source (x : Home) (j : Nat) : (s.withHome x).source j = s.source j := rfl

/-! ### withPorts -/

@[simp] theorem State.withPorts_free (x : Ports) : (s.withPorts x).free = s.free := rfl
@[simp] theorem State.withPorts_time (x : Ports) : (s.withPorts x).time = s.time := rfl
@[simp] theorem State.withPorts_dict (x : Ports) : (s.withPorts x).dict = s.dict := rfl
@[simp] theorem State.withPorts_gait (x : Ports) : (s.withPorts x).gait = s.gait := rfl
@[simp] theorem State.withPorts_tiers (x : Ports) : (s.withPorts x).tiers = s.tiers := rfl
@[simp] theorem State.withPorts_home (x : Ports) : (s.withPorts x).home = s.home := rfl
@[simp] theorem State.withPorts_ports (x : Ports) : (s.withPorts x).ports = x := rfl
@[simp] theorem State.withPorts_mem (x : Ports) : (s.withPorts x).mem = s.mem := rfl
@[simp] theorem State.withPorts_rel (x : Ports) : (s.withPorts x).rel = s.rel := rfl
@[simp] theorem State.withPorts_modes (x : Ports) : (s.withPorts x).modes = s.modes := rfl
@[simp] theorem State.withPorts_bridle (x : Ports) : (s.withPorts x).bridle = s.bridle := rfl
@[simp] theorem State.withPorts_irq (x : Ports) : (s.withPorts x).irq = s.irq := rfl
@[simp] theorem State.withPorts_pmu (x : Ports) : (s.withPorts x).pmu = s.pmu := rfl
@[simp] theorem State.withPorts_groom (x : Ports) : (s.withPorts x).groom = s.groom := rfl
@[simp] theorem State.withPorts_pkg (x : Ports) : (s.withPorts x).pkg = s.pkg := rfl
@[simp] theorem State.withPorts_fuse (x : Ports) : (s.withPorts x).fuse = s.fuse := rfl
@[simp] theorem State.withPorts_sent (x : Ports) : (s.withPorts x).sent = s.sent := rfl
@[simp] theorem State.withPorts_pending (x : Ports) : (s.withPorts x).pending = s.pending := rfl
@[simp] theorem State.withPorts_obj (x : Ports) (j : Nat) : (s.withPorts x).obj j = s.obj j := rfl
@[simp] theorem State.withPorts_effObj (x : Ports) (j : Nat) : (s.withPorts x).effObj j = s.effObj j := rfl
@[simp] theorem State.withPorts_eff (x : Ports) (j : Nat) : (s.withPorts x).eff j = s.eff j := rfl
@[simp] theorem State.withPorts_lock (x : Ports) (j : Nat) : (s.withPorts x).lock j = s.lock j := rfl
@[simp] theorem State.withPorts_now (x : Ports) : (s.withPorts x).now = s.now := rfl
@[simp] theorem State.withPorts_ring (x : Ports) (j : Nat) : (s.withPorts x).ring j = s.ring j := rfl
@[simp] theorem State.withPorts_source (x : Ports) (j : Nat) : (s.withPorts x).source j = s.source j := rfl

/-! ### withMem -/

@[simp] theorem State.withMem_free (x : Mem) : (s.withMem x).free = s.free := rfl
@[simp] theorem State.withMem_time (x : Mem) : (s.withMem x).time = s.time := rfl
@[simp] theorem State.withMem_dict (x : Mem) : (s.withMem x).dict = s.dict := rfl
@[simp] theorem State.withMem_gait (x : Mem) : (s.withMem x).gait = s.gait := rfl
@[simp] theorem State.withMem_tiers (x : Mem) : (s.withMem x).tiers = s.tiers := rfl
@[simp] theorem State.withMem_home (x : Mem) : (s.withMem x).home = s.home := rfl
@[simp] theorem State.withMem_ports (x : Mem) : (s.withMem x).ports = s.ports := rfl
@[simp] theorem State.withMem_mem (x : Mem) : (s.withMem x).mem = x := rfl
@[simp] theorem State.withMem_rel (x : Mem) : (s.withMem x).rel = s.rel := rfl
@[simp] theorem State.withMem_modes (x : Mem) : (s.withMem x).modes = s.modes := rfl
@[simp] theorem State.withMem_bridle (x : Mem) : (s.withMem x).bridle = s.bridle := rfl
@[simp] theorem State.withMem_irq (x : Mem) : (s.withMem x).irq = s.irq := rfl
@[simp] theorem State.withMem_pmu (x : Mem) : (s.withMem x).pmu = s.pmu := rfl
@[simp] theorem State.withMem_groom (x : Mem) : (s.withMem x).groom = s.groom := rfl
@[simp] theorem State.withMem_pkg (x : Mem) : (s.withMem x).pkg = s.pkg := rfl
@[simp] theorem State.withMem_fuse (x : Mem) : (s.withMem x).fuse = s.fuse := rfl
@[simp] theorem State.withMem_sent (x : Mem) : (s.withMem x).sent = s.sent := rfl
@[simp] theorem State.withMem_pending (x : Mem) : (s.withMem x).pending = s.pending := rfl
@[simp] theorem State.withMem_obj (x : Mem) (j : Nat) : (s.withMem x).obj j = s.obj j := rfl
@[simp] theorem State.withMem_effObj (x : Mem) (j : Nat) : (s.withMem x).effObj j = s.effObj j := rfl
@[simp] theorem State.withMem_eff (x : Mem) (j : Nat) : (s.withMem x).eff j = s.eff j := rfl
@[simp] theorem State.withMem_lock (x : Mem) (j : Nat) : (s.withMem x).lock j = s.lock j := rfl
@[simp] theorem State.withMem_now (x : Mem) : (s.withMem x).now = s.now := rfl
@[simp] theorem State.withMem_link (x : Mem) (j : Nat) : (s.withMem x).link j = s.link j := rfl
@[simp] theorem State.withMem_ring (x : Mem) (j : Nat) : (s.withMem x).ring j = s.ring j := rfl
@[simp] theorem State.withMem_source (x : Mem) (j : Nat) : (s.withMem x).source j = s.source j := rfl

/-! ### withRel -/

@[simp] theorem State.withRel_free (x : Rel) : (s.withRel x).free = s.free := rfl
@[simp] theorem State.withRel_time (x : Rel) : (s.withRel x).time = s.time := rfl
@[simp] theorem State.withRel_dict (x : Rel) : (s.withRel x).dict = s.dict := rfl
@[simp] theorem State.withRel_gait (x : Rel) : (s.withRel x).gait = s.gait := rfl
@[simp] theorem State.withRel_tiers (x : Rel) : (s.withRel x).tiers = s.tiers := rfl
@[simp] theorem State.withRel_home (x : Rel) : (s.withRel x).home = s.home := rfl
@[simp] theorem State.withRel_ports (x : Rel) : (s.withRel x).ports = s.ports := rfl
@[simp] theorem State.withRel_mem (x : Rel) : (s.withRel x).mem = s.mem := rfl
@[simp] theorem State.withRel_rel (x : Rel) : (s.withRel x).rel = x := rfl
@[simp] theorem State.withRel_modes (x : Rel) : (s.withRel x).modes = s.modes := rfl
@[simp] theorem State.withRel_bridle (x : Rel) : (s.withRel x).bridle = s.bridle := rfl
@[simp] theorem State.withRel_irq (x : Rel) : (s.withRel x).irq = s.irq := rfl
@[simp] theorem State.withRel_pmu (x : Rel) : (s.withRel x).pmu = s.pmu := rfl
@[simp] theorem State.withRel_groom (x : Rel) : (s.withRel x).groom = s.groom := rfl
@[simp] theorem State.withRel_pkg (x : Rel) : (s.withRel x).pkg = s.pkg := rfl
@[simp] theorem State.withRel_fuse (x : Rel) : (s.withRel x).fuse = s.fuse := rfl
@[simp] theorem State.withRel_sent (x : Rel) : (s.withRel x).sent = s.sent := rfl
@[simp] theorem State.withRel_pending (x : Rel) : (s.withRel x).pending = s.pending := rfl
@[simp] theorem State.withRel_obj (x : Rel) (j : Nat) : (s.withRel x).obj j = s.obj j := rfl
@[simp] theorem State.withRel_effObj (x : Rel) (j : Nat) : (s.withRel x).effObj j = s.effObj j := rfl
@[simp] theorem State.withRel_eff (x : Rel) (j : Nat) : (s.withRel x).eff j = s.eff j := rfl
@[simp] theorem State.withRel_lock (x : Rel) (j : Nat) : (s.withRel x).lock j = s.lock j := rfl
@[simp] theorem State.withRel_now (x : Rel) : (s.withRel x).now = s.now := rfl
@[simp] theorem State.withRel_link (x : Rel) (j : Nat) : (s.withRel x).link j = s.link j := rfl
@[simp] theorem State.withRel_ring (x : Rel) (j : Nat) : (s.withRel x).ring j = s.ring j := rfl
@[simp] theorem State.withRel_source (x : Rel) (j : Nat) : (s.withRel x).source j = s.source j := rfl

/-! ### withModes -/

@[simp] theorem State.withModes_free (x : Modes) : (s.withModes x).free = s.free := rfl
@[simp] theorem State.withModes_time (x : Modes) : (s.withModes x).time = s.time := rfl
@[simp] theorem State.withModes_dict (x : Modes) : (s.withModes x).dict = s.dict := rfl
@[simp] theorem State.withModes_gait (x : Modes) : (s.withModes x).gait = s.gait := rfl
@[simp] theorem State.withModes_tiers (x : Modes) : (s.withModes x).tiers = s.tiers := rfl
@[simp] theorem State.withModes_home (x : Modes) : (s.withModes x).home = s.home := rfl
@[simp] theorem State.withModes_ports (x : Modes) : (s.withModes x).ports = s.ports := rfl
@[simp] theorem State.withModes_mem (x : Modes) : (s.withModes x).mem = s.mem := rfl
@[simp] theorem State.withModes_rel (x : Modes) : (s.withModes x).rel = s.rel := rfl
@[simp] theorem State.withModes_modes (x : Modes) : (s.withModes x).modes = x := rfl
@[simp] theorem State.withModes_bridle (x : Modes) : (s.withModes x).bridle = s.bridle := rfl
@[simp] theorem State.withModes_irq (x : Modes) : (s.withModes x).irq = s.irq := rfl
@[simp] theorem State.withModes_pmu (x : Modes) : (s.withModes x).pmu = s.pmu := rfl
@[simp] theorem State.withModes_groom (x : Modes) : (s.withModes x).groom = s.groom := rfl
@[simp] theorem State.withModes_pkg (x : Modes) : (s.withModes x).pkg = s.pkg := rfl
@[simp] theorem State.withModes_fuse (x : Modes) : (s.withModes x).fuse = s.fuse := rfl
@[simp] theorem State.withModes_sent (x : Modes) : (s.withModes x).sent = s.sent := rfl
@[simp] theorem State.withModes_pending (x : Modes) : (s.withModes x).pending = s.pending := rfl
@[simp] theorem State.withModes_obj (x : Modes) (j : Nat) : (s.withModes x).obj j = s.obj j := rfl
@[simp] theorem State.withModes_effObj (x : Modes) (j : Nat) : (s.withModes x).effObj j = s.effObj j := rfl
@[simp] theorem State.withModes_eff (x : Modes) (j : Nat) : (s.withModes x).eff j = s.eff j := rfl
@[simp] theorem State.withModes_lock (x : Modes) (j : Nat) : (s.withModes x).lock j = s.lock j := rfl
@[simp] theorem State.withModes_now (x : Modes) : (s.withModes x).now = s.now := rfl
@[simp] theorem State.withModes_link (x : Modes) (j : Nat) : (s.withModes x).link j = s.link j := rfl
@[simp] theorem State.withModes_ring (x : Modes) (j : Nat) : (s.withModes x).ring j = s.ring j := rfl
@[simp] theorem State.withModes_source (x : Modes) (j : Nat) : (s.withModes x).source j = s.source j := rfl

/-! ### withBridle -/

@[simp] theorem State.withBridle_free (x : Bridle) : (s.withBridle x).free = s.free := rfl
@[simp] theorem State.withBridle_time (x : Bridle) : (s.withBridle x).time = s.time := rfl
@[simp] theorem State.withBridle_dict (x : Bridle) : (s.withBridle x).dict = s.dict := rfl
@[simp] theorem State.withBridle_gait (x : Bridle) : (s.withBridle x).gait = s.gait := rfl
@[simp] theorem State.withBridle_tiers (x : Bridle) : (s.withBridle x).tiers = s.tiers := rfl
@[simp] theorem State.withBridle_home (x : Bridle) : (s.withBridle x).home = s.home := rfl
@[simp] theorem State.withBridle_ports (x : Bridle) : (s.withBridle x).ports = s.ports := rfl
@[simp] theorem State.withBridle_mem (x : Bridle) : (s.withBridle x).mem = s.mem := rfl
@[simp] theorem State.withBridle_rel (x : Bridle) : (s.withBridle x).rel = s.rel := rfl
@[simp] theorem State.withBridle_modes (x : Bridle) : (s.withBridle x).modes = s.modes := rfl
@[simp] theorem State.withBridle_bridle (x : Bridle) : (s.withBridle x).bridle = x := rfl
@[simp] theorem State.withBridle_irq (x : Bridle) : (s.withBridle x).irq = s.irq := rfl
@[simp] theorem State.withBridle_pmu (x : Bridle) : (s.withBridle x).pmu = s.pmu := rfl
@[simp] theorem State.withBridle_groom (x : Bridle) : (s.withBridle x).groom = s.groom := rfl
@[simp] theorem State.withBridle_pkg (x : Bridle) : (s.withBridle x).pkg = s.pkg := rfl
@[simp] theorem State.withBridle_fuse (x : Bridle) : (s.withBridle x).fuse = s.fuse := rfl
@[simp] theorem State.withBridle_sent (x : Bridle) : (s.withBridle x).sent = s.sent := rfl
@[simp] theorem State.withBridle_pending (x : Bridle) : (s.withBridle x).pending = s.pending := rfl
@[simp] theorem State.withBridle_obj (x : Bridle) (j : Nat) : (s.withBridle x).obj j = s.obj j := rfl
@[simp] theorem State.withBridle_effObj (x : Bridle) (j : Nat) : (s.withBridle x).effObj j = s.effObj j := rfl
@[simp] theorem State.withBridle_eff (x : Bridle) (j : Nat) : (s.withBridle x).eff j = s.eff j := rfl
@[simp] theorem State.withBridle_lock (x : Bridle) (j : Nat) : (s.withBridle x).lock j = s.lock j := rfl
@[simp] theorem State.withBridle_now (x : Bridle) : (s.withBridle x).now = s.now := rfl
@[simp] theorem State.withBridle_link (x : Bridle) (j : Nat) : (s.withBridle x).link j = s.link j := rfl
@[simp] theorem State.withBridle_ring (x : Bridle) (j : Nat) : (s.withBridle x).ring j = s.ring j := rfl
@[simp] theorem State.withBridle_source (x : Bridle) (j : Nat) : (s.withBridle x).source j = s.source j := rfl

/-! ### withIrq -/

@[simp] theorem State.withIrq_free (x : Irq) : (s.withIrq x).free = s.free := rfl
@[simp] theorem State.withIrq_time (x : Irq) : (s.withIrq x).time = s.time := rfl
@[simp] theorem State.withIrq_dict (x : Irq) : (s.withIrq x).dict = s.dict := rfl
@[simp] theorem State.withIrq_gait (x : Irq) : (s.withIrq x).gait = s.gait := rfl
@[simp] theorem State.withIrq_tiers (x : Irq) : (s.withIrq x).tiers = s.tiers := rfl
@[simp] theorem State.withIrq_home (x : Irq) : (s.withIrq x).home = s.home := rfl
@[simp] theorem State.withIrq_ports (x : Irq) : (s.withIrq x).ports = s.ports := rfl
@[simp] theorem State.withIrq_mem (x : Irq) : (s.withIrq x).mem = s.mem := rfl
@[simp] theorem State.withIrq_rel (x : Irq) : (s.withIrq x).rel = s.rel := rfl
@[simp] theorem State.withIrq_modes (x : Irq) : (s.withIrq x).modes = s.modes := rfl
@[simp] theorem State.withIrq_bridle (x : Irq) : (s.withIrq x).bridle = s.bridle := rfl
@[simp] theorem State.withIrq_irq (x : Irq) : (s.withIrq x).irq = x := rfl
@[simp] theorem State.withIrq_pmu (x : Irq) : (s.withIrq x).pmu = s.pmu := rfl
@[simp] theorem State.withIrq_groom (x : Irq) : (s.withIrq x).groom = s.groom := rfl
@[simp] theorem State.withIrq_pkg (x : Irq) : (s.withIrq x).pkg = s.pkg := rfl
@[simp] theorem State.withIrq_fuse (x : Irq) : (s.withIrq x).fuse = s.fuse := rfl
@[simp] theorem State.withIrq_sent (x : Irq) : (s.withIrq x).sent = s.sent := rfl
@[simp] theorem State.withIrq_pending (x : Irq) : (s.withIrq x).pending = s.pending := rfl
@[simp] theorem State.withIrq_obj (x : Irq) (j : Nat) : (s.withIrq x).obj j = s.obj j := rfl
@[simp] theorem State.withIrq_effObj (x : Irq) (j : Nat) : (s.withIrq x).effObj j = s.effObj j := rfl
@[simp] theorem State.withIrq_eff (x : Irq) (j : Nat) : (s.withIrq x).eff j = s.eff j := rfl
@[simp] theorem State.withIrq_lock (x : Irq) (j : Nat) : (s.withIrq x).lock j = s.lock j := rfl
@[simp] theorem State.withIrq_now (x : Irq) : (s.withIrq x).now = s.now := rfl
@[simp] theorem State.withIrq_link (x : Irq) (j : Nat) : (s.withIrq x).link j = s.link j := rfl

/-! ### withPmu -/

@[simp] theorem State.withPmu_free (x : Pmu) : (s.withPmu x).free = s.free := rfl
@[simp] theorem State.withPmu_time (x : Pmu) : (s.withPmu x).time = s.time := rfl
@[simp] theorem State.withPmu_dict (x : Pmu) : (s.withPmu x).dict = s.dict := rfl
@[simp] theorem State.withPmu_gait (x : Pmu) : (s.withPmu x).gait = s.gait := rfl
@[simp] theorem State.withPmu_tiers (x : Pmu) : (s.withPmu x).tiers = s.tiers := rfl
@[simp] theorem State.withPmu_home (x : Pmu) : (s.withPmu x).home = s.home := rfl
@[simp] theorem State.withPmu_ports (x : Pmu) : (s.withPmu x).ports = s.ports := rfl
@[simp] theorem State.withPmu_mem (x : Pmu) : (s.withPmu x).mem = s.mem := rfl
@[simp] theorem State.withPmu_rel (x : Pmu) : (s.withPmu x).rel = s.rel := rfl
@[simp] theorem State.withPmu_modes (x : Pmu) : (s.withPmu x).modes = s.modes := rfl
@[simp] theorem State.withPmu_bridle (x : Pmu) : (s.withPmu x).bridle = s.bridle := rfl
@[simp] theorem State.withPmu_irq (x : Pmu) : (s.withPmu x).irq = s.irq := rfl
@[simp] theorem State.withPmu_pmu (x : Pmu) : (s.withPmu x).pmu = x := rfl
@[simp] theorem State.withPmu_groom (x : Pmu) : (s.withPmu x).groom = s.groom := rfl
@[simp] theorem State.withPmu_pkg (x : Pmu) : (s.withPmu x).pkg = s.pkg := rfl
@[simp] theorem State.withPmu_fuse (x : Pmu) : (s.withPmu x).fuse = s.fuse := rfl
@[simp] theorem State.withPmu_sent (x : Pmu) : (s.withPmu x).sent = s.sent := rfl
@[simp] theorem State.withPmu_pending (x : Pmu) : (s.withPmu x).pending = s.pending := rfl
@[simp] theorem State.withPmu_obj (x : Pmu) (j : Nat) : (s.withPmu x).obj j = s.obj j := rfl
@[simp] theorem State.withPmu_effObj (x : Pmu) (j : Nat) : (s.withPmu x).effObj j = s.effObj j := rfl
@[simp] theorem State.withPmu_eff (x : Pmu) (j : Nat) : (s.withPmu x).eff j = s.eff j := rfl
@[simp] theorem State.withPmu_lock (x : Pmu) (j : Nat) : (s.withPmu x).lock j = s.lock j := rfl
@[simp] theorem State.withPmu_now (x : Pmu) : (s.withPmu x).now = s.now := rfl
@[simp] theorem State.withPmu_link (x : Pmu) (j : Nat) : (s.withPmu x).link j = s.link j := rfl
@[simp] theorem State.withPmu_ring (x : Pmu) (j : Nat) : (s.withPmu x).ring j = s.ring j := rfl
@[simp] theorem State.withPmu_source (x : Pmu) (j : Nat) : (s.withPmu x).source j = s.source j := rfl

/-! ### withGroom -/

@[simp] theorem State.withGroom_free (x : Groom) : (s.withGroom x).free = s.free := rfl
@[simp] theorem State.withGroom_time (x : Groom) : (s.withGroom x).time = s.time := rfl
@[simp] theorem State.withGroom_dict (x : Groom) : (s.withGroom x).dict = s.dict := rfl
@[simp] theorem State.withGroom_gait (x : Groom) : (s.withGroom x).gait = s.gait := rfl
@[simp] theorem State.withGroom_tiers (x : Groom) : (s.withGroom x).tiers = s.tiers := rfl
@[simp] theorem State.withGroom_home (x : Groom) : (s.withGroom x).home = s.home := rfl
@[simp] theorem State.withGroom_ports (x : Groom) : (s.withGroom x).ports = s.ports := rfl
@[simp] theorem State.withGroom_mem (x : Groom) : (s.withGroom x).mem = s.mem := rfl
@[simp] theorem State.withGroom_rel (x : Groom) : (s.withGroom x).rel = s.rel := rfl
@[simp] theorem State.withGroom_modes (x : Groom) : (s.withGroom x).modes = s.modes := rfl
@[simp] theorem State.withGroom_bridle (x : Groom) : (s.withGroom x).bridle = s.bridle := rfl
@[simp] theorem State.withGroom_irq (x : Groom) : (s.withGroom x).irq = s.irq := rfl
@[simp] theorem State.withGroom_pmu (x : Groom) : (s.withGroom x).pmu = s.pmu := rfl
@[simp] theorem State.withGroom_groom (x : Groom) : (s.withGroom x).groom = x := rfl
@[simp] theorem State.withGroom_pkg (x : Groom) : (s.withGroom x).pkg = s.pkg := rfl
@[simp] theorem State.withGroom_fuse (x : Groom) : (s.withGroom x).fuse = s.fuse := rfl
@[simp] theorem State.withGroom_sent (x : Groom) : (s.withGroom x).sent = s.sent := rfl
@[simp] theorem State.withGroom_pending (x : Groom) : (s.withGroom x).pending = s.pending := rfl
@[simp] theorem State.withGroom_obj (x : Groom) (j : Nat) : (s.withGroom x).obj j = s.obj j := rfl
@[simp] theorem State.withGroom_effObj (x : Groom) (j : Nat) : (s.withGroom x).effObj j = s.effObj j := rfl
@[simp] theorem State.withGroom_eff (x : Groom) (j : Nat) : (s.withGroom x).eff j = s.eff j := rfl
@[simp] theorem State.withGroom_lock (x : Groom) (j : Nat) : (s.withGroom x).lock j = s.lock j := rfl
@[simp] theorem State.withGroom_now (x : Groom) : (s.withGroom x).now = s.now := rfl
@[simp] theorem State.withGroom_link (x : Groom) (j : Nat) : (s.withGroom x).link j = s.link j := rfl
@[simp] theorem State.withGroom_ring (x : Groom) (j : Nat) : (s.withGroom x).ring j = s.ring j := rfl
@[simp] theorem State.withGroom_source (x : Groom) (j : Nat) : (s.withGroom x).source j = s.source j := rfl

/-! ### withPkg -/

@[simp] theorem State.withPkg_free (x : Pkg) : (s.withPkg x).free = s.free := rfl
@[simp] theorem State.withPkg_time (x : Pkg) : (s.withPkg x).time = s.time := rfl
@[simp] theorem State.withPkg_dict (x : Pkg) : (s.withPkg x).dict = s.dict := rfl
@[simp] theorem State.withPkg_gait (x : Pkg) : (s.withPkg x).gait = s.gait := rfl
@[simp] theorem State.withPkg_tiers (x : Pkg) : (s.withPkg x).tiers = s.tiers := rfl
@[simp] theorem State.withPkg_home (x : Pkg) : (s.withPkg x).home = s.home := rfl
@[simp] theorem State.withPkg_ports (x : Pkg) : (s.withPkg x).ports = s.ports := rfl
@[simp] theorem State.withPkg_mem (x : Pkg) : (s.withPkg x).mem = s.mem := rfl
@[simp] theorem State.withPkg_rel (x : Pkg) : (s.withPkg x).rel = s.rel := rfl
@[simp] theorem State.withPkg_modes (x : Pkg) : (s.withPkg x).modes = s.modes := rfl
@[simp] theorem State.withPkg_bridle (x : Pkg) : (s.withPkg x).bridle = s.bridle := rfl
@[simp] theorem State.withPkg_irq (x : Pkg) : (s.withPkg x).irq = s.irq := rfl
@[simp] theorem State.withPkg_pmu (x : Pkg) : (s.withPkg x).pmu = s.pmu := rfl
@[simp] theorem State.withPkg_groom (x : Pkg) : (s.withPkg x).groom = s.groom := rfl
@[simp] theorem State.withPkg_pkg (x : Pkg) : (s.withPkg x).pkg = x := rfl
@[simp] theorem State.withPkg_fuse (x : Pkg) : (s.withPkg x).fuse = s.fuse := rfl
@[simp] theorem State.withPkg_sent (x : Pkg) : (s.withPkg x).sent = s.sent := rfl
@[simp] theorem State.withPkg_pending (x : Pkg) : (s.withPkg x).pending = s.pending := rfl
@[simp] theorem State.withPkg_obj (x : Pkg) (j : Nat) : (s.withPkg x).obj j = s.obj j := rfl
@[simp] theorem State.withPkg_effObj (x : Pkg) (j : Nat) : (s.withPkg x).effObj j = s.effObj j := rfl
@[simp] theorem State.withPkg_eff (x : Pkg) (j : Nat) : (s.withPkg x).eff j = s.eff j := rfl
@[simp] theorem State.withPkg_lock (x : Pkg) (j : Nat) : (s.withPkg x).lock j = s.lock j := rfl
@[simp] theorem State.withPkg_now (x : Pkg) : (s.withPkg x).now = s.now := rfl
@[simp] theorem State.withPkg_link (x : Pkg) (j : Nat) : (s.withPkg x).link j = s.link j := rfl
@[simp] theorem State.withPkg_ring (x : Pkg) (j : Nat) : (s.withPkg x).ring j = s.ring j := rfl
@[simp] theorem State.withPkg_source (x : Pkg) (j : Nat) : (s.withPkg x).source j = s.source j := rfl

/-! ### withFuse -/

@[simp] theorem State.withFuse_free (x : Fuse) : (s.withFuse x).free = s.free := rfl
@[simp] theorem State.withFuse_time (x : Fuse) : (s.withFuse x).time = s.time := rfl
@[simp] theorem State.withFuse_dict (x : Fuse) : (s.withFuse x).dict = s.dict := rfl
@[simp] theorem State.withFuse_gait (x : Fuse) : (s.withFuse x).gait = s.gait := rfl
@[simp] theorem State.withFuse_tiers (x : Fuse) : (s.withFuse x).tiers = s.tiers := rfl
@[simp] theorem State.withFuse_home (x : Fuse) : (s.withFuse x).home = s.home := rfl
@[simp] theorem State.withFuse_ports (x : Fuse) : (s.withFuse x).ports = s.ports := rfl
@[simp] theorem State.withFuse_mem (x : Fuse) : (s.withFuse x).mem = s.mem := rfl
@[simp] theorem State.withFuse_rel (x : Fuse) : (s.withFuse x).rel = s.rel := rfl
@[simp] theorem State.withFuse_modes (x : Fuse) : (s.withFuse x).modes = s.modes := rfl
@[simp] theorem State.withFuse_bridle (x : Fuse) : (s.withFuse x).bridle = s.bridle := rfl
@[simp] theorem State.withFuse_irq (x : Fuse) : (s.withFuse x).irq = s.irq := rfl
@[simp] theorem State.withFuse_pmu (x : Fuse) : (s.withFuse x).pmu = s.pmu := rfl
@[simp] theorem State.withFuse_groom (x : Fuse) : (s.withFuse x).groom = s.groom := rfl
@[simp] theorem State.withFuse_pkg (x : Fuse) : (s.withFuse x).pkg = s.pkg := rfl
@[simp] theorem State.withFuse_fuse (x : Fuse) : (s.withFuse x).fuse = x := rfl
@[simp] theorem State.withFuse_sent (x : Fuse) : (s.withFuse x).sent = s.sent := rfl
@[simp] theorem State.withFuse_pending (x : Fuse) : (s.withFuse x).pending = s.pending := rfl
@[simp] theorem State.withFuse_obj (x : Fuse) (j : Nat) : (s.withFuse x).obj j = s.obj j := rfl
@[simp] theorem State.withFuse_effObj (x : Fuse) (j : Nat) : (s.withFuse x).effObj j = s.effObj j := rfl
@[simp] theorem State.withFuse_eff (x : Fuse) (j : Nat) : (s.withFuse x).eff j = s.eff j := rfl
@[simp] theorem State.withFuse_lock (x : Fuse) (j : Nat) : (s.withFuse x).lock j = s.lock j := rfl
@[simp] theorem State.withFuse_now (x : Fuse) : (s.withFuse x).now = s.now := rfl
@[simp] theorem State.withFuse_link (x : Fuse) (j : Nat) : (s.withFuse x).link j = s.link j := rfl
@[simp] theorem State.withFuse_ring (x : Fuse) (j : Nat) : (s.withFuse x).ring j = s.ring j := rfl
@[simp] theorem State.withFuse_source (x : Fuse) (j : Nat) : (s.withFuse x).source j = s.source j := rfl

/-! ### withSent -/

@[simp] theorem State.withSent_free (x : List OutMsg) : (s.withSent x).free = s.free := rfl
@[simp] theorem State.withSent_time (x : List OutMsg) : (s.withSent x).time = s.time := rfl
@[simp] theorem State.withSent_dict (x : List OutMsg) : (s.withSent x).dict = s.dict := rfl
@[simp] theorem State.withSent_gait (x : List OutMsg) : (s.withSent x).gait = s.gait := rfl
@[simp] theorem State.withSent_tiers (x : List OutMsg) : (s.withSent x).tiers = s.tiers := rfl
@[simp] theorem State.withSent_home (x : List OutMsg) : (s.withSent x).home = s.home := rfl
@[simp] theorem State.withSent_ports (x : List OutMsg) : (s.withSent x).ports = s.ports := rfl
@[simp] theorem State.withSent_mem (x : List OutMsg) : (s.withSent x).mem = s.mem := rfl
@[simp] theorem State.withSent_rel (x : List OutMsg) : (s.withSent x).rel = s.rel := rfl
@[simp] theorem State.withSent_modes (x : List OutMsg) : (s.withSent x).modes = s.modes := rfl
@[simp] theorem State.withSent_bridle (x : List OutMsg) : (s.withSent x).bridle = s.bridle := rfl
@[simp] theorem State.withSent_irq (x : List OutMsg) : (s.withSent x).irq = s.irq := rfl
@[simp] theorem State.withSent_pmu (x : List OutMsg) : (s.withSent x).pmu = s.pmu := rfl
@[simp] theorem State.withSent_groom (x : List OutMsg) : (s.withSent x).groom = s.groom := rfl
@[simp] theorem State.withSent_pkg (x : List OutMsg) : (s.withSent x).pkg = s.pkg := rfl
@[simp] theorem State.withSent_fuse (x : List OutMsg) : (s.withSent x).fuse = s.fuse := rfl
@[simp] theorem State.withSent_sent (x : List OutMsg) : (s.withSent x).sent = x := rfl
@[simp] theorem State.withSent_pending (x : List OutMsg) : (s.withSent x).pending = s.pending := rfl
@[simp] theorem State.withSent_obj (x : List OutMsg) (j : Nat) : (s.withSent x).obj j = s.obj j := rfl
@[simp] theorem State.withSent_effObj (x : List OutMsg) (j : Nat) : (s.withSent x).effObj j = s.effObj j := rfl
@[simp] theorem State.withSent_eff (x : List OutMsg) (j : Nat) : (s.withSent x).eff j = s.eff j := rfl
@[simp] theorem State.withSent_lock (x : List OutMsg) (j : Nat) : (s.withSent x).lock j = s.lock j := rfl
@[simp] theorem State.withSent_now (x : List OutMsg) : (s.withSent x).now = s.now := rfl
@[simp] theorem State.withSent_link (x : List OutMsg) (j : Nat) : (s.withSent x).link j = s.link j := rfl
@[simp] theorem State.withSent_ring (x : List OutMsg) (j : Nat) : (s.withSent x).ring j = s.ring j := rfl
@[simp] theorem State.withSent_source (x : List OutMsg) (j : Nat) : (s.withSent x).source j = s.source j := rfl

/-! ### withPending -/

@[simp] theorem State.withPending_free (x : List Instr) : (s.withPending x).free = s.free := rfl
@[simp] theorem State.withPending_time (x : List Instr) : (s.withPending x).time = s.time := rfl
@[simp] theorem State.withPending_dict (x : List Instr) : (s.withPending x).dict = s.dict := rfl
@[simp] theorem State.withPending_gait (x : List Instr) : (s.withPending x).gait = s.gait := rfl
@[simp] theorem State.withPending_tiers (x : List Instr) : (s.withPending x).tiers = s.tiers := rfl
@[simp] theorem State.withPending_home (x : List Instr) : (s.withPending x).home = s.home := rfl
@[simp] theorem State.withPending_ports (x : List Instr) : (s.withPending x).ports = s.ports := rfl
@[simp] theorem State.withPending_mem (x : List Instr) : (s.withPending x).mem = s.mem := rfl
@[simp] theorem State.withPending_rel (x : List Instr) : (s.withPending x).rel = s.rel := rfl
@[simp] theorem State.withPending_modes (x : List Instr) : (s.withPending x).modes = s.modes := rfl
@[simp] theorem State.withPending_bridle (x : List Instr) : (s.withPending x).bridle = s.bridle := rfl
@[simp] theorem State.withPending_irq (x : List Instr) : (s.withPending x).irq = s.irq := rfl
@[simp] theorem State.withPending_pmu (x : List Instr) : (s.withPending x).pmu = s.pmu := rfl
@[simp] theorem State.withPending_groom (x : List Instr) : (s.withPending x).groom = s.groom := rfl
@[simp] theorem State.withPending_pkg (x : List Instr) : (s.withPending x).pkg = s.pkg := rfl
@[simp] theorem State.withPending_fuse (x : List Instr) : (s.withPending x).fuse = s.fuse := rfl
@[simp] theorem State.withPending_sent (x : List Instr) : (s.withPending x).sent = s.sent := rfl
@[simp] theorem State.withPending_pending (x : List Instr) : (s.withPending x).pending = x := rfl
@[simp] theorem State.withPending_obj (x : List Instr) (j : Nat) : (s.withPending x).obj j = s.obj j := rfl
@[simp] theorem State.withPending_effObj (x : List Instr) (j : Nat) : (s.withPending x).effObj j = s.effObj j := rfl
@[simp] theorem State.withPending_eff (x : List Instr) (j : Nat) : (s.withPending x).eff j = s.eff j := rfl
@[simp] theorem State.withPending_lock (x : List Instr) (j : Nat) : (s.withPending x).lock j = s.lock j := rfl
@[simp] theorem State.withPending_now (x : List Instr) : (s.withPending x).now = s.now := rfl
@[simp] theorem State.withPending_link (x : List Instr) (j : Nat) : (s.withPending x).link j = s.link j := rfl
@[simp] theorem State.withPending_ring (x : List Instr) (j : Nat) : (s.withPending x).ring j = s.ring j := rfl
@[simp] theorem State.withPending_source (x : List Instr) (j : Nat) : (s.withPending x).source j = s.source j := rfl

/-! ### setObj -/

@[simp] theorem State.setObj_free (k : Nat) (v : Reg) : (s.setObj k v).free = s.free := rfl
@[simp] theorem State.setObj_time (k : Nat) (v : Reg) : (s.setObj k v).time = s.time := rfl
@[simp] theorem State.setObj_gait (k : Nat) (v : Reg) : (s.setObj k v).gait = s.gait := rfl
@[simp] theorem State.setObj_tiers (k : Nat) (v : Reg) : (s.setObj k v).tiers = s.tiers := rfl
@[simp] theorem State.setObj_home (k : Nat) (v : Reg) : (s.setObj k v).home = s.home := rfl
@[simp] theorem State.setObj_ports (k : Nat) (v : Reg) : (s.setObj k v).ports = s.ports := rfl
@[simp] theorem State.setObj_mem (k : Nat) (v : Reg) : (s.setObj k v).mem = s.mem := rfl
@[simp] theorem State.setObj_rel (k : Nat) (v : Reg) : (s.setObj k v).rel = s.rel := rfl
@[simp] theorem State.setObj_modes (k : Nat) (v : Reg) : (s.setObj k v).modes = s.modes := rfl
@[simp] theorem State.setObj_bridle (k : Nat) (v : Reg) : (s.setObj k v).bridle = s.bridle := rfl
@[simp] theorem State.setObj_irq (k : Nat) (v : Reg) : (s.setObj k v).irq = s.irq := rfl
@[simp] theorem State.setObj_pmu (k : Nat) (v : Reg) : (s.setObj k v).pmu = s.pmu := rfl
@[simp] theorem State.setObj_groom (k : Nat) (v : Reg) : (s.setObj k v).groom = s.groom := rfl
@[simp] theorem State.setObj_pkg (k : Nat) (v : Reg) : (s.setObj k v).pkg = s.pkg := rfl
@[simp] theorem State.setObj_fuse (k : Nat) (v : Reg) : (s.setObj k v).fuse = s.fuse := rfl
@[simp] theorem State.setObj_sent (k : Nat) (v : Reg) : (s.setObj k v).sent = s.sent := rfl
@[simp] theorem State.setObj_pending (k : Nat) (v : Reg) : (s.setObj k v).pending = s.pending := rfl
@[simp] theorem State.setObj_dict_eff (k : Nat) (v : Reg) : (s.setObj k v).dict.eff = s.dict.eff := rfl
@[simp] theorem State.setObj_dict_fallback (k : Nat) (v : Reg) : (s.setObj k v).dict.fallback = s.dict.fallback := rfl
@[simp] theorem State.setObj_dict_holding (k : Nat) (v : Reg) : (s.setObj k v).dict.holding = s.dict.holding := rfl
@[simp] theorem State.setObj_dict_pending (k : Nat) (v : Reg) : (s.setObj k v).dict.pending = s.dict.pending := rfl
@[simp] theorem State.setObj_dict_locks (k : Nat) (v : Reg) : (s.setObj k v).dict.locks = s.dict.locks := rfl
@[simp] theorem State.setObj_dict_partHeld (k : Nat) (v : Reg) : (s.setObj k v).dict.partHeld = s.dict.partHeld := rfl
@[simp] theorem State.setObj_dict_snapTake (k : Nat) (v : Reg) : (s.setObj k v).dict.snapTake = s.dict.snapTake := rfl
@[simp] theorem State.setObj_dict_snapClear (k : Nat) (v : Reg) : (s.setObj k v).dict.snapClear = s.dict.snapClear := rfl
@[simp] theorem State.setObj_dict_frozen (k : Nat) (v : Reg) : (s.setObj k v).dict.frozen = s.dict.frozen := rfl
@[simp] theorem State.setObj_dict_written (k : Nat) (v : Reg) : (s.setObj k v).dict.written = s.dict.written := rfl
@[simp] theorem State.setObj_dict_snapAt (k : Nat) (v : Reg) : (s.setObj k v).dict.snapAt = s.dict.snapAt := rfl
@[simp] theorem State.setObj_dict_partDue (k : Nat) (v : Reg) : (s.setObj k v).dict.partDue = s.dict.partDue := rfl
@[simp] theorem State.setObj_effObj (k : Nat) (v : Reg) (j : Nat) : (s.setObj k v).effObj j = s.effObj j := rfl
@[simp] theorem State.setObj_eff (k : Nat) (v : Reg) (j : Nat) : (s.setObj k v).eff j = s.eff j := rfl
@[simp] theorem State.setObj_lock (k : Nat) (v : Reg) (j : Nat) : (s.setObj k v).lock j = s.lock j := rfl
@[simp] theorem State.setObj_link (k : Nat) (v : Reg) (j : Nat) : (s.setObj k v).link j = s.link j := rfl
@[simp] theorem State.setObj_ring (k : Nat) (v : Reg) (j : Nat) : (s.setObj k v).ring j = s.ring j := rfl
@[simp] theorem State.setObj_source (k : Nat) (v : Reg) (j : Nat) : (s.setObj k v).source j = s.source j := rfl
@[simp] theorem State.setObj_now (k : Nat) (v : Reg) : (s.setObj k v).now = s.now := rfl

/-! ### setNat -/

@[simp] theorem State.setNat_free (k v : Nat) : (s.setNat k v).free = s.free := rfl
@[simp] theorem State.setNat_time (k v : Nat) : (s.setNat k v).time = s.time := rfl
@[simp] theorem State.setNat_gait (k v : Nat) : (s.setNat k v).gait = s.gait := rfl
@[simp] theorem State.setNat_tiers (k v : Nat) : (s.setNat k v).tiers = s.tiers := rfl
@[simp] theorem State.setNat_home (k v : Nat) : (s.setNat k v).home = s.home := rfl
@[simp] theorem State.setNat_ports (k v : Nat) : (s.setNat k v).ports = s.ports := rfl
@[simp] theorem State.setNat_mem (k v : Nat) : (s.setNat k v).mem = s.mem := rfl
@[simp] theorem State.setNat_rel (k v : Nat) : (s.setNat k v).rel = s.rel := rfl
@[simp] theorem State.setNat_modes (k v : Nat) : (s.setNat k v).modes = s.modes := rfl
@[simp] theorem State.setNat_bridle (k v : Nat) : (s.setNat k v).bridle = s.bridle := rfl
@[simp] theorem State.setNat_irq (k v : Nat) : (s.setNat k v).irq = s.irq := rfl
@[simp] theorem State.setNat_pmu (k v : Nat) : (s.setNat k v).pmu = s.pmu := rfl
@[simp] theorem State.setNat_groom (k v : Nat) : (s.setNat k v).groom = s.groom := rfl
@[simp] theorem State.setNat_pkg (k v : Nat) : (s.setNat k v).pkg = s.pkg := rfl
@[simp] theorem State.setNat_fuse (k v : Nat) : (s.setNat k v).fuse = s.fuse := rfl
@[simp] theorem State.setNat_sent (k v : Nat) : (s.setNat k v).sent = s.sent := rfl
@[simp] theorem State.setNat_pending (k v : Nat) : (s.setNat k v).pending = s.pending := rfl
@[simp] theorem State.setNat_dict_eff (k v : Nat) : (s.setNat k v).dict.eff = s.dict.eff := rfl
@[simp] theorem State.setNat_dict_fallback (k v : Nat) : (s.setNat k v).dict.fallback = s.dict.fallback := rfl
@[simp] theorem State.setNat_dict_holding (k v : Nat) : (s.setNat k v).dict.holding = s.dict.holding := rfl
@[simp] theorem State.setNat_dict_pending (k v : Nat) : (s.setNat k v).dict.pending = s.dict.pending := rfl
@[simp] theorem State.setNat_dict_locks (k v : Nat) : (s.setNat k v).dict.locks = s.dict.locks := rfl
@[simp] theorem State.setNat_dict_partHeld (k v : Nat) : (s.setNat k v).dict.partHeld = s.dict.partHeld := rfl
@[simp] theorem State.setNat_dict_snapTake (k v : Nat) : (s.setNat k v).dict.snapTake = s.dict.snapTake := rfl
@[simp] theorem State.setNat_dict_snapClear (k v : Nat) : (s.setNat k v).dict.snapClear = s.dict.snapClear := rfl
@[simp] theorem State.setNat_dict_frozen (k v : Nat) : (s.setNat k v).dict.frozen = s.dict.frozen := rfl
@[simp] theorem State.setNat_dict_written (k v : Nat) : (s.setNat k v).dict.written = s.dict.written := rfl
@[simp] theorem State.setNat_dict_snapAt (k v : Nat) : (s.setNat k v).dict.snapAt = s.dict.snapAt := rfl
@[simp] theorem State.setNat_dict_partDue (k v : Nat) : (s.setNat k v).dict.partDue = s.dict.partDue := rfl
@[simp] theorem State.setNat_effObj (k v : Nat) (j : Nat) : (s.setNat k v).effObj j = s.effObj j := rfl
@[simp] theorem State.setNat_eff (k v : Nat) (j : Nat) : (s.setNat k v).eff j = s.eff j := rfl
@[simp] theorem State.setNat_lock (k v : Nat) (j : Nat) : (s.setNat k v).lock j = s.lock j := rfl
@[simp] theorem State.setNat_link (k v : Nat) (j : Nat) : (s.setNat k v).link j = s.link j := rfl
@[simp] theorem State.setNat_ring (k v : Nat) (j : Nat) : (s.setNat k v).ring j = s.ring j := rfl
@[simp] theorem State.setNat_source (k v : Nat) (j : Nat) : (s.setNat k v).source j = s.source j := rfl
@[simp] theorem State.setNat_now (k v : Nat) : (s.setNat k v).now = s.now := rfl

/-! ### setEff -/

@[simp] theorem State.setEff_free (k : Nat) (v : Reg) : (s.setEff k v).free = s.free := rfl
@[simp] theorem State.setEff_time (k : Nat) (v : Reg) : (s.setEff k v).time = s.time := rfl
@[simp] theorem State.setEff_gait (k : Nat) (v : Reg) : (s.setEff k v).gait = s.gait := rfl
@[simp] theorem State.setEff_tiers (k : Nat) (v : Reg) : (s.setEff k v).tiers = s.tiers := rfl
@[simp] theorem State.setEff_home (k : Nat) (v : Reg) : (s.setEff k v).home = s.home := rfl
@[simp] theorem State.setEff_ports (k : Nat) (v : Reg) : (s.setEff k v).ports = s.ports := rfl
@[simp] theorem State.setEff_mem (k : Nat) (v : Reg) : (s.setEff k v).mem = s.mem := rfl
@[simp] theorem State.setEff_rel (k : Nat) (v : Reg) : (s.setEff k v).rel = s.rel := rfl
@[simp] theorem State.setEff_modes (k : Nat) (v : Reg) : (s.setEff k v).modes = s.modes := rfl
@[simp] theorem State.setEff_bridle (k : Nat) (v : Reg) : (s.setEff k v).bridle = s.bridle := rfl
@[simp] theorem State.setEff_irq (k : Nat) (v : Reg) : (s.setEff k v).irq = s.irq := rfl
@[simp] theorem State.setEff_pmu (k : Nat) (v : Reg) : (s.setEff k v).pmu = s.pmu := rfl
@[simp] theorem State.setEff_groom (k : Nat) (v : Reg) : (s.setEff k v).groom = s.groom := rfl
@[simp] theorem State.setEff_pkg (k : Nat) (v : Reg) : (s.setEff k v).pkg = s.pkg := rfl
@[simp] theorem State.setEff_fuse (k : Nat) (v : Reg) : (s.setEff k v).fuse = s.fuse := rfl
@[simp] theorem State.setEff_sent (k : Nat) (v : Reg) : (s.setEff k v).sent = s.sent := rfl
@[simp] theorem State.setEff_pending (k : Nat) (v : Reg) : (s.setEff k v).pending = s.pending := rfl
@[simp] theorem State.setEff_dict_vals (k : Nat) (v : Reg) : (s.setEff k v).dict.vals = s.dict.vals := rfl
@[simp] theorem State.setEff_dict_fallback (k : Nat) (v : Reg) : (s.setEff k v).dict.fallback = s.dict.fallback := rfl
@[simp] theorem State.setEff_dict_holding (k : Nat) (v : Reg) : (s.setEff k v).dict.holding = s.dict.holding := rfl
@[simp] theorem State.setEff_dict_pending (k : Nat) (v : Reg) : (s.setEff k v).dict.pending = s.dict.pending := rfl
@[simp] theorem State.setEff_dict_locks (k : Nat) (v : Reg) : (s.setEff k v).dict.locks = s.dict.locks := rfl
@[simp] theorem State.setEff_dict_partHeld (k : Nat) (v : Reg) : (s.setEff k v).dict.partHeld = s.dict.partHeld := rfl
@[simp] theorem State.setEff_dict_snapTake (k : Nat) (v : Reg) : (s.setEff k v).dict.snapTake = s.dict.snapTake := rfl
@[simp] theorem State.setEff_dict_snapClear (k : Nat) (v : Reg) : (s.setEff k v).dict.snapClear = s.dict.snapClear := rfl
@[simp] theorem State.setEff_dict_frozen (k : Nat) (v : Reg) : (s.setEff k v).dict.frozen = s.dict.frozen := rfl
@[simp] theorem State.setEff_dict_written (k : Nat) (v : Reg) : (s.setEff k v).dict.written = s.dict.written := rfl
@[simp] theorem State.setEff_dict_snapAt (k : Nat) (v : Reg) : (s.setEff k v).dict.snapAt = s.dict.snapAt := rfl
@[simp] theorem State.setEff_dict_partDue (k : Nat) (v : Reg) : (s.setEff k v).dict.partDue = s.dict.partDue := rfl
@[simp] theorem State.setEff_obj (k : Nat) (v : Reg) (j : Nat) : (s.setEff k v).obj j = s.obj j := rfl
@[simp] theorem State.setEff_lock (k : Nat) (v : Reg) (j : Nat) : (s.setEff k v).lock j = s.lock j := rfl
@[simp] theorem State.setEff_link (k : Nat) (v : Reg) (j : Nat) : (s.setEff k v).link j = s.link j := rfl
@[simp] theorem State.setEff_ring (k : Nat) (v : Reg) (j : Nat) : (s.setEff k v).ring j = s.ring j := rfl
@[simp] theorem State.setEff_source (k : Nat) (v : Reg) (j : Nat) : (s.setEff k v).source j = s.source j := rfl
@[simp] theorem State.setEff_now (k : Nat) (v : Reg) : (s.setEff k v).now = s.now := rfl

/-! ### setFallback -/

@[simp] theorem State.setFallback_free (k : Nat) (v : Reg) : (s.setFallback k v).free = s.free := rfl
@[simp] theorem State.setFallback_time (k : Nat) (v : Reg) : (s.setFallback k v).time = s.time := rfl
@[simp] theorem State.setFallback_gait (k : Nat) (v : Reg) : (s.setFallback k v).gait = s.gait := rfl
@[simp] theorem State.setFallback_tiers (k : Nat) (v : Reg) : (s.setFallback k v).tiers = s.tiers := rfl
@[simp] theorem State.setFallback_home (k : Nat) (v : Reg) : (s.setFallback k v).home = s.home := rfl
@[simp] theorem State.setFallback_ports (k : Nat) (v : Reg) : (s.setFallback k v).ports = s.ports := rfl
@[simp] theorem State.setFallback_mem (k : Nat) (v : Reg) : (s.setFallback k v).mem = s.mem := rfl
@[simp] theorem State.setFallback_rel (k : Nat) (v : Reg) : (s.setFallback k v).rel = s.rel := rfl
@[simp] theorem State.setFallback_modes (k : Nat) (v : Reg) : (s.setFallback k v).modes = s.modes := rfl
@[simp] theorem State.setFallback_bridle (k : Nat) (v : Reg) : (s.setFallback k v).bridle = s.bridle := rfl
@[simp] theorem State.setFallback_irq (k : Nat) (v : Reg) : (s.setFallback k v).irq = s.irq := rfl
@[simp] theorem State.setFallback_pmu (k : Nat) (v : Reg) : (s.setFallback k v).pmu = s.pmu := rfl
@[simp] theorem State.setFallback_groom (k : Nat) (v : Reg) : (s.setFallback k v).groom = s.groom := rfl
@[simp] theorem State.setFallback_pkg (k : Nat) (v : Reg) : (s.setFallback k v).pkg = s.pkg := rfl
@[simp] theorem State.setFallback_fuse (k : Nat) (v : Reg) : (s.setFallback k v).fuse = s.fuse := rfl
@[simp] theorem State.setFallback_sent (k : Nat) (v : Reg) : (s.setFallback k v).sent = s.sent := rfl
@[simp] theorem State.setFallback_pending (k : Nat) (v : Reg) : (s.setFallback k v).pending = s.pending := rfl
@[simp] theorem State.setFallback_dict_vals (k : Nat) (v : Reg) : (s.setFallback k v).dict.vals = s.dict.vals := rfl
@[simp] theorem State.setFallback_dict_eff (k : Nat) (v : Reg) : (s.setFallback k v).dict.eff = s.dict.eff := rfl
@[simp] theorem State.setFallback_dict_holding (k : Nat) (v : Reg) : (s.setFallback k v).dict.holding = s.dict.holding := rfl
@[simp] theorem State.setFallback_dict_pending (k : Nat) (v : Reg) : (s.setFallback k v).dict.pending = s.dict.pending := rfl
@[simp] theorem State.setFallback_dict_locks (k : Nat) (v : Reg) : (s.setFallback k v).dict.locks = s.dict.locks := rfl
@[simp] theorem State.setFallback_dict_partHeld (k : Nat) (v : Reg) : (s.setFallback k v).dict.partHeld = s.dict.partHeld := rfl
@[simp] theorem State.setFallback_dict_snapTake (k : Nat) (v : Reg) : (s.setFallback k v).dict.snapTake = s.dict.snapTake := rfl
@[simp] theorem State.setFallback_dict_snapClear (k : Nat) (v : Reg) : (s.setFallback k v).dict.snapClear = s.dict.snapClear := rfl
@[simp] theorem State.setFallback_dict_frozen (k : Nat) (v : Reg) : (s.setFallback k v).dict.frozen = s.dict.frozen := rfl
@[simp] theorem State.setFallback_dict_written (k : Nat) (v : Reg) : (s.setFallback k v).dict.written = s.dict.written := rfl
@[simp] theorem State.setFallback_dict_snapAt (k : Nat) (v : Reg) : (s.setFallback k v).dict.snapAt = s.dict.snapAt := rfl
@[simp] theorem State.setFallback_dict_partDue (k : Nat) (v : Reg) : (s.setFallback k v).dict.partDue = s.dict.partDue := rfl
@[simp] theorem State.setFallback_obj (k : Nat) (v : Reg) (j : Nat) : (s.setFallback k v).obj j = s.obj j := rfl
@[simp] theorem State.setFallback_effObj (k : Nat) (v : Reg) (j : Nat) : (s.setFallback k v).effObj j = s.effObj j := rfl
@[simp] theorem State.setFallback_eff (k : Nat) (v : Reg) (j : Nat) : (s.setFallback k v).eff j = s.eff j := rfl
@[simp] theorem State.setFallback_lock (k : Nat) (v : Reg) (j : Nat) : (s.setFallback k v).lock j = s.lock j := rfl
@[simp] theorem State.setFallback_link (k : Nat) (v : Reg) (j : Nat) : (s.setFallback k v).link j = s.link j := rfl
@[simp] theorem State.setFallback_ring (k : Nat) (v : Reg) (j : Nat) : (s.setFallback k v).ring j = s.ring j := rfl
@[simp] theorem State.setFallback_source (k : Nat) (v : Reg) (j : Nat) : (s.setFallback k v).source j = s.source j := rfl
@[simp] theorem State.setFallback_now (k : Nat) (v : Reg) : (s.setFallback k v).now = s.now := rfl

/-! ### bumpN -/

@[simp] theorem State.bumpN_free (k n : Nat) : (s.bumpN k n).free = s.free := rfl
@[simp] theorem State.bumpN_time (k n : Nat) : (s.bumpN k n).time = s.time := rfl
@[simp] theorem State.bumpN_gait (k n : Nat) : (s.bumpN k n).gait = s.gait := rfl
@[simp] theorem State.bumpN_tiers (k n : Nat) : (s.bumpN k n).tiers = s.tiers := rfl
@[simp] theorem State.bumpN_home (k n : Nat) : (s.bumpN k n).home = s.home := rfl
@[simp] theorem State.bumpN_ports (k n : Nat) : (s.bumpN k n).ports = s.ports := rfl
@[simp] theorem State.bumpN_mem (k n : Nat) : (s.bumpN k n).mem = s.mem := rfl
@[simp] theorem State.bumpN_rel (k n : Nat) : (s.bumpN k n).rel = s.rel := rfl
@[simp] theorem State.bumpN_modes (k n : Nat) : (s.bumpN k n).modes = s.modes := rfl
@[simp] theorem State.bumpN_bridle (k n : Nat) : (s.bumpN k n).bridle = s.bridle := rfl
@[simp] theorem State.bumpN_irq (k n : Nat) : (s.bumpN k n).irq = s.irq := rfl
@[simp] theorem State.bumpN_pmu (k n : Nat) : (s.bumpN k n).pmu = s.pmu := rfl
@[simp] theorem State.bumpN_groom (k n : Nat) : (s.bumpN k n).groom = s.groom := rfl
@[simp] theorem State.bumpN_pkg (k n : Nat) : (s.bumpN k n).pkg = s.pkg := rfl
@[simp] theorem State.bumpN_fuse (k n : Nat) : (s.bumpN k n).fuse = s.fuse := rfl
@[simp] theorem State.bumpN_sent (k n : Nat) : (s.bumpN k n).sent = s.sent := rfl
@[simp] theorem State.bumpN_pending (k n : Nat) : (s.bumpN k n).pending = s.pending := rfl
@[simp] theorem State.bumpN_dict_eff (k n : Nat) : (s.bumpN k n).dict.eff = s.dict.eff := rfl
@[simp] theorem State.bumpN_dict_holding (k n : Nat) : (s.bumpN k n).dict.holding = s.dict.holding := rfl
@[simp] theorem State.bumpN_dict_pending (k n : Nat) : (s.bumpN k n).dict.pending = s.dict.pending := rfl
@[simp] theorem State.bumpN_dict_locks (k n : Nat) : (s.bumpN k n).dict.locks = s.dict.locks := rfl
@[simp] theorem State.bumpN_dict_partHeld (k n : Nat) : (s.bumpN k n).dict.partHeld = s.dict.partHeld := rfl
@[simp] theorem State.bumpN_dict_snapTake (k n : Nat) : (s.bumpN k n).dict.snapTake = s.dict.snapTake := rfl
@[simp] theorem State.bumpN_dict_snapClear (k n : Nat) : (s.bumpN k n).dict.snapClear = s.dict.snapClear := rfl
@[simp] theorem State.bumpN_dict_frozen (k n : Nat) : (s.bumpN k n).dict.frozen = s.dict.frozen := rfl
@[simp] theorem State.bumpN_dict_written (k n : Nat) : (s.bumpN k n).dict.written = s.dict.written := rfl
@[simp] theorem State.bumpN_dict_snapAt (k n : Nat) : (s.bumpN k n).dict.snapAt = s.dict.snapAt := rfl
@[simp] theorem State.bumpN_dict_partDue (k n : Nat) : (s.bumpN k n).dict.partDue = s.dict.partDue := rfl
@[simp] theorem State.bumpN_effObj (k n : Nat) (j : Nat) : (s.bumpN k n).effObj j = s.effObj j := rfl
@[simp] theorem State.bumpN_eff (k n : Nat) (j : Nat) : (s.bumpN k n).eff j = s.eff j := rfl
@[simp] theorem State.bumpN_lock (k n : Nat) (j : Nat) : (s.bumpN k n).lock j = s.lock j := rfl
@[simp] theorem State.bumpN_link (k n : Nat) (j : Nat) : (s.bumpN k n).link j = s.link j := rfl
@[simp] theorem State.bumpN_ring (k n : Nat) (j : Nat) : (s.bumpN k n).ring j = s.ring j := rfl
@[simp] theorem State.bumpN_source (k n : Nat) (j : Nat) : (s.bumpN k n).source j = s.source j := rfl
@[simp] theorem State.bumpN_now (k n : Nat) : (s.bumpN k n).now = s.now := rfl

/-! ### bump -/

@[simp] theorem State.bump_free (k : Nat) : (s.bump k).free = s.free := rfl
@[simp] theorem State.bump_time (k : Nat) : (s.bump k).time = s.time := rfl
@[simp] theorem State.bump_gait (k : Nat) : (s.bump k).gait = s.gait := rfl
@[simp] theorem State.bump_tiers (k : Nat) : (s.bump k).tiers = s.tiers := rfl
@[simp] theorem State.bump_home (k : Nat) : (s.bump k).home = s.home := rfl
@[simp] theorem State.bump_ports (k : Nat) : (s.bump k).ports = s.ports := rfl
@[simp] theorem State.bump_mem (k : Nat) : (s.bump k).mem = s.mem := rfl
@[simp] theorem State.bump_rel (k : Nat) : (s.bump k).rel = s.rel := rfl
@[simp] theorem State.bump_modes (k : Nat) : (s.bump k).modes = s.modes := rfl
@[simp] theorem State.bump_bridle (k : Nat) : (s.bump k).bridle = s.bridle := rfl
@[simp] theorem State.bump_irq (k : Nat) : (s.bump k).irq = s.irq := rfl
@[simp] theorem State.bump_pmu (k : Nat) : (s.bump k).pmu = s.pmu := rfl
@[simp] theorem State.bump_groom (k : Nat) : (s.bump k).groom = s.groom := rfl
@[simp] theorem State.bump_pkg (k : Nat) : (s.bump k).pkg = s.pkg := rfl
@[simp] theorem State.bump_fuse (k : Nat) : (s.bump k).fuse = s.fuse := rfl
@[simp] theorem State.bump_sent (k : Nat) : (s.bump k).sent = s.sent := rfl
@[simp] theorem State.bump_pending (k : Nat) : (s.bump k).pending = s.pending := rfl
@[simp] theorem State.bump_dict_eff (k : Nat) : (s.bump k).dict.eff = s.dict.eff := rfl
@[simp] theorem State.bump_dict_holding (k : Nat) : (s.bump k).dict.holding = s.dict.holding := rfl
@[simp] theorem State.bump_dict_pending (k : Nat) : (s.bump k).dict.pending = s.dict.pending := rfl
@[simp] theorem State.bump_dict_locks (k : Nat) : (s.bump k).dict.locks = s.dict.locks := rfl
@[simp] theorem State.bump_dict_partHeld (k : Nat) : (s.bump k).dict.partHeld = s.dict.partHeld := rfl
@[simp] theorem State.bump_dict_snapTake (k : Nat) : (s.bump k).dict.snapTake = s.dict.snapTake := rfl
@[simp] theorem State.bump_dict_snapClear (k : Nat) : (s.bump k).dict.snapClear = s.dict.snapClear := rfl
@[simp] theorem State.bump_dict_frozen (k : Nat) : (s.bump k).dict.frozen = s.dict.frozen := rfl
@[simp] theorem State.bump_dict_written (k : Nat) : (s.bump k).dict.written = s.dict.written := rfl
@[simp] theorem State.bump_dict_snapAt (k : Nat) : (s.bump k).dict.snapAt = s.dict.snapAt := rfl
@[simp] theorem State.bump_dict_partDue (k : Nat) : (s.bump k).dict.partDue = s.dict.partDue := rfl
@[simp] theorem State.bump_effObj (k : Nat) (j : Nat) : (s.bump k).effObj j = s.effObj j := rfl
@[simp] theorem State.bump_eff (k : Nat) (j : Nat) : (s.bump k).eff j = s.eff j := rfl
@[simp] theorem State.bump_lock (k : Nat) (j : Nat) : (s.bump k).lock j = s.lock j := rfl
@[simp] theorem State.bump_link (k : Nat) (j : Nat) : (s.bump k).link j = s.link j := rfl
@[simp] theorem State.bump_ring (k : Nat) (j : Nat) : (s.bump k).ring j = s.ring j := rfl
@[simp] theorem State.bump_source (k : Nat) (j : Nat) : (s.bump k).source j = s.source j := rfl
@[simp] theorem State.bump_now (k : Nat) : (s.bump k).now = s.now := rfl

/-! ### emit -/

@[simp] theorem State.emit_free (m : OutMsg) : (s.emit m).free = s.free := rfl
@[simp] theorem State.emit_time (m : OutMsg) : (s.emit m).time = s.time := rfl
@[simp] theorem State.emit_dict (m : OutMsg) : (s.emit m).dict = s.dict := rfl
@[simp] theorem State.emit_gait (m : OutMsg) : (s.emit m).gait = s.gait := rfl
@[simp] theorem State.emit_tiers (m : OutMsg) : (s.emit m).tiers = s.tiers := rfl
@[simp] theorem State.emit_home (m : OutMsg) : (s.emit m).home = s.home := rfl
@[simp] theorem State.emit_ports (m : OutMsg) : (s.emit m).ports = s.ports := rfl
@[simp] theorem State.emit_mem (m : OutMsg) : (s.emit m).mem = s.mem := rfl
@[simp] theorem State.emit_rel (m : OutMsg) : (s.emit m).rel = s.rel := rfl
@[simp] theorem State.emit_modes (m : OutMsg) : (s.emit m).modes = s.modes := rfl
@[simp] theorem State.emit_bridle (m : OutMsg) : (s.emit m).bridle = s.bridle := rfl
@[simp] theorem State.emit_irq (m : OutMsg) : (s.emit m).irq = s.irq := rfl
@[simp] theorem State.emit_pmu (m : OutMsg) : (s.emit m).pmu = s.pmu := rfl
@[simp] theorem State.emit_groom (m : OutMsg) : (s.emit m).groom = s.groom := rfl
@[simp] theorem State.emit_pkg (m : OutMsg) : (s.emit m).pkg = s.pkg := rfl
@[simp] theorem State.emit_fuse (m : OutMsg) : (s.emit m).fuse = s.fuse := rfl
@[simp] theorem State.emit_pending (m : OutMsg) : (s.emit m).pending = s.pending := rfl
@[simp] theorem State.emit_obj (m : OutMsg) (j : Nat) : (s.emit m).obj j = s.obj j := rfl
@[simp] theorem State.emit_effObj (m : OutMsg) (j : Nat) : (s.emit m).effObj j = s.effObj j := rfl
@[simp] theorem State.emit_eff (m : OutMsg) (j : Nat) : (s.emit m).eff j = s.eff j := rfl
@[simp] theorem State.emit_lock (m : OutMsg) (j : Nat) : (s.emit m).lock j = s.lock j := rfl
@[simp] theorem State.emit_link (m : OutMsg) (j : Nat) : (s.emit m).link j = s.link j := rfl
@[simp] theorem State.emit_ring (m : OutMsg) (j : Nat) : (s.emit m).ring j = s.ring j := rfl
@[simp] theorem State.emit_source (m : OutMsg) (j : Nat) : (s.emit m).source j = s.source j := rfl
@[simp] theorem State.emit_now (m : OutMsg) : (s.emit m).now = s.now := rfl

/-! ### setLock -/

@[simp] theorem State.setLock_free (a : Nat) (l : Lock) : (s.setLock a l).free = s.free := rfl
@[simp] theorem State.setLock_time (a : Nat) (l : Lock) : (s.setLock a l).time = s.time := rfl
@[simp] theorem State.setLock_gait (a : Nat) (l : Lock) : (s.setLock a l).gait = s.gait := rfl
@[simp] theorem State.setLock_tiers (a : Nat) (l : Lock) : (s.setLock a l).tiers = s.tiers := rfl
@[simp] theorem State.setLock_home (a : Nat) (l : Lock) : (s.setLock a l).home = s.home := rfl
@[simp] theorem State.setLock_ports (a : Nat) (l : Lock) : (s.setLock a l).ports = s.ports := rfl
@[simp] theorem State.setLock_mem (a : Nat) (l : Lock) : (s.setLock a l).mem = s.mem := rfl
@[simp] theorem State.setLock_rel (a : Nat) (l : Lock) : (s.setLock a l).rel = s.rel := rfl
@[simp] theorem State.setLock_modes (a : Nat) (l : Lock) : (s.setLock a l).modes = s.modes := rfl
@[simp] theorem State.setLock_bridle (a : Nat) (l : Lock) : (s.setLock a l).bridle = s.bridle := rfl
@[simp] theorem State.setLock_irq (a : Nat) (l : Lock) : (s.setLock a l).irq = s.irq := rfl
@[simp] theorem State.setLock_pmu (a : Nat) (l : Lock) : (s.setLock a l).pmu = s.pmu := rfl
@[simp] theorem State.setLock_groom (a : Nat) (l : Lock) : (s.setLock a l).groom = s.groom := rfl
@[simp] theorem State.setLock_pkg (a : Nat) (l : Lock) : (s.setLock a l).pkg = s.pkg := rfl
@[simp] theorem State.setLock_fuse (a : Nat) (l : Lock) : (s.setLock a l).fuse = s.fuse := rfl
@[simp] theorem State.setLock_sent (a : Nat) (l : Lock) : (s.setLock a l).sent = s.sent := rfl
@[simp] theorem State.setLock_pending (a : Nat) (l : Lock) : (s.setLock a l).pending = s.pending := rfl
@[simp] theorem State.setLock_dict_vals (a : Nat) (l : Lock) : (s.setLock a l).dict.vals = s.dict.vals := rfl
@[simp] theorem State.setLock_dict_eff (a : Nat) (l : Lock) : (s.setLock a l).dict.eff = s.dict.eff := rfl
@[simp] theorem State.setLock_dict_fallback (a : Nat) (l : Lock) : (s.setLock a l).dict.fallback = s.dict.fallback := rfl
@[simp] theorem State.setLock_dict_holding (a : Nat) (l : Lock) : (s.setLock a l).dict.holding = s.dict.holding := rfl
@[simp] theorem State.setLock_dict_pending (a : Nat) (l : Lock) : (s.setLock a l).dict.pending = s.dict.pending := rfl
@[simp] theorem State.setLock_dict_partHeld (a : Nat) (l : Lock) : (s.setLock a l).dict.partHeld = s.dict.partHeld := rfl
@[simp] theorem State.setLock_dict_snapTake (a : Nat) (l : Lock) : (s.setLock a l).dict.snapTake = s.dict.snapTake := rfl
@[simp] theorem State.setLock_dict_snapClear (a : Nat) (l : Lock) : (s.setLock a l).dict.snapClear = s.dict.snapClear := rfl
@[simp] theorem State.setLock_dict_frozen (a : Nat) (l : Lock) : (s.setLock a l).dict.frozen = s.dict.frozen := rfl
@[simp] theorem State.setLock_dict_written (a : Nat) (l : Lock) : (s.setLock a l).dict.written = s.dict.written := rfl
@[simp] theorem State.setLock_dict_snapAt (a : Nat) (l : Lock) : (s.setLock a l).dict.snapAt = s.dict.snapAt := rfl
@[simp] theorem State.setLock_dict_partDue (a : Nat) (l : Lock) : (s.setLock a l).dict.partDue = s.dict.partDue := rfl
@[simp] theorem State.setLock_obj (a : Nat) (l : Lock) (j : Nat) : (s.setLock a l).obj j = s.obj j := rfl
@[simp] theorem State.setLock_effObj (a : Nat) (l : Lock) (j : Nat) : (s.setLock a l).effObj j = s.effObj j := rfl
@[simp] theorem State.setLock_eff (a : Nat) (l : Lock) (j : Nat) : (s.setLock a l).eff j = s.eff j := rfl
@[simp] theorem State.setLock_link (a : Nat) (l : Lock) (j : Nat) : (s.setLock a l).link j = s.link j := rfl
@[simp] theorem State.setLock_ring (a : Nat) (l : Lock) (j : Nat) : (s.setLock a l).ring j = s.ring j := rfl
@[simp] theorem State.setLock_source (a : Nat) (l : Lock) (j : Nat) : (s.setLock a l).source j = s.source j := rfl
@[simp] theorem State.setLock_now (a : Nat) (l : Lock) : (s.setLock a l).now = s.now := rfl

/-! ### setLink -/

@[simp] theorem State.setLink_free (h : Nat) (l : Link) : (s.setLink h l).free = s.free := rfl
@[simp] theorem State.setLink_time (h : Nat) (l : Link) : (s.setLink h l).time = s.time := rfl
@[simp] theorem State.setLink_dict (h : Nat) (l : Link) : (s.setLink h l).dict = s.dict := rfl
@[simp] theorem State.setLink_gait (h : Nat) (l : Link) : (s.setLink h l).gait = s.gait := rfl
@[simp] theorem State.setLink_tiers (h : Nat) (l : Link) : (s.setLink h l).tiers = s.tiers := rfl
@[simp] theorem State.setLink_home (h : Nat) (l : Link) : (s.setLink h l).home = s.home := rfl
@[simp] theorem State.setLink_mem (h : Nat) (l : Link) : (s.setLink h l).mem = s.mem := rfl
@[simp] theorem State.setLink_rel (h : Nat) (l : Link) : (s.setLink h l).rel = s.rel := rfl
@[simp] theorem State.setLink_modes (h : Nat) (l : Link) : (s.setLink h l).modes = s.modes := rfl
@[simp] theorem State.setLink_bridle (h : Nat) (l : Link) : (s.setLink h l).bridle = s.bridle := rfl
@[simp] theorem State.setLink_irq (h : Nat) (l : Link) : (s.setLink h l).irq = s.irq := rfl
@[simp] theorem State.setLink_pmu (h : Nat) (l : Link) : (s.setLink h l).pmu = s.pmu := rfl
@[simp] theorem State.setLink_groom (h : Nat) (l : Link) : (s.setLink h l).groom = s.groom := rfl
@[simp] theorem State.setLink_pkg (h : Nat) (l : Link) : (s.setLink h l).pkg = s.pkg := rfl
@[simp] theorem State.setLink_fuse (h : Nat) (l : Link) : (s.setLink h l).fuse = s.fuse := rfl
@[simp] theorem State.setLink_sent (h : Nat) (l : Link) : (s.setLink h l).sent = s.sent := rfl
@[simp] theorem State.setLink_pending (h : Nat) (l : Link) : (s.setLink h l).pending = s.pending := rfl
@[simp] theorem State.setLink_obj (h : Nat) (l : Link) (j : Nat) : (s.setLink h l).obj j = s.obj j := rfl
@[simp] theorem State.setLink_effObj (h : Nat) (l : Link) (j : Nat) : (s.setLink h l).effObj j = s.effObj j := rfl
@[simp] theorem State.setLink_eff (h : Nat) (l : Link) (j : Nat) : (s.setLink h l).eff j = s.eff j := rfl
@[simp] theorem State.setLink_lock (h : Nat) (l : Link) (j : Nat) : (s.setLink h l).lock j = s.lock j := rfl
@[simp] theorem State.setLink_ring (h : Nat) (l : Link) (j : Nat) : (s.setLink h l).ring j = s.ring j := rfl
@[simp] theorem State.setLink_source (h : Nat) (l : Link) (j : Nat) : (s.setLink h l).source j = s.source j := rfl
@[simp] theorem State.setLink_now (h : Nat) (l : Link) : (s.setLink h l).now = s.now := rfl

/-! ### setSource -/

@[simp] theorem State.setSource_free (n : Nat) (x : Source) : (s.setSource n x).free = s.free := rfl
@[simp] theorem State.setSource_time (n : Nat) (x : Source) : (s.setSource n x).time = s.time := rfl
@[simp] theorem State.setSource_dict (n : Nat) (x : Source) : (s.setSource n x).dict = s.dict := rfl
@[simp] theorem State.setSource_gait (n : Nat) (x : Source) : (s.setSource n x).gait = s.gait := rfl
@[simp] theorem State.setSource_tiers (n : Nat) (x : Source) : (s.setSource n x).tiers = s.tiers := rfl
@[simp] theorem State.setSource_home (n : Nat) (x : Source) : (s.setSource n x).home = s.home := rfl
@[simp] theorem State.setSource_ports (n : Nat) (x : Source) : (s.setSource n x).ports = s.ports := rfl
@[simp] theorem State.setSource_mem (n : Nat) (x : Source) : (s.setSource n x).mem = s.mem := rfl
@[simp] theorem State.setSource_rel (n : Nat) (x : Source) : (s.setSource n x).rel = s.rel := rfl
@[simp] theorem State.setSource_modes (n : Nat) (x : Source) : (s.setSource n x).modes = s.modes := rfl
@[simp] theorem State.setSource_bridle (n : Nat) (x : Source) : (s.setSource n x).bridle = s.bridle := rfl
@[simp] theorem State.setSource_pmu (n : Nat) (x : Source) : (s.setSource n x).pmu = s.pmu := rfl
@[simp] theorem State.setSource_groom (n : Nat) (x : Source) : (s.setSource n x).groom = s.groom := rfl
@[simp] theorem State.setSource_pkg (n : Nat) (x : Source) : (s.setSource n x).pkg = s.pkg := rfl
@[simp] theorem State.setSource_fuse (n : Nat) (x : Source) : (s.setSource n x).fuse = s.fuse := rfl
@[simp] theorem State.setSource_sent (n : Nat) (x : Source) : (s.setSource n x).sent = s.sent := rfl
@[simp] theorem State.setSource_pending (n : Nat) (x : Source) : (s.setSource n x).pending = s.pending := rfl
@[simp] theorem State.setSource_obj (n : Nat) (x : Source) (j : Nat) : (s.setSource n x).obj j = s.obj j := rfl
@[simp] theorem State.setSource_effObj (n : Nat) (x : Source) (j : Nat) : (s.setSource n x).effObj j = s.effObj j := rfl
@[simp] theorem State.setSource_eff (n : Nat) (x : Source) (j : Nat) : (s.setSource n x).eff j = s.eff j := rfl
@[simp] theorem State.setSource_lock (n : Nat) (x : Source) (j : Nat) : (s.setSource n x).lock j = s.lock j := rfl
@[simp] theorem State.setSource_link (n : Nat) (x : Source) (j : Nat) : (s.setSource n x).link j = s.link j := rfl
@[simp] theorem State.setSource_now (n : Nat) (x : Source) : (s.setSource n x).now = s.now := rfl

/-! ### setRing -/

@[simp] theorem State.setRing_free (r : Nat) (x : Ring) : (s.setRing r x).free = s.free := rfl
@[simp] theorem State.setRing_time (r : Nat) (x : Ring) : (s.setRing r x).time = s.time := rfl
@[simp] theorem State.setRing_dict (r : Nat) (x : Ring) : (s.setRing r x).dict = s.dict := rfl
@[simp] theorem State.setRing_gait (r : Nat) (x : Ring) : (s.setRing r x).gait = s.gait := rfl
@[simp] theorem State.setRing_tiers (r : Nat) (x : Ring) : (s.setRing r x).tiers = s.tiers := rfl
@[simp] theorem State.setRing_home (r : Nat) (x : Ring) : (s.setRing r x).home = s.home := rfl
@[simp] theorem State.setRing_ports (r : Nat) (x : Ring) : (s.setRing r x).ports = s.ports := rfl
@[simp] theorem State.setRing_mem (r : Nat) (x : Ring) : (s.setRing r x).mem = s.mem := rfl
@[simp] theorem State.setRing_rel (r : Nat) (x : Ring) : (s.setRing r x).rel = s.rel := rfl
@[simp] theorem State.setRing_modes (r : Nat) (x : Ring) : (s.setRing r x).modes = s.modes := rfl
@[simp] theorem State.setRing_bridle (r : Nat) (x : Ring) : (s.setRing r x).bridle = s.bridle := rfl
@[simp] theorem State.setRing_pmu (r : Nat) (x : Ring) : (s.setRing r x).pmu = s.pmu := rfl
@[simp] theorem State.setRing_groom (r : Nat) (x : Ring) : (s.setRing r x).groom = s.groom := rfl
@[simp] theorem State.setRing_pkg (r : Nat) (x : Ring) : (s.setRing r x).pkg = s.pkg := rfl
@[simp] theorem State.setRing_fuse (r : Nat) (x : Ring) : (s.setRing r x).fuse = s.fuse := rfl
@[simp] theorem State.setRing_sent (r : Nat) (x : Ring) : (s.setRing r x).sent = s.sent := rfl
@[simp] theorem State.setRing_pending (r : Nat) (x : Ring) : (s.setRing r x).pending = s.pending := rfl
@[simp] theorem State.setRing_obj (r : Nat) (x : Ring) (j : Nat) : (s.setRing r x).obj j = s.obj j := rfl
@[simp] theorem State.setRing_effObj (r : Nat) (x : Ring) (j : Nat) : (s.setRing r x).effObj j = s.effObj j := rfl
@[simp] theorem State.setRing_eff (r : Nat) (x : Ring) (j : Nat) : (s.setRing r x).eff j = s.eff j := rfl
@[simp] theorem State.setRing_lock (r : Nat) (x : Ring) (j : Nat) : (s.setRing r x).lock j = s.lock j := rfl
@[simp] theorem State.setRing_link (r : Nat) (x : Ring) (j : Nat) : (s.setRing r x).link j = s.link j := rfl
@[simp] theorem State.setRing_now (r : Nat) (x : Ring) : (s.setRing r x).now = s.now := rfl

/-! ### setIrqStatus -/

@[simp] theorem State.setIrqStatus_free (n : Nat) : (s.setIrqStatus n).free = s.free := rfl
@[simp] theorem State.setIrqStatus_time (n : Nat) : (s.setIrqStatus n).time = s.time := rfl
@[simp] theorem State.setIrqStatus_gait (n : Nat) : (s.setIrqStatus n).gait = s.gait := rfl
@[simp] theorem State.setIrqStatus_tiers (n : Nat) : (s.setIrqStatus n).tiers = s.tiers := rfl
@[simp] theorem State.setIrqStatus_home (n : Nat) : (s.setIrqStatus n).home = s.home := rfl
@[simp] theorem State.setIrqStatus_ports (n : Nat) : (s.setIrqStatus n).ports = s.ports := rfl
@[simp] theorem State.setIrqStatus_mem (n : Nat) : (s.setIrqStatus n).mem = s.mem := rfl
@[simp] theorem State.setIrqStatus_rel (n : Nat) : (s.setIrqStatus n).rel = s.rel := rfl
@[simp] theorem State.setIrqStatus_modes (n : Nat) : (s.setIrqStatus n).modes = s.modes := rfl
@[simp] theorem State.setIrqStatus_bridle (n : Nat) : (s.setIrqStatus n).bridle = s.bridle := rfl
@[simp] theorem State.setIrqStatus_irq (n : Nat) : (s.setIrqStatus n).irq = s.irq := rfl
@[simp] theorem State.setIrqStatus_pmu (n : Nat) : (s.setIrqStatus n).pmu = s.pmu := rfl
@[simp] theorem State.setIrqStatus_groom (n : Nat) : (s.setIrqStatus n).groom = s.groom := rfl
@[simp] theorem State.setIrqStatus_pkg (n : Nat) : (s.setIrqStatus n).pkg = s.pkg := rfl
@[simp] theorem State.setIrqStatus_fuse (n : Nat) : (s.setIrqStatus n).fuse = s.fuse := rfl
@[simp] theorem State.setIrqStatus_sent (n : Nat) : (s.setIrqStatus n).sent = s.sent := rfl
@[simp] theorem State.setIrqStatus_pending (n : Nat) : (s.setIrqStatus n).pending = s.pending := rfl
@[simp] theorem State.setIrqStatus_dict_eff (n : Nat) : (s.setIrqStatus n).dict.eff = s.dict.eff := rfl
@[simp] theorem State.setIrqStatus_dict_fallback (n : Nat) : (s.setIrqStatus n).dict.fallback = s.dict.fallback := rfl
@[simp] theorem State.setIrqStatus_dict_holding (n : Nat) : (s.setIrqStatus n).dict.holding = s.dict.holding := rfl
@[simp] theorem State.setIrqStatus_dict_pending (n : Nat) : (s.setIrqStatus n).dict.pending = s.dict.pending := rfl
@[simp] theorem State.setIrqStatus_dict_locks (n : Nat) : (s.setIrqStatus n).dict.locks = s.dict.locks := rfl
@[simp] theorem State.setIrqStatus_dict_partHeld (n : Nat) : (s.setIrqStatus n).dict.partHeld = s.dict.partHeld := rfl
@[simp] theorem State.setIrqStatus_dict_snapTake (n : Nat) : (s.setIrqStatus n).dict.snapTake = s.dict.snapTake := rfl
@[simp] theorem State.setIrqStatus_dict_snapClear (n : Nat) : (s.setIrqStatus n).dict.snapClear = s.dict.snapClear := rfl
@[simp] theorem State.setIrqStatus_dict_frozen (n : Nat) : (s.setIrqStatus n).dict.frozen = s.dict.frozen := rfl
@[simp] theorem State.setIrqStatus_dict_written (n : Nat) : (s.setIrqStatus n).dict.written = s.dict.written := rfl
@[simp] theorem State.setIrqStatus_dict_snapAt (n : Nat) : (s.setIrqStatus n).dict.snapAt = s.dict.snapAt := rfl
@[simp] theorem State.setIrqStatus_dict_partDue (n : Nat) : (s.setIrqStatus n).dict.partDue = s.dict.partDue := rfl
@[simp] theorem State.setIrqStatus_effObj (n : Nat) (j : Nat) : (s.setIrqStatus n).effObj j = s.effObj j := rfl
@[simp] theorem State.setIrqStatus_eff (n : Nat) (j : Nat) : (s.setIrqStatus n).eff j = s.eff j := rfl
@[simp] theorem State.setIrqStatus_lock (n : Nat) (j : Nat) : (s.setIrqStatus n).lock j = s.lock j := rfl
@[simp] theorem State.setIrqStatus_link (n : Nat) (j : Nat) : (s.setIrqStatus n).link j = s.link j := rfl
@[simp] theorem State.setIrqStatus_ring (n : Nat) (j : Nat) : (s.setIrqStatus n).ring j = s.ring j := rfl
@[simp] theorem State.setIrqStatus_source (n : Nat) (j : Nat) : (s.setIrqStatus n).source j = s.source j := rfl
@[simp] theorem State.setIrqStatus_now (n : Nat) : (s.setIrqStatus n).now = s.now := rfl

/-! ### answer -/

@[simp] theorem State.answer_free (lvl : Level) (k c : Nat) (v : Reg) : (s.answer lvl k c v).free = s.free := rfl
@[simp] theorem State.answer_time (lvl : Level) (k c : Nat) (v : Reg) : (s.answer lvl k c v).time = s.time := rfl
@[simp] theorem State.answer_dict (lvl : Level) (k c : Nat) (v : Reg) : (s.answer lvl k c v).dict = s.dict := rfl
@[simp] theorem State.answer_gait (lvl : Level) (k c : Nat) (v : Reg) : (s.answer lvl k c v).gait = s.gait := rfl
@[simp] theorem State.answer_tiers (lvl : Level) (k c : Nat) (v : Reg) : (s.answer lvl k c v).tiers = s.tiers := rfl
@[simp] theorem State.answer_home (lvl : Level) (k c : Nat) (v : Reg) : (s.answer lvl k c v).home = s.home := rfl
@[simp] theorem State.answer_ports (lvl : Level) (k c : Nat) (v : Reg) : (s.answer lvl k c v).ports = s.ports := rfl
@[simp] theorem State.answer_mem (lvl : Level) (k c : Nat) (v : Reg) : (s.answer lvl k c v).mem = s.mem := rfl
@[simp] theorem State.answer_rel (lvl : Level) (k c : Nat) (v : Reg) : (s.answer lvl k c v).rel = s.rel := rfl
@[simp] theorem State.answer_modes (lvl : Level) (k c : Nat) (v : Reg) : (s.answer lvl k c v).modes = s.modes := rfl
@[simp] theorem State.answer_bridle (lvl : Level) (k c : Nat) (v : Reg) : (s.answer lvl k c v).bridle = s.bridle := rfl
@[simp] theorem State.answer_irq (lvl : Level) (k c : Nat) (v : Reg) : (s.answer lvl k c v).irq = s.irq := rfl
@[simp] theorem State.answer_pmu (lvl : Level) (k c : Nat) (v : Reg) : (s.answer lvl k c v).pmu = s.pmu := rfl
@[simp] theorem State.answer_groom (lvl : Level) (k c : Nat) (v : Reg) : (s.answer lvl k c v).groom = s.groom := rfl
@[simp] theorem State.answer_pkg (lvl : Level) (k c : Nat) (v : Reg) : (s.answer lvl k c v).pkg = s.pkg := rfl
@[simp] theorem State.answer_fuse (lvl : Level) (k c : Nat) (v : Reg) : (s.answer lvl k c v).fuse = s.fuse := rfl
@[simp] theorem State.answer_pending (lvl : Level) (k c : Nat) (v : Reg) : (s.answer lvl k c v).pending = s.pending := rfl
@[simp] theorem State.answer_obj (lvl : Level) (k c : Nat) (v : Reg) (j : Nat) : (s.answer lvl k c v).obj j = s.obj j := rfl
@[simp] theorem State.answer_effObj (lvl : Level) (k c : Nat) (v : Reg) (j : Nat) : (s.answer lvl k c v).effObj j = s.effObj j := rfl
@[simp] theorem State.answer_eff (lvl : Level) (k c : Nat) (v : Reg) (j : Nat) : (s.answer lvl k c v).eff j = s.eff j := rfl
@[simp] theorem State.answer_lock (lvl : Level) (k c : Nat) (v : Reg) (j : Nat) : (s.answer lvl k c v).lock j = s.lock j := rfl
@[simp] theorem State.answer_link (lvl : Level) (k c : Nat) (v : Reg) (j : Nat) : (s.answer lvl k c v).link j = s.link j := rfl
@[simp] theorem State.answer_ring (lvl : Level) (k c : Nat) (v : Reg) (j : Nat) : (s.answer lvl k c v).ring j = s.ring j := rfl
@[simp] theorem State.answer_source (lvl : Level) (k c : Nat) (v : Reg) (j : Nat) : (s.answer lvl k c v).source j = s.source j := rfl
@[simp] theorem State.answer_now (lvl : Level) (k c : Nat) (v : Reg) : (s.answer lvl k c v).now = s.now := rfl

/-! ### recordRefusal -/

@[simp] theorem State.recordRefusal_free (lvl : Level) (k c : Nat) : (s.recordRefusal lvl k c).free = s.free := rfl
@[simp] theorem State.recordRefusal_time (lvl : Level) (k c : Nat) : (s.recordRefusal lvl k c).time = s.time := rfl
@[simp] theorem State.recordRefusal_gait (lvl : Level) (k c : Nat) : (s.recordRefusal lvl k c).gait = s.gait := rfl
@[simp] theorem State.recordRefusal_tiers (lvl : Level) (k c : Nat) : (s.recordRefusal lvl k c).tiers = s.tiers := rfl
@[simp] theorem State.recordRefusal_home (lvl : Level) (k c : Nat) : (s.recordRefusal lvl k c).home = s.home := rfl
@[simp] theorem State.recordRefusal_ports (lvl : Level) (k c : Nat) : (s.recordRefusal lvl k c).ports = s.ports := rfl
@[simp] theorem State.recordRefusal_mem (lvl : Level) (k c : Nat) : (s.recordRefusal lvl k c).mem = s.mem := rfl
@[simp] theorem State.recordRefusal_rel (lvl : Level) (k c : Nat) : (s.recordRefusal lvl k c).rel = s.rel := rfl
@[simp] theorem State.recordRefusal_modes (lvl : Level) (k c : Nat) : (s.recordRefusal lvl k c).modes = s.modes := rfl
@[simp] theorem State.recordRefusal_bridle (lvl : Level) (k c : Nat) : (s.recordRefusal lvl k c).bridle = s.bridle := rfl
@[simp] theorem State.recordRefusal_irq (lvl : Level) (k c : Nat) : (s.recordRefusal lvl k c).irq = s.irq := rfl
@[simp] theorem State.recordRefusal_pmu (lvl : Level) (k c : Nat) : (s.recordRefusal lvl k c).pmu = s.pmu := rfl
@[simp] theorem State.recordRefusal_groom (lvl : Level) (k c : Nat) : (s.recordRefusal lvl k c).groom = s.groom := rfl
@[simp] theorem State.recordRefusal_pkg (lvl : Level) (k c : Nat) : (s.recordRefusal lvl k c).pkg = s.pkg := rfl
@[simp] theorem State.recordRefusal_fuse (lvl : Level) (k c : Nat) : (s.recordRefusal lvl k c).fuse = s.fuse := rfl
@[simp] theorem State.recordRefusal_sent (lvl : Level) (k c : Nat) : (s.recordRefusal lvl k c).sent = s.sent := rfl
@[simp] theorem State.recordRefusal_pending (lvl : Level) (k c : Nat) : (s.recordRefusal lvl k c).pending = s.pending := rfl
@[simp] theorem State.recordRefusal_dict_eff (lvl : Level) (k c : Nat) : (s.recordRefusal lvl k c).dict.eff = s.dict.eff := rfl
@[simp] theorem State.recordRefusal_dict_holding (lvl : Level) (k c : Nat) : (s.recordRefusal lvl k c).dict.holding = s.dict.holding := rfl
@[simp] theorem State.recordRefusal_dict_pending (lvl : Level) (k c : Nat) : (s.recordRefusal lvl k c).dict.pending = s.dict.pending := rfl
@[simp] theorem State.recordRefusal_dict_locks (lvl : Level) (k c : Nat) : (s.recordRefusal lvl k c).dict.locks = s.dict.locks := rfl
@[simp] theorem State.recordRefusal_dict_partHeld (lvl : Level) (k c : Nat) : (s.recordRefusal lvl k c).dict.partHeld = s.dict.partHeld := rfl
@[simp] theorem State.recordRefusal_dict_snapTake (lvl : Level) (k c : Nat) : (s.recordRefusal lvl k c).dict.snapTake = s.dict.snapTake := rfl
@[simp] theorem State.recordRefusal_dict_snapClear (lvl : Level) (k c : Nat) : (s.recordRefusal lvl k c).dict.snapClear = s.dict.snapClear := rfl
@[simp] theorem State.recordRefusal_dict_frozen (lvl : Level) (k c : Nat) : (s.recordRefusal lvl k c).dict.frozen = s.dict.frozen := rfl
@[simp] theorem State.recordRefusal_dict_written (lvl : Level) (k c : Nat) : (s.recordRefusal lvl k c).dict.written = s.dict.written := rfl
@[simp] theorem State.recordRefusal_dict_snapAt (lvl : Level) (k c : Nat) : (s.recordRefusal lvl k c).dict.snapAt = s.dict.snapAt := rfl
@[simp] theorem State.recordRefusal_dict_partDue (lvl : Level) (k c : Nat) : (s.recordRefusal lvl k c).dict.partDue = s.dict.partDue := rfl
@[simp] theorem State.recordRefusal_effObj (lvl : Level) (k c : Nat) (j : Nat) : (s.recordRefusal lvl k c).effObj j = s.effObj j := rfl
@[simp] theorem State.recordRefusal_eff (lvl : Level) (k c : Nat) (j : Nat) : (s.recordRefusal lvl k c).eff j = s.eff j := rfl
@[simp] theorem State.recordRefusal_lock (lvl : Level) (k c : Nat) (j : Nat) : (s.recordRefusal lvl k c).lock j = s.lock j := rfl
@[simp] theorem State.recordRefusal_link (lvl : Level) (k c : Nat) (j : Nat) : (s.recordRefusal lvl k c).link j = s.link j := rfl
@[simp] theorem State.recordRefusal_ring (lvl : Level) (k c : Nat) (j : Nat) : (s.recordRefusal lvl k c).ring j = s.ring j := rfl
@[simp] theorem State.recordRefusal_source (lvl : Level) (k c : Nat) (j : Nat) : (s.recordRefusal lvl k c).source j = s.source j := rfl
@[simp] theorem State.recordRefusal_now (lvl : Level) (k c : Nat) : (s.recordRefusal lvl k c).now = s.now := rfl

/-! ### Refusal records and lock times -/

/-- A refusal changes at most the refusal counter and LAST_REFUSAL of its level (R433). -/
theorem State.refuse_eq (lvl : Level) (k c : Nat) : s.refuse lvl k c =
    { s with dict := { s.dict with vals := (s.refuse lvl k c).dict.vals, fallback := (s.refuse lvl k c).dict.fallback } } := by
  unfold State.refuse
  split <;> rfl

/-- A write of the holder restarts LOCK_TIMEOUT and changes nothing but its lock (R450). -/
theorem State.touchLock_eq (lvl : Level) (k : Nat) :
    s.touchLock lvl k = { s with dict := { s.dict with locks := (s.touchLock lvl k).dict.locks } } := by
  unfold State.touchLock
  dsimp only
  split <;> rfl

@[simp] theorem State.refuse_free (lvl : Level) (k c : Nat) : (s.refuse lvl k c).free = s.free := by rw [State.refuse_eq]
@[simp] theorem State.refuse_time (lvl : Level) (k c : Nat) : (s.refuse lvl k c).time = s.time := by rw [State.refuse_eq]
@[simp] theorem State.refuse_gait (lvl : Level) (k c : Nat) : (s.refuse lvl k c).gait = s.gait := by rw [State.refuse_eq]
@[simp] theorem State.refuse_tiers (lvl : Level) (k c : Nat) : (s.refuse lvl k c).tiers = s.tiers := by rw [State.refuse_eq]
@[simp] theorem State.refuse_home (lvl : Level) (k c : Nat) : (s.refuse lvl k c).home = s.home := by rw [State.refuse_eq]
@[simp] theorem State.refuse_ports (lvl : Level) (k c : Nat) : (s.refuse lvl k c).ports = s.ports := by rw [State.refuse_eq]
@[simp] theorem State.refuse_mem (lvl : Level) (k c : Nat) : (s.refuse lvl k c).mem = s.mem := by rw [State.refuse_eq]
@[simp] theorem State.refuse_rel (lvl : Level) (k c : Nat) : (s.refuse lvl k c).rel = s.rel := by rw [State.refuse_eq]
@[simp] theorem State.refuse_modes (lvl : Level) (k c : Nat) : (s.refuse lvl k c).modes = s.modes := by rw [State.refuse_eq]
@[simp] theorem State.refuse_bridle (lvl : Level) (k c : Nat) : (s.refuse lvl k c).bridle = s.bridle := by rw [State.refuse_eq]
@[simp] theorem State.refuse_irq (lvl : Level) (k c : Nat) : (s.refuse lvl k c).irq = s.irq := by rw [State.refuse_eq]
@[simp] theorem State.refuse_pmu (lvl : Level) (k c : Nat) : (s.refuse lvl k c).pmu = s.pmu := by rw [State.refuse_eq]
@[simp] theorem State.refuse_groom (lvl : Level) (k c : Nat) : (s.refuse lvl k c).groom = s.groom := by rw [State.refuse_eq]
@[simp] theorem State.refuse_pkg (lvl : Level) (k c : Nat) : (s.refuse lvl k c).pkg = s.pkg := by rw [State.refuse_eq]
@[simp] theorem State.refuse_fuse (lvl : Level) (k c : Nat) : (s.refuse lvl k c).fuse = s.fuse := by rw [State.refuse_eq]
@[simp] theorem State.refuse_sent (lvl : Level) (k c : Nat) : (s.refuse lvl k c).sent = s.sent := by rw [State.refuse_eq]
@[simp] theorem State.refuse_pending (lvl : Level) (k c : Nat) : (s.refuse lvl k c).pending = s.pending := by rw [State.refuse_eq]
@[simp] theorem State.refuse_dict_eff (lvl : Level) (k c : Nat) : (s.refuse lvl k c).dict.eff = s.dict.eff := by rw [State.refuse_eq]
@[simp] theorem State.refuse_dict_holding (lvl : Level) (k c : Nat) : (s.refuse lvl k c).dict.holding = s.dict.holding := by rw [State.refuse_eq]
@[simp] theorem State.refuse_dict_pending (lvl : Level) (k c : Nat) : (s.refuse lvl k c).dict.pending = s.dict.pending := by rw [State.refuse_eq]
@[simp] theorem State.refuse_dict_locks (lvl : Level) (k c : Nat) : (s.refuse lvl k c).dict.locks = s.dict.locks := by rw [State.refuse_eq]
@[simp] theorem State.refuse_dict_partHeld (lvl : Level) (k c : Nat) : (s.refuse lvl k c).dict.partHeld = s.dict.partHeld := by rw [State.refuse_eq]
@[simp] theorem State.refuse_dict_snapTake (lvl : Level) (k c : Nat) : (s.refuse lvl k c).dict.snapTake = s.dict.snapTake := by rw [State.refuse_eq]
@[simp] theorem State.refuse_dict_snapClear (lvl : Level) (k c : Nat) : (s.refuse lvl k c).dict.snapClear = s.dict.snapClear := by rw [State.refuse_eq]
@[simp] theorem State.refuse_dict_frozen (lvl : Level) (k c : Nat) : (s.refuse lvl k c).dict.frozen = s.dict.frozen := by rw [State.refuse_eq]
@[simp] theorem State.refuse_dict_written (lvl : Level) (k c : Nat) : (s.refuse lvl k c).dict.written = s.dict.written := by rw [State.refuse_eq]
@[simp] theorem State.refuse_dict_snapAt (lvl : Level) (k c : Nat) : (s.refuse lvl k c).dict.snapAt = s.dict.snapAt := by rw [State.refuse_eq]
@[simp] theorem State.refuse_dict_partDue (lvl : Level) (k c : Nat) : (s.refuse lvl k c).dict.partDue = s.dict.partDue := by rw [State.refuse_eq]
@[simp] theorem State.refuse_effObj (lvl : Level) (k c : Nat) (j : Nat) : (s.refuse lvl k c).effObj j = s.effObj j := by rw [State.refuse_eq]; rfl
@[simp] theorem State.refuse_eff (lvl : Level) (k c : Nat) (j : Nat) : (s.refuse lvl k c).eff j = s.eff j := by rw [State.refuse_eq]; rfl
@[simp] theorem State.refuse_lock (lvl : Level) (k c : Nat) (j : Nat) : (s.refuse lvl k c).lock j = s.lock j := by rw [State.refuse_eq]; rfl
@[simp] theorem State.refuse_now (lvl : Level) (k c : Nat) : (s.refuse lvl k c).now = s.now := by rw [State.refuse_eq]; rfl
@[simp] theorem State.refuse_link (lvl : Level) (k c : Nat) (j : Nat) : (s.refuse lvl k c).link j = s.link j := by rw [State.refuse_eq]; rfl
@[simp] theorem State.refuse_ring (lvl : Level) (k c : Nat) (j : Nat) : (s.refuse lvl k c).ring j = s.ring j := by rw [State.refuse_eq]; rfl
@[simp] theorem State.refuse_source (lvl : Level) (k c : Nat) (j : Nat) : (s.refuse lvl k c).source j = s.source j := by rw [State.refuse_eq]; rfl

@[simp] theorem State.touchLock_free (lvl : Level) (k : Nat) : (s.touchLock lvl k).free = s.free := by rw [State.touchLock_eq]
@[simp] theorem State.touchLock_time (lvl : Level) (k : Nat) : (s.touchLock lvl k).time = s.time := by rw [State.touchLock_eq]
@[simp] theorem State.touchLock_gait (lvl : Level) (k : Nat) : (s.touchLock lvl k).gait = s.gait := by rw [State.touchLock_eq]
@[simp] theorem State.touchLock_tiers (lvl : Level) (k : Nat) : (s.touchLock lvl k).tiers = s.tiers := by rw [State.touchLock_eq]
@[simp] theorem State.touchLock_home (lvl : Level) (k : Nat) : (s.touchLock lvl k).home = s.home := by rw [State.touchLock_eq]
@[simp] theorem State.touchLock_ports (lvl : Level) (k : Nat) : (s.touchLock lvl k).ports = s.ports := by rw [State.touchLock_eq]
@[simp] theorem State.touchLock_mem (lvl : Level) (k : Nat) : (s.touchLock lvl k).mem = s.mem := by rw [State.touchLock_eq]
@[simp] theorem State.touchLock_rel (lvl : Level) (k : Nat) : (s.touchLock lvl k).rel = s.rel := by rw [State.touchLock_eq]
@[simp] theorem State.touchLock_modes (lvl : Level) (k : Nat) : (s.touchLock lvl k).modes = s.modes := by rw [State.touchLock_eq]
@[simp] theorem State.touchLock_bridle (lvl : Level) (k : Nat) : (s.touchLock lvl k).bridle = s.bridle := by rw [State.touchLock_eq]
@[simp] theorem State.touchLock_irq (lvl : Level) (k : Nat) : (s.touchLock lvl k).irq = s.irq := by rw [State.touchLock_eq]
@[simp] theorem State.touchLock_pmu (lvl : Level) (k : Nat) : (s.touchLock lvl k).pmu = s.pmu := by rw [State.touchLock_eq]
@[simp] theorem State.touchLock_groom (lvl : Level) (k : Nat) : (s.touchLock lvl k).groom = s.groom := by rw [State.touchLock_eq]
@[simp] theorem State.touchLock_pkg (lvl : Level) (k : Nat) : (s.touchLock lvl k).pkg = s.pkg := by rw [State.touchLock_eq]
@[simp] theorem State.touchLock_fuse (lvl : Level) (k : Nat) : (s.touchLock lvl k).fuse = s.fuse := by rw [State.touchLock_eq]
@[simp] theorem State.touchLock_sent (lvl : Level) (k : Nat) : (s.touchLock lvl k).sent = s.sent := by rw [State.touchLock_eq]
@[simp] theorem State.touchLock_pending (lvl : Level) (k : Nat) : (s.touchLock lvl k).pending = s.pending := by rw [State.touchLock_eq]
@[simp] theorem State.touchLock_dict_vals (lvl : Level) (k : Nat) : (s.touchLock lvl k).dict.vals = s.dict.vals := by rw [State.touchLock_eq]
@[simp] theorem State.touchLock_dict_eff (lvl : Level) (k : Nat) : (s.touchLock lvl k).dict.eff = s.dict.eff := by rw [State.touchLock_eq]
@[simp] theorem State.touchLock_dict_fallback (lvl : Level) (k : Nat) : (s.touchLock lvl k).dict.fallback = s.dict.fallback := by rw [State.touchLock_eq]
@[simp] theorem State.touchLock_dict_holding (lvl : Level) (k : Nat) : (s.touchLock lvl k).dict.holding = s.dict.holding := by rw [State.touchLock_eq]
@[simp] theorem State.touchLock_dict_pending (lvl : Level) (k : Nat) : (s.touchLock lvl k).dict.pending = s.dict.pending := by rw [State.touchLock_eq]
@[simp] theorem State.touchLock_dict_partHeld (lvl : Level) (k : Nat) : (s.touchLock lvl k).dict.partHeld = s.dict.partHeld := by rw [State.touchLock_eq]
@[simp] theorem State.touchLock_dict_snapTake (lvl : Level) (k : Nat) : (s.touchLock lvl k).dict.snapTake = s.dict.snapTake := by rw [State.touchLock_eq]
@[simp] theorem State.touchLock_dict_snapClear (lvl : Level) (k : Nat) : (s.touchLock lvl k).dict.snapClear = s.dict.snapClear := by rw [State.touchLock_eq]
@[simp] theorem State.touchLock_dict_frozen (lvl : Level) (k : Nat) : (s.touchLock lvl k).dict.frozen = s.dict.frozen := by rw [State.touchLock_eq]
@[simp] theorem State.touchLock_dict_written (lvl : Level) (k : Nat) : (s.touchLock lvl k).dict.written = s.dict.written := by rw [State.touchLock_eq]
@[simp] theorem State.touchLock_dict_snapAt (lvl : Level) (k : Nat) : (s.touchLock lvl k).dict.snapAt = s.dict.snapAt := by rw [State.touchLock_eq]
@[simp] theorem State.touchLock_dict_partDue (lvl : Level) (k : Nat) : (s.touchLock lvl k).dict.partDue = s.dict.partDue := by rw [State.touchLock_eq]
@[simp] theorem State.touchLock_effObj (lvl : Level) (k : Nat) (j : Nat) : (s.touchLock lvl k).effObj j = s.effObj j := by rw [State.touchLock_eq]; rfl
@[simp] theorem State.touchLock_eff (lvl : Level) (k : Nat) (j : Nat) : (s.touchLock lvl k).eff j = s.eff j := by rw [State.touchLock_eq]; rfl
@[simp] theorem State.touchLock_obj (lvl : Level) (k : Nat) (j : Nat) : (s.touchLock lvl k).obj j = s.obj j := by rw [State.touchLock_eq]; rfl
@[simp] theorem State.touchLock_now (lvl : Level) (k : Nat) : (s.touchLock lvl k).now = s.now := by rw [State.touchLock_eq]; rfl
@[simp] theorem State.touchLock_link (lvl : Level) (k : Nat) (j : Nat) : (s.touchLock lvl k).link j = s.link j := by rw [State.touchLock_eq]; rfl
@[simp] theorem State.touchLock_ring (lvl : Level) (k : Nat) (j : Nat) : (s.touchLock lvl k).ring j = s.ring j := by rw [State.touchLock_eq]; rfl
@[simp] theorem State.touchLock_source (lvl : Level) (k : Nat) (j : Nat) : (s.touchLock lvl k).source j = s.source j := by rw [State.touchLock_eq]; rfl

/-! ### A read after a write -/

@[simp] theorem State.obj_setObj (k j : Nat) (v : Reg) : (s.setObj k v).obj j = if j = k then v else s.obj j := by
  simp only [State.obj, State.setObj, State.withDict_dict]
  by_cases h : j = k
  · subst h
    simp
  · rw [Assoc.getD_putD_ne _ _ _ _ h, if_neg h]

@[simp] theorem State.obj_setNat (k j v : Nat) : (s.setNat k v).obj j = if j = k then BitVec.ofNat 64 v else s.obj j :=
  State.obj_setObj s k j _

@[simp] theorem State.obj_bumpN (k j n : Nat) :
    (s.bumpN k n).obj j = if j = k then satAdd32 (s.obj k) n else s.obj j := State.obj_setObj s k j _

@[simp] theorem State.obj_bump (k j : Nat) : (s.bump k).obj j = if j = k then satAdd32 (s.obj k) 1 else s.obj j :=
  State.obj_setObj s k j _

/-- A refusal leaves every object but the refusal counters and LAST_REFUSALs. -/
theorem State.refuse_obj (lvl : Level) (k c j : Nat) (h : j < Obj.lastRefusal ∨ Obj.dictRefusals + 4 < j) :
    (s.refuse lvl k c).obj j = s.obj j := by
  have hl : levelNum lvl - 1 < 5 := by cases lvl <;> decide
  unfold State.refuse
  split
  · rfl
  · unfold State.recordRefusal
    simp only [State.obj_setNat, State.obj_bump]
    rw [if_neg, if_neg] <;> simp only [Obj.dictRefusals, Obj.lastRefusal] at h ⊢ <;> omega

@[simp] theorem State.effObj_setEff (k j : Nat) (v : Reg) : (s.setEff k v).effObj j = if j = k then v else s.effObj j := by
  simp only [State.effObj, State.setEff, State.withDict_dict]
  by_cases h : j = k
  · subst h
    simp
  · rw [Assoc.getD_putD_ne _ _ _ _ h, if_neg h]

@[simp] theorem State.lock_setLock (a b : Nat) (l : Lock) : (s.setLock a l).lock b = if b = a then l else s.lock b := by
  simp [State.lock, State.setLock]

@[simp] theorem State.link_setLink (a b : Nat) (l : Link) : (s.setLink a l).link b = if b = a then l else s.link b := by
  simp [State.link, State.setLink]

@[simp] theorem State.source_setSource (a b : Nat) (l : Source) :
    (s.setSource a l).source b = if b = a then l else s.source b := by
  simp [State.source, State.setSource]

@[simp] theorem State.ring_setRing (a b : Nat) (l : Ring) : (s.setRing a l).ring b = if b = a then l else s.ring b := by
  simp [State.ring, State.setRing]

@[simp] theorem State.sent_emit (m : OutMsg) : (s.emit m).sent = s.sent ++ [m] := rfl

@[simp] theorem State.sent_answer (lvl : Level) (k c : Nat) (v : Reg) :
    (s.answer lvl k c v).sent = s.sent ++ [.answer lvl k c v] := rfl

end

end Sys2Proof.Machine
end

