-- ==== Sys2Proof/Laws/Events.lean ====
section
/-!
SUPPORT. What the event of a source can change, said once: object values with their fall-back copies, the interrupt logic and
Bridle's alarms; and which objects it leaves.
-/
namespace Sys2Proof.Machine

/-- Only the values of objects, the interrupt logic and the alarms changed. -/
def EventFrame (s t : State) : Prop :=
  t = { s with dict := { s.dict with vals := t.dict.vals, fallback := t.dict.fallback }, irq := t.irq, bridle := t.bridle }

/-- The frame of an event, with the objects it leaves. -/
def EventStep (s t : State) : Prop := EventFrame s t ∧ ∀ k, eventKey k = false → t.obj k = s.obj k

theorem EventFrame.refl (s : State) : EventFrame s s := rfl

theorem EventFrame.trans {s t u : State} (h : EventFrame s t) (g : EventFrame t u) : EventFrame s u := by
  unfold EventFrame at *
  rw [g, h]

theorem EventStep.refl (s : State) : EventStep s s := ⟨rfl, fun _ _ => rfl⟩

theorem EventStep.trans {s t u : State} (h : EventStep s t) (g : EventStep t u) : EventStep s u :=
  ⟨h.1.trans g.1, fun k hk => (g.2 k hk).trans (h.2 k hk)⟩

theorem eventStep_irq (s : State) (x : Irq) : EventStep s { s with irq := x } := ⟨rfl, fun _ _ => rfl⟩

theorem eventStep_bridle (s : State) (x : Bridle) : EventStep s { s with bridle := x } := ⟨rfl, fun _ _ => rfl⟩

theorem eventStep_setObj (s : State) {k : Nat} (v : Reg) (hk : eventKey k = true) : EventStep s (s.setObj k v) := by
  refine ⟨rfl, fun j hj => ?_⟩
  rw [State.obj_setObj, if_neg]
  rintro rfl
  simp [hk] at hj

theorem eventStep_setRing (s : State) (r : Nat) (x : Ring) : EventStep s (s.setRing r x) := ⟨rfl, fun _ _ => rfl⟩

theorem eventStep_bump (s : State) {k : Nat} (hk : eventKey k = true) : EventStep s (s.bump k) := by
  refine ⟨rfl, fun j hj => ?_⟩
  rw [State.obj_bump, if_neg]
  rintro rfl
  simp [hk] at hj

theorem eventKey_irqStatus {n : Nat} (h : n < 1024) : eventKey (Obj.irqStatus + n / 64) = true := by
  have : (Obj.irqStatus + n / 64) / 256 = 0x8080 := by
    simp only [Obj.irqStatus]
    omega
  simp [eventKey, this]

theorem eventKey_ring {r sub : Nat} (h : r < 64) (hs : sub < 256) : eventKey (arrIx (0x830000 + sub) r) = true := by
  have : (arrIx (0x830000 + sub) r) / 256 = 0x8300 + r := by
    simp only [arrIx]
    omega
  simp only [eventKey, this, Bool.or_eq_true, Bool.and_eq_true, decide_eq_true_eq]
  omega

theorem deliver_step (s : State) {n : Nat} (h : n < 1024) : EventStep s (s.deliver n) := by
  unfold State.deliver
  dsimp only
  have h1 : EventStep s (if (s.srcConfig n).testBit 9 then s.setIrqStatus n else s) := by
    split
    · exact eventStep_setObj s _ (eventKey_irqStatus h)
    · exact .refl s
  generalize (if (s.srcConfig n).testBit 9 then s.setIrqStatus n else s) = u at h1
  split
  · exact h1.trans (eventStep_irq u _)
  · split
    · exact h1.trans (eventStep_irq u _)
    · exact h1.trans (eventStep_irq u _)
    · exact h1

theorem ringThreshold_step (s : State) {r : Nat} (before : Nat) (h : r < 64) : EventStep s (s.ringThreshold r before) := by
  unfold State.ringThreshold
  dsimp only
  split
  · exact deliver_step s (by omega)
  · exact .refl s

theorem putRecord_step (s : State) {r : Nat} (x : Record) (h : r < 64) : EventStep s (s.putRecord r x) :=
  (eventStep_irq s _).trans (ringThreshold_step _ _ h)

theorem recordAlarm_step (s : State) {r : Nat} (x : Record) (h : r < 64) : EventStep s (s.recordAlarm r x) := by
  unfold State.recordAlarm
  dsimp only
  split
  · exact ((eventStep_setRing s r _).trans (eventStep_bump _ (eventKey_ring (sub := 8) h (by decide)))).trans (eventStep_bridle _ _)
  · split
    · exact eventStep_irq s _
    · split
      · exact (eventStep_bridle s _).trans (putRecord_step _ _ h)
      · exact eventStep_irq s _

theorem recordLog_step (s : State) {r : Nat} (x : Record) (h : r < 64) : EventStep s (s.recordLog r x) := by
  unfold State.recordLog
  dsimp only
  split
  · exact (eventStep_setRing s r _).trans (eventStep_bump _ (eventKey_ring (sub := 7) h (by decide)))
  · split
    · exact (putRecord_step s _ h).trans (eventStep_setRing _ _ _)
    · exact putRecord_step s _ h

theorem recordTrace_step (s : State) {r : Nat} (x : Record) (h : r < 64) : EventStep s (s.recordTrace r x) := by
  unfold State.recordTrace
  dsimp only
  by_cases hd : (s.ring r).drops = 0
  · simp only [hd, if_true]
    split
    · exact putRecord_step s _ h
    · exact (eventStep_setRing s r _).trans (eventStep_bump _ (eventKey_ring (sub := 6) h (by decide)))
  · simp only [hd, if_false]
    split
    · exact ((eventStep_setRing s r _).trans (putRecord_step _ _ h)).trans (putRecord_step _ _ h)
    · exact (eventStep_setRing s r _).trans (eventStep_bump _ (eventKey_ring (sub := 6) h (by decide)))

theorem record_step (s : State) (n : Nat) (x : Record) : EventStep s (s.record n x) := by
  have hr : bitsOf (s.srcConfig n) 5 0 < 64 := Nat.mod_lt _ (by decide)
  unfold State.record
  dsimp only
  split
  · exact .refl s
  · split
    · split
      · exact recordAlarm_step s x hr
      · split
        · exact recordLog_step s x hr
        · exact recordTrace_step s x hr
    · exact .refl s

/-- What the event of a source changes. -/
theorem raise_step (s : State) {n : Nat} (data : List Reg) (h : n < 1024) : EventStep s (s.raise n data) := by
  unfold State.raise
  dsimp only
  split
  · exact (record_step s n _).trans (deliver_step _ h)
  · split
    · exact eventStep_bridle s _
    · exact .refl s

theorem raise_obj (s : State) {n : Nat} (data : List Reg) (h : n < 1024) {k : Nat} (hk : eventKey k = false) :
    (s.raise n data).obj k = s.obj k := (raise_step s data h).2 k hk

theorem raise_frame (s : State) {n : Nat} (data : List Reg) (h : n < 1024) : EventFrame s (s.raise n data) :=
  (raise_step s data h).1

theorem EventFrame.srcConfig {s t : State} (h : EventFrame s t) (n : Nat) : t.srcConfig n = s.srcConfig n := by
  unfold EventFrame at h
  rw [h]
  rfl

theorem deliver_irqStatus (s : State) {n : Nat} (h : (s.srcConfig n).testBit 9 = true) :
    ((s.deliver n).obj (Obj.irqStatus + n / 64)).toNat.testBit (n % 64) = true := by
  have hb : ((s.setIrqStatus n).obj (Obj.irqStatus + n / 64)).toNat.testBit (n % 64) = true := by
    have hlt : 1 <<< (n % 64) < 2 ^ 64 := by
      rw [Nat.one_shiftLeft]
      exact Nat.pow_lt_pow_right (by decide) (Nat.mod_lt _ (by decide))
    simp only [State.setIrqStatus, State.obj_setObj, if_true, BitVec.toNat_or, BitVec.toNat_ofNat, Nat.mod_eq_of_lt hlt,
      Nat.testBit_or, Nat.testBit_shiftLeft, Nat.sub_self, ge_iff_le, Nat.le_refl, decide_true, Bool.true_and]
    simp
  unfold State.deliver
  simp only [h, if_true]
  split
  · exact hb
  · split <;> exact hb

theorem deliver_source (s : State) {n : Nat} (h : (s.srcConfig n).testBit 30 = false) :
    ((s.deliver n).source n).st ≠ .idle := by
  unfold State.deliver
  simp only [h, Bool.false_eq_true, if_false]
  generalize (if (s.srcConfig n).testBit 9 = true then s.setIrqStatus n else s) = u
  split
  · simp
  · rename_i hx
    simp [hx]
  · rename_i hx
    simp [hx]

/-- What the event of a source does wherever records and interrupts run (R465, R468, R479). -/
theorem raise_raised (s : State) (n : Nat) (data : List Reg) : Raised s (s.raise n data) n := by
  intro he
  unfold State.raise
  simp only [he, if_true]
  have hf := (record_step s n { source := n, count := 1, stride := s.now, words := data.take 6 }).1.srcConfig n
  exact ⟨fun h => deliver_irqStatus _ (by rw [hf]; exact h), fun h => deliver_source _ (by rw [hf]; exact h)⟩

/-! ### What the event of a source leaves -/

@[simp] theorem State.raise_free (s : State) (n : Nat) (d : List Reg) (h : n < 1024) : (s.raise n d).free = s.free := by
  rw [raise_frame s d h]
@[simp] theorem State.raise_time (s : State) (n : Nat) (d : List Reg) (h : n < 1024) : (s.raise n d).time = s.time := by
  rw [raise_frame s d h]
@[simp] theorem State.raise_gait (s : State) (n : Nat) (d : List Reg) (h : n < 1024) : (s.raise n d).gait = s.gait := by
  rw [raise_frame s d h]
@[simp] theorem State.raise_tiers (s : State) (n : Nat) (d : List Reg) (h : n < 1024) : (s.raise n d).tiers = s.tiers := by
  rw [raise_frame s d h]
@[simp] theorem State.raise_home (s : State) (n : Nat) (d : List Reg) (h : n < 1024) : (s.raise n d).home = s.home := by
  rw [raise_frame s d h]
@[simp] theorem State.raise_ports (s : State) (n : Nat) (d : List Reg) (h : n < 1024) : (s.raise n d).ports = s.ports := by
  rw [raise_frame s d h]
@[simp] theorem State.raise_mem (s : State) (n : Nat) (d : List Reg) (h : n < 1024) : (s.raise n d).mem = s.mem := by
  rw [raise_frame s d h]
@[simp] theorem State.raise_rel (s : State) (n : Nat) (d : List Reg) (h : n < 1024) : (s.raise n d).rel = s.rel := by
  rw [raise_frame s d h]
@[simp] theorem State.raise_modes (s : State) (n : Nat) (d : List Reg) (h : n < 1024) : (s.raise n d).modes = s.modes := by
  rw [raise_frame s d h]
@[simp] theorem State.raise_pmu (s : State) (n : Nat) (d : List Reg) (h : n < 1024) : (s.raise n d).pmu = s.pmu := by
  rw [raise_frame s d h]
@[simp] theorem State.raise_groom (s : State) (n : Nat) (d : List Reg) (h : n < 1024) : (s.raise n d).groom = s.groom := by
  rw [raise_frame s d h]
@[simp] theorem State.raise_pkg (s : State) (n : Nat) (d : List Reg) (h : n < 1024) : (s.raise n d).pkg = s.pkg := by
  rw [raise_frame s d h]
@[simp] theorem State.raise_fuse (s : State) (n : Nat) (d : List Reg) (h : n < 1024) : (s.raise n d).fuse = s.fuse := by
  rw [raise_frame s d h]
@[simp] theorem State.raise_sent (s : State) (n : Nat) (d : List Reg) (h : n < 1024) : (s.raise n d).sent = s.sent := by
  rw [raise_frame s d h]
@[simp] theorem State.raise_pending (s : State) (n : Nat) (d : List Reg) (h : n < 1024) : (s.raise n d).pending = s.pending := by
  rw [raise_frame s d h]
@[simp] theorem State.raise_dict_eff (s : State) (n : Nat) (d : List Reg) (h : n < 1024) : (s.raise n d).dict.eff = s.dict.eff := by
  rw [raise_frame s d h]
@[simp] theorem State.raise_dict_holding (s : State) (n : Nat) (d : List Reg) (h : n < 1024) : (s.raise n d).dict.holding = s.dict.holding := by
  rw [raise_frame s d h]
@[simp] theorem State.raise_dict_pending (s : State) (n : Nat) (d : List Reg) (h : n < 1024) : (s.raise n d).dict.pending = s.dict.pending := by
  rw [raise_frame s d h]
@[simp] theorem State.raise_dict_locks (s : State) (n : Nat) (d : List Reg) (h : n < 1024) : (s.raise n d).dict.locks = s.dict.locks := by
  rw [raise_frame s d h]
@[simp] theorem State.raise_dict_partHeld (s : State) (n : Nat) (d : List Reg) (h : n < 1024) : (s.raise n d).dict.partHeld = s.dict.partHeld := by
  rw [raise_frame s d h]
@[simp] theorem State.raise_dict_snapTake (s : State) (n : Nat) (d : List Reg) (h : n < 1024) : (s.raise n d).dict.snapTake = s.dict.snapTake := by
  rw [raise_frame s d h]
@[simp] theorem State.raise_dict_snapClear (s : State) (n : Nat) (d : List Reg) (h : n < 1024) : (s.raise n d).dict.snapClear = s.dict.snapClear := by
  rw [raise_frame s d h]
@[simp] theorem State.raise_dict_frozen (s : State) (n : Nat) (d : List Reg) (h : n < 1024) : (s.raise n d).dict.frozen = s.dict.frozen := by
  rw [raise_frame s d h]
@[simp] theorem State.raise_dict_snapAt (s : State) (n : Nat) (d : List Reg) (h : n < 1024) : (s.raise n d).dict.snapAt = s.dict.snapAt := by
  rw [raise_frame s d h]

/-- An event writes within its frame. -/
theorem EventFrame.wroteRaised {s t : State} (h : EventFrame s t) : WroteRaised s t := by
  unfold EventFrame at h
  constructor <;> rw [h]

end Sys2Proof.Machine
end

