-- ==== Sys2Proof/Laws/Dict.lean ====
section
/-!
SUPPORT. One write at a level: what the guarded write of an object answers, accepted or refused by its own rule, and what the
answer and the lock's time leave.
-/
namespace Sys2Proof.Machine

/-- An access that passes Table 11.4 and whose own rule accepts it. -/
theorem writeWith_accepted {s s' : State} {lvl : Level} {k v : Nat} {own : State → Nat × State}
    (h : s.accepts lvl k v = true) (ho : own s = (0, s')) :
    s.writeWith lvl k v own = (s'.touchLock lvl k).answer lvl k 0 0 := by
  simp only [State.accepts, Bool.and_eq_true, beq_iff_eq, Bool.not_eq_true'] at h
  obtain ⟨⟨h1, h2⟩, h3⟩ := h
  simp [State.writeWith, State.guarded, h1, h2, h3, ho]

/-- An access that passes Table 11.4 and whose own rule refuses it. -/
theorem writeWith_refused {s s' : State} {lvl : Level} {k v c : Nat} {own : State → Nat × State}
    (h : s.accepts lvl k v = true) (ho : own s = (c, s')) (hc : c ≠ 0) :
    s.writeWith lvl k v own = (s'.refuse lvl k c).answer lvl k c 0 := by
  simp only [State.accepts, Bool.and_eq_true, beq_iff_eq, Bool.not_eq_true'] at h
  obtain ⟨⟨h1, h2⟩, h3⟩ := h
  simp [State.writeWith, State.guarded, h1, h2, h3, ho, hc]

/-- An access that a check of Table 11.4 refuses leaves everything but the refusal record and the answer (R432, R433). -/
theorem writeWith_check {s : State} {lvl : Level} {k v c : Nat} {own : State → Nat × State}
    (h : s.checkWrite lvl k v 0 = c) (hc : c ≠ 0) : s.writeWith lvl k v own = (s.refuse lvl k c).answer lvl k c 0 := by
  simp [State.writeWith, State.guarded, h, hc]

/-- An access whose value is out of range. -/
theorem writeWith_range {s : State} {lvl : Level} {k v c : Nat} {own : State → Nat × State}
    (h : s.checkWrite lvl k v 0 = 0) (hr : s.checkRange k v = c) (hc : c ≠ 0) :
    s.writeWith lvl k v own = (s.refuse lvl k c).answer lvl k c 0 := by
  simp [State.writeWith, State.guarded, h, hr, hc]

theorem answered_answer (s : State) (lvl : Level) (k c : Nat) : Answered (s.answer lvl k c 0) lvl k c := by
  simp [Answered]

/-- An object that accepts a write has a row in the catalogue. -/
theorem accepts_row {s : State} {lvl : Level} {k v : Nat} (h : s.accepts lvl k v = true) : ∃ r, objRow k = some r := by
  cases hr : objRow k with
  | some r => exact ⟨r, rfl⟩
  | none => simp [State.accepts, State.checkWrite, hr] at h

/-- The value that an accepted write stores (Table 11.1, R15). -/
def ObjRow.stored (r : ObjRow) (v : Nat) : Reg := BitVec.ofNat 64 (r.rng.keep (r.ty.clip v))

/-- A stored write is read from now on and takes effect at the next boundary (R431). -/
theorem store_eq (s : State) {k v : Nat} {r : ObjRow} (h : objRow k = some r) (hl : lateObject k = false)
    (hf : lockFree k = false) : s.store k v = (s.setObj k (r.stored v)).withDict
      { (s.setObj k (r.stored v)).dict with pending := s.dict.pending ++ [(k, r.stored v)] } := by
  simp [State.store, h, hl, hf, ObjRow.stored]

/-- A stored write of an object that no lock stages is in force at once (R448). -/
theorem store_eq_free (s : State) {k v : Nat} {r : ObjRow} (h : objRow k = some r) (hl : lateObject k = false)
    (hf : lockFree k = true) : s.store k v = (s.setObj k (r.stored v)).setEff k (r.stored v) := by
  simp [State.store, h, hl, hf, ObjRow.stored]

@[simp] theorem store_obj (s : State) {k v j : Nat} {r : ObjRow} (h : objRow k = some r) :
    (s.store k v).obj j = if j = k then r.stored v else s.obj j := by
  unfold State.store
  simp only [h, ObjRow.stored]
  split
  · exact State.obj_setObj s k j _
  · split <;> exact State.obj_setObj s k j _

/-- A row whose meaning is the state `u`, which is `t`. -/
theorem does_of {i : Instr} {s u t : State} {P : State → Prop} (hx : exec i s = .next u) (hu : u = t) (hp : P t) : Does i s P :=
  ⟨_, hx, hu.symm ▸ hp⟩

/-- A row that writes through `writeWith` completes as its own rule says. -/
theorem does_write {i : Instr} {s s' : State} {lvl : Level} {k v : Nat} {own : State → Nat × State} {P : State → Prop}
    (hx : exec i s = .next (s.writeWith lvl k v own)) (ha : s.accepts lvl k v = true) (ho : own s = (0, s'))
    (hp : P ((s'.touchLock lvl k).answer lvl k 0 0)) : Does i s P :=
  ⟨_, hx, (writeWith_accepted ha ho).symm ▸ hp⟩

/-- A row that writes through `writeWith` and whose own rule refuses it. -/
theorem does_refused {i : Instr} {s s' : State} {lvl : Level} {k v c : Nat} {own : State → Nat × State} {P : State → Prop}
    (hx : exec i s = .next (s.writeWith lvl k v own)) (ha : s.accepts lvl k v = true) (ho : own s = (c, s')) (hc : c ≠ 0)
    (hp : P ((s'.refuse lvl k c).answer lvl k c 0)) : Does i s P :=
  ⟨_, hx, (writeWith_refused ha ho hc).symm ▸ hp⟩

end Sys2Proof.Machine
end

