-- ==== Sys2Proof/Laws/Gait.lean ====
section
/-!
SUPPORT. The gait banks: GAIT_BANK_STATE after the writes of a load and of a swap, and what the end of a check and of a swap
leaves.
-/
namespace Sys2Proof.Machine

theorem bankState_setBankState (s : State) {b c : Nat} (v : Nat) :
    (s.setBankState b v).bankState c = if c = b then v % 2 ^ 64 else s.bankState c := by
  simp only [State.bankState, State.setBankState, State.obj_setNat]
  by_cases h : c = b
  · simp [h]
  · rw [if_neg (by simp only [Obj.gaitBankState]; omega), if_neg h]

theorem bankState_setNat (s : State) {k b : Nat} (v : Nat) (h : k < Obj.gaitBankState ∨ Obj.gaitBankState + 16 ≤ k) (hb : b < 16) :
    (s.setNat k v).bankState b = s.bankState b := by
  simp only [State.bankState, State.obj_setNat]
  rw [if_neg]
  simp only [Obj.gaitBankState] at h ⊢
  omega

theorem bankState_emptyBank (s : State) {b c : Nat} (h : c < 16) :
    (s.emptyBank b).bankState c = if c = b then 0 else s.bankState c := by
  unfold State.emptyBank
  dsimp only
  rw [bankState_setNat _ _ (Or.inr (by simp only [Obj.gaitBankState, Obj.gaitBankSpeed]; omega)) h,
    bankState_setNat _ _ (Or.inr (by simp only [Obj.gaitBankState, Obj.gaitBankId]; omega)) h, bankState_setBankState]
  rfl

end Sys2Proof.Machine
end

