-- ==== Sys2Proof/Laws/Groom.lean ====
section
/-!
SUPPORT. Groom's shared operations: registers (R514), what retiring an instruction leaves, and the dispatch of an
instruction that executes.
-/
namespace Sys2Proof.Machine

/-- A register read after a register write; n0 discards writes and reads as zero. -/
theorem greg_setGreg (s : State) (m n : GReg) (v : GWord) :
    (s.setGreg m v).greg n = if n = m ∧ m ≠ 0 then v else s.greg n := by
  unfold State.setGreg State.greg
  by_cases hm : m = 0
  · simp [hm]
  · by_cases hn : n = 0
    · subst hn
      simp [Ne.symm hm]
    · simp only [hm, hn, if_false]
      show (s.groom.regs.set m.val v m.isLt)[n.val] = if n = m ∧ m ≠ 0 then v else s.groom.regs[n.val]
      rw [Vector.getElem_set]
      simp [hm, Fin.ext_iff, eq_comm]

@[simp] theorem greg_zero (s : State) : s.greg 0 = 0 := rfl

@[simp] theorem setGreg_zero (s : State) (v : GWord) : s.setGreg 0 v = s := rfl

@[simp] theorem greg_groomArrive (s : State) (n : GReg) : s.groomArrive.greg n = s.greg n := by
  unfold State.groomArrive; split <;> (try split) <;> rfl

@[simp] theorem greg_groomRetire (s : State) (c : Nat) (n : GReg) : (s.groomRetire c).greg n = s.greg n := by
  unfold State.groomRetire; rw [greg_groomArrive]; rfl

@[simp] theorem dsram_groomRetire (s : State) (c : Nat) : (s.groomRetire c).groom.dsram = s.groom.dsram := by
  unfold State.groomRetire State.groomArrive; split <;> (try split) <;> rfl

@[simp] theorem dsram_setGreg (s : State) (m : GReg) (v : GWord) : (s.setGreg m v).groom.dsram = s.groom.dsram := by
  unfold State.setGreg; split <;> rfl

/-- A register write changes the registers alone. -/
theorem setGreg_frame (s : State) (m : GReg) (v : GWord) :
    s.setGreg m v = { s with groom := { s.groom with regs := (s.setGreg m v).groom.regs, dsram := (s.setGreg m v).groom.dsram } } := by
  unfold State.setGreg; split <;> rfl

/-- Retiring after a change of registers and D-SRAM alone. -/
theorem groomRetire_passed (s s' : State) (c : Nat)
    (h : s' = { s with groom := { s.groom with regs := s'.groom.regs, dsram := s'.groom.dsram } }) :
    GroomPassed s (s'.groomRetire c) c := by
  unfold GroomPassed State.groomRetire State.groomArrive
  have e : s'.groomNextPc = s.groomNextPc := by rw [h]; rfl
  generalize s'.groom.regs = r at *
  generalize s'.groom.dsram = d at *
  subst h
  split <;> (try split) <;> rfl

/-- An instruction that executes runs its body. -/
theorem groomDo_ready {s : State} (h : s.groomReady = true) (body : State → State) : s.groomDo false body = body s := by
  unfold State.groomReady at h
  simp only [Bool.and_eq_true, beq_iff_eq, decide_eq_true_eq] at h
  obtain ⟨⟨⟨h1, h2⟩, h3⟩, h4⟩ := h
  unfold State.groomDo
  rw [if_neg (by simp [h1]), if_neg (by omega)]
  cases hs : s.groom.slot with
  | none => rfl
  | taken a b => rfl
  | fall a => rfl
  | annulled a => simp [hs] at h4

/-- A control transfer outside a delay slot runs its body. -/
theorem groomDo_free {s : State} (h : s.groomFree = true) (body : State → State) : s.groomDo true body = body s := by
  unfold State.groomFree State.groomReady at h
  simp only [Bool.and_eq_true, beq_iff_eq, decide_eq_true_eq] at h
  obtain ⟨⟨⟨⟨h1, h2⟩, h3⟩, -⟩, h5⟩ := h
  unfold State.groomDo
  rw [if_neg (by simp [h1]), if_neg (by omega), h5]

/-- What a register instruction does. -/
theorem groomAlu_spec {s : State} (h : s.groomReady = true) (nd : GReg) (c : Nat) (f : State → GWord) :
    GroomWrites s (s.groomAlu nd c f) nd (f s) ∧ (s.groomAlu nd c f).groom.dsram = s.groom.dsram
      ∧ GroomPassed s (s.groomAlu nd c f) c := by
  simp only [State.groomAlu, groomDo_ready h]
  refine ⟨fun n => ?_, ?_, ?_⟩
  · rw [greg_groomRetire, greg_setGreg]
  · rw [dsram_groomRetire, dsram_setGreg]
  · exact groomRetire_passed _ _ _ (setGreg_frame ..)

end Sys2Proof.Machine
end

