-- ==== Sys2Proof/Laws/Memory.lean ====
section
/-!
SUPPORT. Groom's byte memory: every operation keeps the canonical form (Memory.wf), and a read after a write gives the byte
written or the byte that was there.
-/
namespace Sys2Proof.Machine

theorem memAbove_mono {lo hi : Nat} (h : lo ≤ hi) : ∀ {m : List Host.Cell}, memAbove hi m = true → memAbove lo m = true
  | [], _ => rfl
  | (a, v) :: m, h' => by
    simp only [memAbove, Bool.and_eq_true, decide_eq_true_eq] at h' ⊢
    exact ⟨⟨by omega, h'.1.2⟩, h'.2⟩

theorem memAbove_memDrop (a : Nat) : ∀ {m : List Host.Cell} {lo : Nat}, memAbove lo m = true → memAbove lo (memDrop a m) = true
  | [], _, h => h
  | (b, v) :: m, lo, h => by
    simp only [memAbove, Bool.and_eq_true, decide_eq_true_eq] at h
    unfold memDrop
    split
    · exact memAbove_mono (by omega) h.2
    · simp only [memAbove, Bool.and_eq_true, decide_eq_true_eq]
      exact ⟨h.1, memAbove_memDrop a h.2⟩

theorem memAbove_memInsert (a : Nat) {v : BitVec 8} (hv : v ≠ 0) :
    ∀ {m : List Host.Cell} {lo : Nat}, lo ≤ a → memAbove lo m = true → memAbove lo (memInsert a v m) = true
  | [], lo, ha, _ => by simpa [memInsert, memAbove, ha] using hv
  | (b, w) :: m, lo, ha, h => by
    simp only [memAbove, Bool.and_eq_true, decide_eq_true_eq] at h
    unfold memInsert
    split
    · simp only [memAbove, Bool.and_eq_true, decide_eq_true_eq]
      exact ⟨⟨ha, hv⟩, ⟨by omega, h.1.2⟩, h.2⟩
    · split
      · subst_vars
        simp only [memAbove, Bool.and_eq_true, decide_eq_true_eq]
        exact ⟨⟨ha, hv⟩, h.2⟩
      · simp only [memAbove, Bool.and_eq_true, decide_eq_true_eq]
        exact ⟨h.1, memAbove_memInsert a hv (by omega) h.2⟩

/-- A byte write keeps the canonical form. -/
theorem wf_memSet (a : Nat) (v : BitVec 8) {m : List Host.Cell} (h : Memory.wf m = true) : Memory.wf (memSet a v m) = true := by
  unfold memSet
  split
  · exact memAbove_memDrop a h
  · exact memAbove_memInsert a (by assumption) (Nat.zero_le _) h

/-- A write of `n` bytes keeps the canonical form. -/
theorem wf_memWrite : ∀ (n a v : Nat) {m : List Host.Cell}, Memory.wf m = true → Memory.wf (memWrite a v n m) = true
  | 0, _, _, _, h => h
  | n + 1, a, v, _, h => wf_memWrite n (a + 1) (v / 256) (wf_memSet a _ h)

theorem memByte_below : ∀ {m : List Host.Cell} {lo a : Nat}, memAbove lo m = true → a < lo → memByte a m = 0
  | [], _, _, _, _ => rfl
  | (b, v) :: m, lo, a, h, ha => by
    simp only [memAbove, Bool.and_eq_true, decide_eq_true_eq] at h
    unfold memByte
    rw [if_neg (by omega)]
    exact memByte_below h.2 (by omega)

theorem memByte_memDrop (a b : Nat) : ∀ {m : List Host.Cell} {lo : Nat}, memAbove lo m = true →
    memByte b (memDrop a m) = if b = a then 0 else memByte b m
  | [], _, _ => by simp [memDrop, memByte]
  | (c, v) :: m, lo, h => by
    simp only [memAbove, Bool.and_eq_true, decide_eq_true_eq] at h
    unfold memDrop
    by_cases hc : c = a
    · subst hc
      rw [if_pos rfl]
      by_cases hb : b = c
      · subst hb
        rw [if_pos rfl]
        exact memByte_below h.2 (by omega)
      · rw [if_neg hb, memByte, if_neg (by omega)]
    · rw [if_neg hc, memByte, memByte_memDrop a b h.2]
      by_cases hb : b = a
      · subst hb
        simp [hc]
      · simp only [hb, if_false]
        rw [memByte]

theorem memByte_memInsert (a b : Nat) (v : BitVec 8) : ∀ (m : List Host.Cell),
    memByte b (memInsert a v m) = if b = a then v else memByte b m
  | [] => by
    simp only [memInsert, memByte]
    by_cases h : a = b
    · simp [h]
    · rw [if_neg h, if_neg (Ne.symm h)]
  | (c, w) :: m => by
    unfold memInsert
    split
    · rw [memByte]
      by_cases h : a = b
      · simp [h]
      · rw [if_neg h, if_neg (Ne.symm h)]
    · split
      · subst_vars
        rw [memByte]
        by_cases h : c = b
        · simp [h]
        · rw [if_neg h, if_neg (Ne.symm h), memByte, if_neg h]
      · rw [memByte, memByte_memInsert a b v m, memByte]
        by_cases h : b = a
        · subst h
          simp only [if_true]
          rw [if_neg (by omega)]
        · simp [h]

/-- A byte read after a byte write. -/
theorem memByte_memSet (a b : Nat) (v : BitVec 8) {m : List Host.Cell} (h : Memory.wf m = true) :
    memByte b (memSet a v m) = if b = a then v else memByte b m := by
  unfold memSet
  split
  · subst_vars
    exact memByte_memDrop a b h
  · exact memByte_memInsert a b v m

/-- A byte read after a write of `n` bytes, little-endian. -/
theorem memByte_memWrite (b : Nat) : ∀ (n a v : Nat) {m : List Host.Cell}, Memory.wf m = true →
    memByte b (memWrite a v n m) = if a ≤ b ∧ b < a + n then BitVec.ofNat 8 (v / 256 ^ (b - a)) else memByte b m
  | 0, a, v, m, _ => by
    rw [memWrite, if_neg (by omega)]
  | n + 1, a, v, m, h => by
    rw [memWrite, memByte_memWrite b n (a + 1) (v / 256) (wf_memSet a _ h), memByte_memSet a b _ h]
    by_cases h1 : b = a
    · subst h1
      rw [if_neg (by omega), if_pos rfl, if_pos (by omega)]
      simp
    · by_cases h2 : a + 1 ≤ b ∧ b < a + 1 + n
      · rw [if_pos h2, if_pos (by omega), Nat.div_div_eq_div_mul, ← Nat.pow_succ']
        congr 3
        omega
      · rw [if_neg h2, if_neg h1, if_neg (by omega)]

end Sys2Proof.Machine
end

