-- ==== Sys2Proof/Laws/Shared.lean ====
section
/-!
SUPPORT. What clearing reservation monitors and applying held partition values leave; and that a fold of steps that each keep a
part of the state keeps it.
-/
namespace Sys2Proof.Machine

/-- A fold of steps that each keep `g` keeps it. -/
theorem foldl_keeps {α β γ : Type} (g : β → γ) (f : β → α → β) (h : ∀ s x, g (f s x) = g s) :
    ∀ (l : List α) (s : β), g (l.foldl f s) = g s
  | [], _ => rfl
  | x :: l, s => (foldl_keeps g f h l (f s x)).trans (h s x)

/-- Only the agent ports and the RSV_CLEARS counters changed. -/
structure MonitorFrame (s t : State) : Prop extends WroteOnly (s.withPorts t.ports) t where
  sent : t.sent = s.sent
  locks : t.dict.locks = s.dict.locks
  links : t.ports.links = s.ports.links
  queues : t.ports.queues = s.ports.queues
  obj : ∀ k, k < Obj.rsvClears ∨ Obj.rsvClears + 13 < k → t.obj k = s.obj k

theorem MonitorFrame.refl (s : State) : MonitorFrame s s := by
  constructor <;> (try constructor) <;> (try constructor) <;> simp

theorem MonitorFrame.trans {s t u : State} (h : MonitorFrame s t) (g : MonitorFrame t u) : MonitorFrame s u where
  free := g.free.trans h.free
  time := g.time.trans h.time
  gait := g.gait.trans h.gait
  tiers := g.tiers.trans h.tiers
  home := g.home.trans h.home
  ports := rfl
  mem := g.mem.trans h.mem
  rel := g.rel.trans h.rel
  modes := g.modes.trans h.modes
  pmu := g.pmu.trans h.pmu
  groom := g.groom.trans h.groom
  pkg := g.pkg.trans h.pkg
  fuse := g.fuse.trans h.fuse
  pending := g.pending.trans h.pending
  eff := g.eff.trans h.eff
  writes := g.writes.trans h.writes
  holding := g.holding.trans h.holding
  held := g.held.trans h.held
  due := g.due.trans h.due
  snapTake := g.snapTake.trans h.snapTake
  snapClear := g.snapClear.trans h.snapClear
  frozen := g.frozen.trans h.frozen
  written := g.written.trans h.written
  irq := g.irq.trans h.irq
  bridle := g.bridle.trans h.bridle
  sent := g.sent.trans h.sent
  locks := g.locks.trans h.locks
  links := g.links.trans h.links
  queues := g.queues.trans h.queues
  obj k hk := (g.obj k hk).trans (h.obj k hk)

theorem clearMonitor_frame (s : State) (q : Nat) {cause : Nat} (h : 0 < cause) (h14 : cause ≤ 14) :
    MonitorFrame s (s.clearMonitor q cause) := by
  unfold State.clearMonitor
  split
  · exact .refl s
  · have hobj : ∀ u : State, ∀ k, k < Obj.rsvClears ∨ Obj.rsvClears + 13 < k →
        (u.bump (Obj.rsvClears + cause - 1)).obj k = u.obj k := by
      intro u k hk
      rw [State.obj_bump, if_neg]
      simp only [Obj.rsvClears] at hk ⊢
      omega
    constructor <;> (try constructor) <;> (try constructor) <;> first | exact hobj _ | simp

theorem clearMonitors_frame (s : State) {cause : Nat} (p : Nat → Monitor → Bool) (h : 0 < cause) (h14 : cause ≤ 14) :
    MonitorFrame s (s.clearMonitors cause p) := by
  unfold State.clearMonitors
  have step : ∀ (l : Assoc Monitor) (u : State), MonitorFrame u (l.foldl (fun s x => s.clearMonitor x.1 cause) u) := by
    intro l
    induction l with
    | nil => exact fun u => .refl u
    | cons x l ih => exact fun u => (clearMonitor_frame u x.1 h h14).trans (ih _)
  exact step _ _

end Sys2Proof.Machine
end

