-- ==== Sys2Proof/Laws/Pmu.lean ====
section
/-!
SUPPORT. Accounting leaves everything but the performance counters' own state, a booking everything but the ledger, and the use of a slot
everything but the two.
-/
namespace Sys2Proof.Machine

theorem State.acc_eq (s : State) (i n : Nat) : s.acc i n = s.withPmu (s.acc i n).pmu := by
  unfold State.acc
  split <;> rfl

/-- A fold of steps that each change the performance counters alone changes them alone. -/
theorem foldl_pmu {α : Type} (f : State → α → State) (h : ∀ s x, f s x = s.withPmu (f s x).pmu) :
    ∀ (l : List α) (s : State), l.foldl f s = s.withPmu (l.foldl f s).pmu
  | [], _ => rfl
  | x :: l, s => by
    rw [List.foldl_cons, foldl_pmu f h l (f s x), h s x]
    rfl

theorem State.countU_eq (s : State) (code unit n : Nat) : s.countU code unit n = s.withPmu (s.countU code unit n).pmu :=
  foldl_pmu _ (fun u x => by
    split
    · exact State.acc_eq u x n
    · rfl) _ s

theorem State.countR_eq (s : State) (code slice half : Nat) (q : Req) (n : Nat) :
    s.countR code slice half q n = s.withPmu (s.countR code slice half q n).pmu :=
  foldl_pmu _ (fun u x => by
    split
    · exact State.acc_eq u x n
    · rfl) _ s

theorem State.fixed_eq (s : State) (i n : Nat) : s.fixed i n = s.withPmu (s.fixed i n).pmu := by
  unfold State.fixed
  split
  · exact State.acc_eq s _ n
  · rfl

theorem State.pmu_trans {s t u : State} (h : t = s.withPmu t.pmu) (g : u = t.withPmu u.pmu) : u = s.withPmu u.pmu := by
  rw [g, h]
  rfl

theorem State.countUAt_eq (s : State) (t code unit n : Nat) : s.countUAt t code unit n = s.withPmu (s.countUAt t code unit n).pmu := by
  unfold State.countUAt
  split
  · exact State.countU_eq s code unit n
  · rfl

theorem State.fixedAt_eq (s : State) (t i n : Nat) : s.fixedAt t i n = s.withPmu (s.fixedAt t i n).pmu := by
  unfold State.fixedAt
  split
  · exact State.fixed_eq s i n
  · rfl

theorem State.countSlot_eq (s : State) (kind row t k cls grp : Nat) (pr : Bool) :
    s.countSlot kind row t k cls grp pr = s.withPmu (s.countSlot kind row t k cls grp pr).pmu := by
  unfold State.countSlot
  split
  · rfl
  · dsimp only
    repeat' split
    all_goals first
      | rfl
      | exact State.countUAt_eq _ _ _ _ _
      | exact State.pmu_trans (State.countUAt_eq _ _ _ _ _) (State.fixedAt_eq _ _ _ _)

theorem State.useAt_eq (s : State) (kind row t k cls grp : Nat) (pr : Bool) :
    s.useAt kind row t k cls grp pr = (s.withGait (s.useAt kind row t k cls grp pr).gait).withPmu (s.useAt kind row t k cls grp pr).pmu := by
  unfold State.useAt
  split
  · rw [State.countSlot_eq]
    rfl
  · rw [State.countSlot_eq]
    rfl

theorem State.book_eq (s : State) (b : Booking) : s.book b = s.withGait (s.book b).gait := rfl

/-! ### countSlot -/

@[simp] theorem State.countSlot_free (s : State) (kind row t k cls grp : Nat) (pr : Bool) : (s.countSlot kind row t k cls grp pr).free = s.free := by rw [State.countSlot_eq]; rfl
@[simp] theorem State.countSlot_time (s : State) (kind row t k cls grp : Nat) (pr : Bool) : (s.countSlot kind row t k cls grp pr).time = s.time := by rw [State.countSlot_eq]; rfl
@[simp] theorem State.countSlot_dict (s : State) (kind row t k cls grp : Nat) (pr : Bool) : (s.countSlot kind row t k cls grp pr).dict = s.dict := by rw [State.countSlot_eq]; rfl
@[simp] theorem State.countSlot_gait (s : State) (kind row t k cls grp : Nat) (pr : Bool) : (s.countSlot kind row t k cls grp pr).gait = s.gait := by rw [State.countSlot_eq]; rfl
@[simp] theorem State.countSlot_tiers (s : State) (kind row t k cls grp : Nat) (pr : Bool) : (s.countSlot kind row t k cls grp pr).tiers = s.tiers := by rw [State.countSlot_eq]; rfl
@[simp] theorem State.countSlot_home (s : State) (kind row t k cls grp : Nat) (pr : Bool) : (s.countSlot kind row t k cls grp pr).home = s.home := by rw [State.countSlot_eq]; rfl
@[simp] theorem State.countSlot_ports (s : State) (kind row t k cls grp : Nat) (pr : Bool) : (s.countSlot kind row t k cls grp pr).ports = s.ports := by rw [State.countSlot_eq]; rfl
@[simp] theorem State.countSlot_mem (s : State) (kind row t k cls grp : Nat) (pr : Bool) : (s.countSlot kind row t k cls grp pr).mem = s.mem := by rw [State.countSlot_eq]; rfl
@[simp] theorem State.countSlot_rel (s : State) (kind row t k cls grp : Nat) (pr : Bool) : (s.countSlot kind row t k cls grp pr).rel = s.rel := by rw [State.countSlot_eq]; rfl
@[simp] theorem State.countSlot_modes (s : State) (kind row t k cls grp : Nat) (pr : Bool) : (s.countSlot kind row t k cls grp pr).modes = s.modes := by rw [State.countSlot_eq]; rfl
@[simp] theorem State.countSlot_bridle (s : State) (kind row t k cls grp : Nat) (pr : Bool) : (s.countSlot kind row t k cls grp pr).bridle = s.bridle := by rw [State.countSlot_eq]; rfl
@[simp] theorem State.countSlot_irq (s : State) (kind row t k cls grp : Nat) (pr : Bool) : (s.countSlot kind row t k cls grp pr).irq = s.irq := by rw [State.countSlot_eq]; rfl
@[simp] theorem State.countSlot_groom (s : State) (kind row t k cls grp : Nat) (pr : Bool) : (s.countSlot kind row t k cls grp pr).groom = s.groom := by rw [State.countSlot_eq]; rfl
@[simp] theorem State.countSlot_pkg (s : State) (kind row t k cls grp : Nat) (pr : Bool) : (s.countSlot kind row t k cls grp pr).pkg = s.pkg := by rw [State.countSlot_eq]; rfl
@[simp] theorem State.countSlot_fuse (s : State) (kind row t k cls grp : Nat) (pr : Bool) : (s.countSlot kind row t k cls grp pr).fuse = s.fuse := by rw [State.countSlot_eq]; rfl
@[simp] theorem State.countSlot_sent (s : State) (kind row t k cls grp : Nat) (pr : Bool) : (s.countSlot kind row t k cls grp pr).sent = s.sent := by rw [State.countSlot_eq]; rfl
@[simp] theorem State.countSlot_pending (s : State) (kind row t k cls grp : Nat) (pr : Bool) : (s.countSlot kind row t k cls grp pr).pending = s.pending := by rw [State.countSlot_eq]; rfl
@[simp] theorem State.countSlot_obj (s : State) (kind row t k cls grp : Nat) (pr : Bool) (j : Nat) : (s.countSlot kind row t k cls grp pr).obj j = s.obj j := by rw [State.countSlot_eq]; rfl
@[simp] theorem State.countSlot_effObj (s : State) (kind row t k cls grp : Nat) (pr : Bool) (j : Nat) : (s.countSlot kind row t k cls grp pr).effObj j = s.effObj j := by rw [State.countSlot_eq]; rfl
@[simp] theorem State.countSlot_eff (s : State) (kind row t k cls grp : Nat) (pr : Bool) (j : Nat) : (s.countSlot kind row t k cls grp pr).eff j = s.eff j := by rw [State.countSlot_eq]; rfl
@[simp] theorem State.countSlot_lock (s : State) (kind row t k cls grp : Nat) (pr : Bool) (j : Nat) : (s.countSlot kind row t k cls grp pr).lock j = s.lock j := by rw [State.countSlot_eq]; rfl
@[simp] theorem State.countSlot_link (s : State) (kind row t k cls grp : Nat) (pr : Bool) (j : Nat) : (s.countSlot kind row t k cls grp pr).link j = s.link j := by rw [State.countSlot_eq]; rfl
@[simp] theorem State.countSlot_ring (s : State) (kind row t k cls grp : Nat) (pr : Bool) (j : Nat) : (s.countSlot kind row t k cls grp pr).ring j = s.ring j := by rw [State.countSlot_eq]; rfl
@[simp] theorem State.countSlot_source (s : State) (kind row t k cls grp : Nat) (pr : Bool) (j : Nat) : (s.countSlot kind row t k cls grp pr).source j = s.source j := by rw [State.countSlot_eq]; rfl
@[simp] theorem State.countSlot_now (s : State) (kind row t k cls grp : Nat) (pr : Bool) : (s.countSlot kind row t k cls grp pr).now = s.now := by rw [State.countSlot_eq]; rfl

/-! ### acc -/

@[simp] theorem State.acc_free (s : State) (i n : Nat) : (s.acc i n).free = s.free := by rw [State.acc_eq]; rfl
@[simp] theorem State.acc_time (s : State) (i n : Nat) : (s.acc i n).time = s.time := by rw [State.acc_eq]; rfl
@[simp] theorem State.acc_dict (s : State) (i n : Nat) : (s.acc i n).dict = s.dict := by rw [State.acc_eq]; rfl
@[simp] theorem State.acc_gait (s : State) (i n : Nat) : (s.acc i n).gait = s.gait := by rw [State.acc_eq]; rfl
@[simp] theorem State.acc_tiers (s : State) (i n : Nat) : (s.acc i n).tiers = s.tiers := by rw [State.acc_eq]; rfl
@[simp] theorem State.acc_home (s : State) (i n : Nat) : (s.acc i n).home = s.home := by rw [State.acc_eq]; rfl
@[simp] theorem State.acc_ports (s : State) (i n : Nat) : (s.acc i n).ports = s.ports := by rw [State.acc_eq]; rfl
@[simp] theorem State.acc_mem (s : State) (i n : Nat) : (s.acc i n).mem = s.mem := by rw [State.acc_eq]; rfl
@[simp] theorem State.acc_rel (s : State) (i n : Nat) : (s.acc i n).rel = s.rel := by rw [State.acc_eq]; rfl
@[simp] theorem State.acc_modes (s : State) (i n : Nat) : (s.acc i n).modes = s.modes := by rw [State.acc_eq]; rfl
@[simp] theorem State.acc_bridle (s : State) (i n : Nat) : (s.acc i n).bridle = s.bridle := by rw [State.acc_eq]; rfl
@[simp] theorem State.acc_irq (s : State) (i n : Nat) : (s.acc i n).irq = s.irq := by rw [State.acc_eq]; rfl
@[simp] theorem State.acc_groom (s : State) (i n : Nat) : (s.acc i n).groom = s.groom := by rw [State.acc_eq]; rfl
@[simp] theorem State.acc_pkg (s : State) (i n : Nat) : (s.acc i n).pkg = s.pkg := by rw [State.acc_eq]; rfl
@[simp] theorem State.acc_fuse (s : State) (i n : Nat) : (s.acc i n).fuse = s.fuse := by rw [State.acc_eq]; rfl
@[simp] theorem State.acc_sent (s : State) (i n : Nat) : (s.acc i n).sent = s.sent := by rw [State.acc_eq]; rfl
@[simp] theorem State.acc_pending (s : State) (i n : Nat) : (s.acc i n).pending = s.pending := by rw [State.acc_eq]; rfl
@[simp] theorem State.acc_obj (s : State) (i n : Nat) (j : Nat) : (s.acc i n).obj j = s.obj j := by rw [State.acc_eq]; rfl
@[simp] theorem State.acc_effObj (s : State) (i n : Nat) (j : Nat) : (s.acc i n).effObj j = s.effObj j := by rw [State.acc_eq]; rfl
@[simp] theorem State.acc_eff (s : State) (i n : Nat) (j : Nat) : (s.acc i n).eff j = s.eff j := by rw [State.acc_eq]; rfl
@[simp] theorem State.acc_lock (s : State) (i n : Nat) (j : Nat) : (s.acc i n).lock j = s.lock j := by rw [State.acc_eq]; rfl
@[simp] theorem State.acc_link (s : State) (i n : Nat) (j : Nat) : (s.acc i n).link j = s.link j := by rw [State.acc_eq]; rfl
@[simp] theorem State.acc_ring (s : State) (i n : Nat) (j : Nat) : (s.acc i n).ring j = s.ring j := by rw [State.acc_eq]; rfl
@[simp] theorem State.acc_source (s : State) (i n : Nat) (j : Nat) : (s.acc i n).source j = s.source j := by rw [State.acc_eq]; rfl
@[simp] theorem State.acc_now (s : State) (i n : Nat) : (s.acc i n).now = s.now := by rw [State.acc_eq]; rfl

/-! ### countU -/

@[simp] theorem State.countU_free (s : State) (code unit n : Nat) : (s.countU code unit n).free = s.free := by rw [State.countU_eq]; rfl
@[simp] theorem State.countU_time (s : State) (code unit n : Nat) : (s.countU code unit n).time = s.time := by rw [State.countU_eq]; rfl
@[simp] theorem State.countU_dict (s : State) (code unit n : Nat) : (s.countU code unit n).dict = s.dict := by rw [State.countU_eq]; rfl
@[simp] theorem State.countU_gait (s : State) (code unit n : Nat) : (s.countU code unit n).gait = s.gait := by rw [State.countU_eq]; rfl
@[simp] theorem State.countU_tiers (s : State) (code unit n : Nat) : (s.countU code unit n).tiers = s.tiers := by rw [State.countU_eq]; rfl
@[simp] theorem State.countU_home (s : State) (code unit n : Nat) : (s.countU code unit n).home = s.home := by rw [State.countU_eq]; rfl
@[simp] theorem State.countU_ports (s : State) (code unit n : Nat) : (s.countU code unit n).ports = s.ports := by rw [State.countU_eq]; rfl
@[simp] theorem State.countU_mem (s : State) (code unit n : Nat) : (s.countU code unit n).mem = s.mem := by rw [State.countU_eq]; rfl
@[simp] theorem State.countU_rel (s : State) (code unit n : Nat) : (s.countU code unit n).rel = s.rel := by rw [State.countU_eq]; rfl
@[simp] theorem State.countU_modes (s : State) (code unit n : Nat) : (s.countU code unit n).modes = s.modes := by rw [State.countU_eq]; rfl
@[simp] theorem State.countU_bridle (s : State) (code unit n : Nat) : (s.countU code unit n).bridle = s.bridle := by rw [State.countU_eq]; rfl
@[simp] theorem State.countU_irq (s : State) (code unit n : Nat) : (s.countU code unit n).irq = s.irq := by rw [State.countU_eq]; rfl
@[simp] theorem State.countU_groom (s : State) (code unit n : Nat) : (s.countU code unit n).groom = s.groom := by rw [State.countU_eq]; rfl
@[simp] theorem State.countU_pkg (s : State) (code unit n : Nat) : (s.countU code unit n).pkg = s.pkg := by rw [State.countU_eq]; rfl
@[simp] theorem State.countU_fuse (s : State) (code unit n : Nat) : (s.countU code unit n).fuse = s.fuse := by rw [State.countU_eq]; rfl
@[simp] theorem State.countU_sent (s : State) (code unit n : Nat) : (s.countU code unit n).sent = s.sent := by rw [State.countU_eq]; rfl
@[simp] theorem State.countU_pending (s : State) (code unit n : Nat) : (s.countU code unit n).pending = s.pending := by rw [State.countU_eq]; rfl
@[simp] theorem State.countU_obj (s : State) (code unit n : Nat) (j : Nat) : (s.countU code unit n).obj j = s.obj j := by rw [State.countU_eq]; rfl
@[simp] theorem State.countU_effObj (s : State) (code unit n : Nat) (j : Nat) : (s.countU code unit n).effObj j = s.effObj j := by rw [State.countU_eq]; rfl
@[simp] theorem State.countU_eff (s : State) (code unit n : Nat) (j : Nat) : (s.countU code unit n).eff j = s.eff j := by rw [State.countU_eq]; rfl
@[simp] theorem State.countU_lock (s : State) (code unit n : Nat) (j : Nat) : (s.countU code unit n).lock j = s.lock j := by rw [State.countU_eq]; rfl
@[simp] theorem State.countU_link (s : State) (code unit n : Nat) (j : Nat) : (s.countU code unit n).link j = s.link j := by rw [State.countU_eq]; rfl
@[simp] theorem State.countU_ring (s : State) (code unit n : Nat) (j : Nat) : (s.countU code unit n).ring j = s.ring j := by rw [State.countU_eq]; rfl
@[simp] theorem State.countU_source (s : State) (code unit n : Nat) (j : Nat) : (s.countU code unit n).source j = s.source j := by rw [State.countU_eq]; rfl
@[simp] theorem State.countU_now (s : State) (code unit n : Nat) : (s.countU code unit n).now = s.now := by rw [State.countU_eq]; rfl

/-! ### countR -/

@[simp] theorem State.countR_free (s : State) (code slice half : Nat) (q : Req) (n : Nat) : (s.countR code slice half q n).free = s.free := by rw [State.countR_eq]; rfl
@[simp] theorem State.countR_time (s : State) (code slice half : Nat) (q : Req) (n : Nat) : (s.countR code slice half q n).time = s.time := by rw [State.countR_eq]; rfl
@[simp] theorem State.countR_dict (s : State) (code slice half : Nat) (q : Req) (n : Nat) : (s.countR code slice half q n).dict = s.dict := by rw [State.countR_eq]; rfl
@[simp] theorem State.countR_gait (s : State) (code slice half : Nat) (q : Req) (n : Nat) : (s.countR code slice half q n).gait = s.gait := by rw [State.countR_eq]; rfl
@[simp] theorem State.countR_tiers (s : State) (code slice half : Nat) (q : Req) (n : Nat) : (s.countR code slice half q n).tiers = s.tiers := by rw [State.countR_eq]; rfl
@[simp] theorem State.countR_home (s : State) (code slice half : Nat) (q : Req) (n : Nat) : (s.countR code slice half q n).home = s.home := by rw [State.countR_eq]; rfl
@[simp] theorem State.countR_ports (s : State) (code slice half : Nat) (q : Req) (n : Nat) : (s.countR code slice half q n).ports = s.ports := by rw [State.countR_eq]; rfl
@[simp] theorem State.countR_mem (s : State) (code slice half : Nat) (q : Req) (n : Nat) : (s.countR code slice half q n).mem = s.mem := by rw [State.countR_eq]; rfl
@[simp] theorem State.countR_rel (s : State) (code slice half : Nat) (q : Req) (n : Nat) : (s.countR code slice half q n).rel = s.rel := by rw [State.countR_eq]; rfl
@[simp] theorem State.countR_modes (s : State) (code slice half : Nat) (q : Req) (n : Nat) : (s.countR code slice half q n).modes = s.modes := by rw [State.countR_eq]; rfl
@[simp] theorem State.countR_bridle (s : State) (code slice half : Nat) (q : Req) (n : Nat) : (s.countR code slice half q n).bridle = s.bridle := by rw [State.countR_eq]; rfl
@[simp] theorem State.countR_irq (s : State) (code slice half : Nat) (q : Req) (n : Nat) : (s.countR code slice half q n).irq = s.irq := by rw [State.countR_eq]; rfl
@[simp] theorem State.countR_groom (s : State) (code slice half : Nat) (q : Req) (n : Nat) : (s.countR code slice half q n).groom = s.groom := by rw [State.countR_eq]; rfl
@[simp] theorem State.countR_pkg (s : State) (code slice half : Nat) (q : Req) (n : Nat) : (s.countR code slice half q n).pkg = s.pkg := by rw [State.countR_eq]; rfl
@[simp] theorem State.countR_fuse (s : State) (code slice half : Nat) (q : Req) (n : Nat) : (s.countR code slice half q n).fuse = s.fuse := by rw [State.countR_eq]; rfl
@[simp] theorem State.countR_sent (s : State) (code slice half : Nat) (q : Req) (n : Nat) : (s.countR code slice half q n).sent = s.sent := by rw [State.countR_eq]; rfl
@[simp] theorem State.countR_pending (s : State) (code slice half : Nat) (q : Req) (n : Nat) : (s.countR code slice half q n).pending = s.pending := by rw [State.countR_eq]; rfl
@[simp] theorem State.countR_obj (s : State) (code slice half : Nat) (q : Req) (n : Nat) (j : Nat) : (s.countR code slice half q n).obj j = s.obj j := by rw [State.countR_eq]; rfl
@[simp] theorem State.countR_effObj (s : State) (code slice half : Nat) (q : Req) (n : Nat) (j : Nat) : (s.countR code slice half q n).effObj j = s.effObj j := by rw [State.countR_eq]; rfl
@[simp] theorem State.countR_eff (s : State) (code slice half : Nat) (q : Req) (n : Nat) (j : Nat) : (s.countR code slice half q n).eff j = s.eff j := by rw [State.countR_eq]; rfl
@[simp] theorem State.countR_lock (s : State) (code slice half : Nat) (q : Req) (n : Nat) (j : Nat) : (s.countR code slice half q n).lock j = s.lock j := by rw [State.countR_eq]; rfl
@[simp] theorem State.countR_link (s : State) (code slice half : Nat) (q : Req) (n : Nat) (j : Nat) : (s.countR code slice half q n).link j = s.link j := by rw [State.countR_eq]; rfl
@[simp] theorem State.countR_ring (s : State) (code slice half : Nat) (q : Req) (n : Nat) (j : Nat) : (s.countR code slice half q n).ring j = s.ring j := by rw [State.countR_eq]; rfl
@[simp] theorem State.countR_source (s : State) (code slice half : Nat) (q : Req) (n : Nat) (j : Nat) : (s.countR code slice half q n).source j = s.source j := by rw [State.countR_eq]; rfl
@[simp] theorem State.countR_now (s : State) (code slice half : Nat) (q : Req) (n : Nat) : (s.countR code slice half q n).now = s.now := by rw [State.countR_eq]; rfl

/-! ### fixed -/

@[simp] theorem State.fixed_free (s : State) (i n : Nat) : (s.fixed i n).free = s.free := by rw [State.fixed_eq]; rfl
@[simp] theorem State.fixed_time (s : State) (i n : Nat) : (s.fixed i n).time = s.time := by rw [State.fixed_eq]; rfl
@[simp] theorem State.fixed_dict (s : State) (i n : Nat) : (s.fixed i n).dict = s.dict := by rw [State.fixed_eq]; rfl
@[simp] theorem State.fixed_gait (s : State) (i n : Nat) : (s.fixed i n).gait = s.gait := by rw [State.fixed_eq]; rfl
@[simp] theorem State.fixed_tiers (s : State) (i n : Nat) : (s.fixed i n).tiers = s.tiers := by rw [State.fixed_eq]; rfl
@[simp] theorem State.fixed_home (s : State) (i n : Nat) : (s.fixed i n).home = s.home := by rw [State.fixed_eq]; rfl
@[simp] theorem State.fixed_ports (s : State) (i n : Nat) : (s.fixed i n).ports = s.ports := by rw [State.fixed_eq]; rfl
@[simp] theorem State.fixed_mem (s : State) (i n : Nat) : (s.fixed i n).mem = s.mem := by rw [State.fixed_eq]; rfl
@[simp] theorem State.fixed_rel (s : State) (i n : Nat) : (s.fixed i n).rel = s.rel := by rw [State.fixed_eq]; rfl
@[simp] theorem State.fixed_modes (s : State) (i n : Nat) : (s.fixed i n).modes = s.modes := by rw [State.fixed_eq]; rfl
@[simp] theorem State.fixed_bridle (s : State) (i n : Nat) : (s.fixed i n).bridle = s.bridle := by rw [State.fixed_eq]; rfl
@[simp] theorem State.fixed_irq (s : State) (i n : Nat) : (s.fixed i n).irq = s.irq := by rw [State.fixed_eq]; rfl
@[simp] theorem State.fixed_groom (s : State) (i n : Nat) : (s.fixed i n).groom = s.groom := by rw [State.fixed_eq]; rfl
@[simp] theorem State.fixed_pkg (s : State) (i n : Nat) : (s.fixed i n).pkg = s.pkg := by rw [State.fixed_eq]; rfl
@[simp] theorem State.fixed_fuse (s : State) (i n : Nat) : (s.fixed i n).fuse = s.fuse := by rw [State.fixed_eq]; rfl
@[simp] theorem State.fixed_sent (s : State) (i n : Nat) : (s.fixed i n).sent = s.sent := by rw [State.fixed_eq]; rfl
@[simp] theorem State.fixed_pending (s : State) (i n : Nat) : (s.fixed i n).pending = s.pending := by rw [State.fixed_eq]; rfl
@[simp] theorem State.fixed_obj (s : State) (i n : Nat) (j : Nat) : (s.fixed i n).obj j = s.obj j := by rw [State.fixed_eq]; rfl
@[simp] theorem State.fixed_effObj (s : State) (i n : Nat) (j : Nat) : (s.fixed i n).effObj j = s.effObj j := by rw [State.fixed_eq]; rfl
@[simp] theorem State.fixed_eff (s : State) (i n : Nat) (j : Nat) : (s.fixed i n).eff j = s.eff j := by rw [State.fixed_eq]; rfl
@[simp] theorem State.fixed_lock (s : State) (i n : Nat) (j : Nat) : (s.fixed i n).lock j = s.lock j := by rw [State.fixed_eq]; rfl
@[simp] theorem State.fixed_link (s : State) (i n : Nat) (j : Nat) : (s.fixed i n).link j = s.link j := by rw [State.fixed_eq]; rfl
@[simp] theorem State.fixed_ring (s : State) (i n : Nat) (j : Nat) : (s.fixed i n).ring j = s.ring j := by rw [State.fixed_eq]; rfl
@[simp] theorem State.fixed_source (s : State) (i n : Nat) (j : Nat) : (s.fixed i n).source j = s.source j := by rw [State.fixed_eq]; rfl
@[simp] theorem State.fixed_now (s : State) (i n : Nat) : (s.fixed i n).now = s.now := by rw [State.fixed_eq]; rfl

/-! ### useAt -/

@[simp] theorem State.useAt_free (s : State) (kind row t k cls grp : Nat) (pr : Bool) : (s.useAt kind row t k cls grp pr).free = s.free := by rw [State.useAt_eq]; rfl
@[simp] theorem State.useAt_time (s : State) (kind row t k cls grp : Nat) (pr : Bool) : (s.useAt kind row t k cls grp pr).time = s.time := by rw [State.useAt_eq]; rfl
@[simp] theorem State.useAt_dict (s : State) (kind row t k cls grp : Nat) (pr : Bool) : (s.useAt kind row t k cls grp pr).dict = s.dict := by rw [State.useAt_eq]; rfl
@[simp] theorem State.useAt_tiers (s : State) (kind row t k cls grp : Nat) (pr : Bool) : (s.useAt kind row t k cls grp pr).tiers = s.tiers := by rw [State.useAt_eq]; rfl
@[simp] theorem State.useAt_home (s : State) (kind row t k cls grp : Nat) (pr : Bool) : (s.useAt kind row t k cls grp pr).home = s.home := by rw [State.useAt_eq]; rfl
@[simp] theorem State.useAt_ports (s : State) (kind row t k cls grp : Nat) (pr : Bool) : (s.useAt kind row t k cls grp pr).ports = s.ports := by rw [State.useAt_eq]; rfl
@[simp] theorem State.useAt_mem (s : State) (kind row t k cls grp : Nat) (pr : Bool) : (s.useAt kind row t k cls grp pr).mem = s.mem := by rw [State.useAt_eq]; rfl
@[simp] theorem State.useAt_rel (s : State) (kind row t k cls grp : Nat) (pr : Bool) : (s.useAt kind row t k cls grp pr).rel = s.rel := by rw [State.useAt_eq]; rfl
@[simp] theorem State.useAt_modes (s : State) (kind row t k cls grp : Nat) (pr : Bool) : (s.useAt kind row t k cls grp pr).modes = s.modes := by rw [State.useAt_eq]; rfl
@[simp] theorem State.useAt_bridle (s : State) (kind row t k cls grp : Nat) (pr : Bool) : (s.useAt kind row t k cls grp pr).bridle = s.bridle := by rw [State.useAt_eq]; rfl
@[simp] theorem State.useAt_irq (s : State) (kind row t k cls grp : Nat) (pr : Bool) : (s.useAt kind row t k cls grp pr).irq = s.irq := by rw [State.useAt_eq]; rfl
@[simp] theorem State.useAt_groom (s : State) (kind row t k cls grp : Nat) (pr : Bool) : (s.useAt kind row t k cls grp pr).groom = s.groom := by rw [State.useAt_eq]; rfl
@[simp] theorem State.useAt_pkg (s : State) (kind row t k cls grp : Nat) (pr : Bool) : (s.useAt kind row t k cls grp pr).pkg = s.pkg := by rw [State.useAt_eq]; rfl
@[simp] theorem State.useAt_fuse (s : State) (kind row t k cls grp : Nat) (pr : Bool) : (s.useAt kind row t k cls grp pr).fuse = s.fuse := by rw [State.useAt_eq]; rfl
@[simp] theorem State.useAt_sent (s : State) (kind row t k cls grp : Nat) (pr : Bool) : (s.useAt kind row t k cls grp pr).sent = s.sent := by rw [State.useAt_eq]; rfl
@[simp] theorem State.useAt_pending (s : State) (kind row t k cls grp : Nat) (pr : Bool) : (s.useAt kind row t k cls grp pr).pending = s.pending := by rw [State.useAt_eq]; rfl
@[simp] theorem State.useAt_obj (s : State) (kind row t k cls grp : Nat) (pr : Bool) (j : Nat) : (s.useAt kind row t k cls grp pr).obj j = s.obj j := by rw [State.useAt_eq]; rfl
@[simp] theorem State.useAt_effObj (s : State) (kind row t k cls grp : Nat) (pr : Bool) (j : Nat) : (s.useAt kind row t k cls grp pr).effObj j = s.effObj j := by rw [State.useAt_eq]; rfl
@[simp] theorem State.useAt_eff (s : State) (kind row t k cls grp : Nat) (pr : Bool) (j : Nat) : (s.useAt kind row t k cls grp pr).eff j = s.eff j := by rw [State.useAt_eq]; rfl
@[simp] theorem State.useAt_lock (s : State) (kind row t k cls grp : Nat) (pr : Bool) (j : Nat) : (s.useAt kind row t k cls grp pr).lock j = s.lock j := by rw [State.useAt_eq]; rfl
@[simp] theorem State.useAt_link (s : State) (kind row t k cls grp : Nat) (pr : Bool) (j : Nat) : (s.useAt kind row t k cls grp pr).link j = s.link j := by rw [State.useAt_eq]; rfl
@[simp] theorem State.useAt_ring (s : State) (kind row t k cls grp : Nat) (pr : Bool) (j : Nat) : (s.useAt kind row t k cls grp pr).ring j = s.ring j := by rw [State.useAt_eq]; rfl
@[simp] theorem State.useAt_source (s : State) (kind row t k cls grp : Nat) (pr : Bool) (j : Nat) : (s.useAt kind row t k cls grp pr).source j = s.source j := by rw [State.useAt_eq]; rfl
@[simp] theorem State.useAt_now (s : State) (kind row t k cls grp : Nat) (pr : Bool) : (s.useAt kind row t k cls grp pr).now = s.now := by rw [State.useAt_eq]; rfl

/-! ### book -/

@[simp] theorem State.book_free (s : State) (b : Booking) : (s.book b).free = s.free := by rw [State.book_eq]; rfl
@[simp] theorem State.book_time (s : State) (b : Booking) : (s.book b).time = s.time := by rw [State.book_eq]; rfl
@[simp] theorem State.book_dict (s : State) (b : Booking) : (s.book b).dict = s.dict := by rw [State.book_eq]; rfl
@[simp] theorem State.book_tiers (s : State) (b : Booking) : (s.book b).tiers = s.tiers := by rw [State.book_eq]; rfl
@[simp] theorem State.book_home (s : State) (b : Booking) : (s.book b).home = s.home := by rw [State.book_eq]; rfl
@[simp] theorem State.book_ports (s : State) (b : Booking) : (s.book b).ports = s.ports := by rw [State.book_eq]; rfl
@[simp] theorem State.book_mem (s : State) (b : Booking) : (s.book b).mem = s.mem := by rw [State.book_eq]; rfl
@[simp] theorem State.book_rel (s : State) (b : Booking) : (s.book b).rel = s.rel := by rw [State.book_eq]; rfl
@[simp] theorem State.book_modes (s : State) (b : Booking) : (s.book b).modes = s.modes := by rw [State.book_eq]; rfl
@[simp] theorem State.book_bridle (s : State) (b : Booking) : (s.book b).bridle = s.bridle := by rw [State.book_eq]; rfl
@[simp] theorem State.book_irq (s : State) (b : Booking) : (s.book b).irq = s.irq := by rw [State.book_eq]; rfl
@[simp] theorem State.book_pmu (s : State) (b : Booking) : (s.book b).pmu = s.pmu := by rw [State.book_eq]; rfl
@[simp] theorem State.book_groom (s : State) (b : Booking) : (s.book b).groom = s.groom := by rw [State.book_eq]; rfl
@[simp] theorem State.book_pkg (s : State) (b : Booking) : (s.book b).pkg = s.pkg := by rw [State.book_eq]; rfl
@[simp] theorem State.book_fuse (s : State) (b : Booking) : (s.book b).fuse = s.fuse := by rw [State.book_eq]; rfl
@[simp] theorem State.book_sent (s : State) (b : Booking) : (s.book b).sent = s.sent := by rw [State.book_eq]; rfl
@[simp] theorem State.book_pending (s : State) (b : Booking) : (s.book b).pending = s.pending := by rw [State.book_eq]; rfl
@[simp] theorem State.book_obj (s : State) (b : Booking) (j : Nat) : (s.book b).obj j = s.obj j := by rw [State.book_eq]; rfl
@[simp] theorem State.book_effObj (s : State) (b : Booking) (j : Nat) : (s.book b).effObj j = s.effObj j := by rw [State.book_eq]; rfl
@[simp] theorem State.book_eff (s : State) (b : Booking) (j : Nat) : (s.book b).eff j = s.eff j := by rw [State.book_eq]; rfl
@[simp] theorem State.book_lock (s : State) (b : Booking) (j : Nat) : (s.book b).lock j = s.lock j := by rw [State.book_eq]; rfl
@[simp] theorem State.book_link (s : State) (b : Booking) (j : Nat) : (s.book b).link j = s.link j := by rw [State.book_eq]; rfl
@[simp] theorem State.book_ring (s : State) (b : Booking) (j : Nat) : (s.book b).ring j = s.ring j := by rw [State.book_eq]; rfl
@[simp] theorem State.book_source (s : State) (b : Booking) (j : Nat) : (s.book b).source j = s.source j := by rw [State.book_eq]; rfl
@[simp] theorem State.book_now (s : State) (b : Booking) : (s.book b).now = s.now := by rw [State.book_eq]; rfl

end Sys2Proof.Machine
end

