-- ==== Sys2Proof/Machine/Pins.lean ====
section
/-!
DEFINITION. The device from outside: what its output balls show in each mode (R409, R422, R479, R554, R555), and where each ball
stands in the array (R542 to R546). Each is read off State; no command writes a ball.
-/
namespace Sys2Proof.Machine

/-! ### Outputs (Table 10.9) -/

/-- Level of an output ball; an open-drain output that is deasserted is in high impedance (Table 15.9). -/
inductive Level3 where
  | hiZ | low | high
  /-- Driven from its boundary-scan cell, whose place in the register the vendor's description file gives (R555). -/
  | scanned
  deriving DecidableEq, Repr

/-- What the balls of a memory interface do (Table 10.9). -/
inductive MemBalls where
  | hiZ | scanned | resetAsserted | training | selfRefresh | live
  deriving DecidableEq, Repr

/-- The level of a ball that boundary scan covers: HIGHZ, EXTEST and CLAMP act before the device's own level (R555). -/
def State.celled (s : State) (own : Level3) : Level3 :=
  if s.scanHighZ then .hiZ else if s.scanDrives.isSome then .scanned else own

/-- IRQ_OUT_N line `n` (R422, R479). -/
def State.irqBall (s : State) (n : Nat) : Level3 :=
  s.celled (if s.dark || s.modes.mode == .reset then .hiZ else if s.irqLine n then .low else .hiZ)

/-- STRIDE_SYNC_OUT in cycle `c` of a stride: the pulse driven in this stride (R37, R38, R409, R422). -/
def State.syncBall (s : State) (c : Nat) : Level3 :=
  s.celled (if s.dark then .hiZ
    else if s.modes.mode == .reset then .low
    else if c < s.time.syncOut then .high else .low)

/-- PWR_EN: low by the board's pull-down in Off, low in Keep until a wake, high otherwise (R409, R422). -/
def State.pwrEnBall (s : State) : Level3 :=
  match s.modes.mode with
  | .off => .low
  | .keep => if s.modes.pwrEn then .high else .low
  | _ => .high

/-- THERMTRIP_N: driven low by a trip, high impedance otherwise (R554, Table 15.9). -/
def State.thermtripBall (s : State) : Level3 := s.celled (if s.pkg.thermtrip then .low else .hiZ)

/-- The DDR5 and GDDR7 balls (R409, R422); HIGHZ acts on their cells (R555). -/
def State.memBalls (s : State) : MemBalls :=
  if s.scanHighZ then .hiZ else if s.scanDrives.isSome then .scanned else
  match s.modes.mode with
  | .off | .keep => .hiZ
  | .reset => .resetAsserted
  | .bringup => .training
  | .rest => .selfRefresh
  | _ => .live

/-- An agent port's receivers are terminated while the device is powered: an agent detects them then and no other time (R422). -/
def State.lanesTerminated (s : State) : Bool := !s.dark

/-- An agent port drives its lanes outside Reset (R409, R422). -/
def State.lanesDriven (s : State) : Bool := s.lanesTerminated && s.modes.mode != .reset

/-! ### Coordinates -/

/-- The letters of row names (R542). -/
def rowLetters : List String :=
  ["A", "B", "C", "D", "E", "F", "G", "H", "J", "K", "L", "M", "N", "P", "T", "U", "V", "W", "Y"]

/-- Name of a row (R542). -/
def rowName (r : Nat) : String :=
  if r < 19 then rowLetters.getD r "" else rowLetters.getD (r / 19 - 1) "" ++ rowLetters.getD (r % 19) ""

/-- Name of the ball at a row and a column (R542). -/
def ballName (x : Nat × Nat) : String := rowName x.1 ++ toString (x.2 + 1)

/-- Positions of the array that hold a ball (Table 15.1, R542). -/
def populated (r c : Nat) : Bool :=
  decide (r < 84) && decide (c < 84) && !(decide (36 ≤ r) && decide (r < 48) && decide (36 ≤ c) && decide (c < 48))

/-- Ball groups (Table 15.2). -/
inductive BallGroup where
  | agent (p : Fin 16) | husk (j : Fin 18) | ddr5 (c : Fin 12) | mgmt
  deriving DecidableEq, Repr

/-- Strip and first row of a group's site (Table 15.3, R544). -/
def siteOf : BallGroup → Nat × Nat
  | .agent p => if p.val = 7 then (3, 8) else if p.val = 15 then (3, 68) else (p.val % 8, if p.val < 8 then 0 else 76)
  | .husk j =>
    if j.val < 6 then (2, 8 + 7 * j.val)
    else if j.val < 12 then (4, 8 + 7 * (j.val - 6))
    else if j.val < 16 then ([0, 1, 5, 6].getD (j.val - 12) 0, 65)
    else (3, 54 + 7 * (j.val - 16))
  | .ddr5 c => ([0, 1, 5, 6].getD (c.val / 3) 0, 8 + 19 * (c.val % 3))
  | .mgmt => (3, 16)

/-- Signal balls of a group (Table 15.2). -/
def ballCount : BallGroup → Nat
  | .agent _ => 64
  | .husk _ => 53
  | .ddr5 _ => 148
  | .mgmt => 78

/-- Rows of a group's site (Table 15.2). -/
def siteRows : BallGroup → Nat
  | .agent _ => 8
  | .husk _ => 7
  | .ddr5 _ => 19
  | .mgmt => 10

/-- Row and column of ball `n` of a group, below its count (R543). -/
def ballAt (g : BallGroup) (n : Nat) : Nat × Nat :=
  ((siteOf g).2 + n / 8, 12 * (siteOf g).1 + 3 * (n % 8 / 2) + n % 2)

/-- The ball that a position of a site holds, by local row and column; none where it is VSS (R543). -/
def siteBall (g : BallGroup) (row col : Nat) : Option Nat :=
  let n := 8 * row + 2 * (col / 3) + col % 3
  if col % 3 = 2 ∨ ballCount g ≤ n then none else some n

/-- Every ball group (Table 15.2). -/
def ballGroups : List BallGroup :=
  (List.finRange 16).map .agent ++ (List.finRange 18).map .husk ++ (List.finRange 12).map .ddr5 ++ [.mgmt]

/-- The group whose site holds a position (R544). -/
def groupAt (r c : Nat) : Option BallGroup :=
  ballGroups.find? fun g => (siteOf g).1 == c / 12 && decide ((siteOf g).2 ≤ r) && decide (r < (siteOf g).2 + siteRows g)

/-- Index of lane `l`'s balls in an agent port: transmit or receive, true or complement (Table 15.4). -/
def laneBall (l : Nat) (receive complement : Bool) : Nat :=
  4 * l + (if receive then 2 else 0) + if complement then 1 else 0

/-- Index of DQS pair `i` of subchannel `sub` in a DDR5 channel (Table 15.4). -/
def dqsBall (sub i : Nat) (complement : Bool) : Nat := 72 * sub + 40 + 2 * i + if complement then 1 else 0

/-- A letter group and a number, as in DQ7. -/
def numbered (name : String) (n : Nat) : String := name ++ toString n

/-- Name of ball `n` of subchannel `sub` of a DDR5 channel, after the channel's prefix (Table 15.4). -/
def subchannelBall (sub n : Nat) : String :=
  let name :=
    if n < 32 then numbered "DQ" n
    else if n < 40 then numbered "CB" (n - 32)
    else if n < 60 then numbered (if n % 2 = 0 then "DQS_T" else "DQS_C") ((n - 40) / 2)
    else if n < 67 then numbered "DCA" (n - 60)
    else if n = 67 then "DPAR"
    else numbered "DCS_N" (n - 68)
  numbered "_S" sub ++ "_" ++ name

/-- Name of management ball `n` (Table 15.4). -/
def mgmtBall (n : Nat) : String :=
  if n < 8 then ["REFCLK_P", "REFCLK_N", "RESET_N", "SETTLE_N", "MGMT_RESET_N", "WAKE_N", "PWR_EN", "THERMTRIP_N"].getD n ""
  else if n < 12 then numbered "IRQ_OUT_N" (n - 8)
  else if n < 16 then ["CAN_A_TXD", "CAN_A_RXD", "CAN_B_TXD", "CAN_B_RXD"].getD (n - 12) ""
  else if n < 32 then numbered "EVENT_IN" (n - 16)
  else if n < 40 then
    ["STRIDE_SYNC_IN", "STRIDE_SYNC_OUT", "TCK", "TMS", "TDI", "TDO", "TRST_N", "TEST_EN"].getD (n - 32) ""
  else if n < 46 then numbered "NODE_ID" (n - 40)
  else if n < 48 then numbered "DOMAIN_CNT" (n - 46)
  else if n < 50 then numbered "DOMAIN_IDX" (n - 48)
  else if n < 66 then numbered "PORT_SPLIT" (n - 50)
  else if n < 70 then ["THERMDA", "THERMDC", "VDD_SENSE", "VSS_SENSE"].getD (n - 66) ""
  else numbered "RSVD" (n - 70)

/-- Name of ball `n` of a group, below its count (R545, Table 15.4). -/
def signalName (g : BallGroup) (n : Nat) : String :=
  match g with
  | .agent p => numbered "AP" p.val ++ (if n % 4 < 2 then numbered "_TX" (n / 4) else numbered "_RX" (n / 4)) ++
      (if n % 2 = 0 then "_P" else "_N")
  | .husk j => numbered "HP" j.val ++
      (if n < 32 then numbered "_DQ" n
       else if n < 48 then numbered "_CA" ((n - 32) / 4) ++ numbered "_" (n % 4)
       else ["_CK_T", "_CK_C", "_WCK_T", "_WCK_C", "_RESET_N"].getD (n - 48) "")
  | .ddr5 c => numbered "MC" c.val ++
      (if n < 144 then subchannelBall (n / 72) (n % 72) else ["_DCK_T", "_DCK_C", "_ALERT_N", "_RESET_N"].getD (n - 144) "")
  | .mgmt => mgmtBall n

/-- A ball that boundary-scan cells cover: every DDR5 and Husk ball and every management ball on VIO but those that R555 names. WAKE_N
and PWR_EN are on VKEEP (R552). -/
def hasCell (g : BallGroup) (n : Nat) : Bool :=
  match g with
  | .agent _ => false
  | .mgmt => decide (2 ≤ n) && n != 5 && n != 6 && decide (n < 66)
  | _ => true

/-- Supply rails, and ground (Table 15.5). -/
inductive Supply where
  | vdd | vphy | vddqg | vddqd | vio | vkeep | vss
  deriving DecidableEq, Repr

/-- Rail of a position in a power block, by strip, row and local column (Table 15.5, R546). -/
def supplyAt (strip row col : Nat) : Option Supply :=
  if strip = 2 ∨ strip = 4 then
    if 50 ≤ row ∧ row ≤ 52 then some .vddqg
    else if 53 ≤ row ∧ row ≤ 74 then some .vdd
    else if row = 75 then some .vphy else none
  else if strip = 3 then
    if row = 26 then some .vio
    else if row = 27 then some (if col < 4 then .vkeep else .vdd)
    else if (28 ≤ row ∧ row ≤ 35) ∨ (48 ≤ row ∧ row ≤ 53) then some .vdd
    else none
  else if row = 72 ∨ row = 73 then some .vddqd
  else if row = 74 ∨ row = 75 then some .vphy
  else none

/-- What stands at a position of the array. -/
inductive Ball where
  | signal (g : BallGroup) (n : Nat)
  | supply (rail : Supply)
  deriving DecidableEq, Repr

/-- The ball at a row and a column; none where the array is not populated (R542 to R546). -/
def ballOf (r c : Nat) : Option Ball :=
  if !populated r c then none
  else match groupAt r c with
    | some g => match siteBall g (r - (siteOf g).2) (c % 12) with
      | some n => some (.signal g n)
      | none => some (.supply .vss)
    | none => (supplyAt (c / 12) r (c % 12)).map .supply

end Sys2Proof.Machine
end

