-- ==== Sys2Proof/WellFormed.lean ====
section
/-!
DEFINITION. Commands the outside can send: the operands whose type admits more than the device's pins, frames and
units do. `exec` answers ill-formed commands too; the check says which ones no agent can send.
-/
namespace Sys2Proof

/-- Data lengths of a CAN FD frame (11, "Bridle"). -/
def fdLengths : List Nat := [0, 1, 2, 3, 4, 5, 6, 7, 8, 12, 16, 20, 24, 32, 48, 64]

/-- A frame that a bus can carry. -/
def Frame.wellFormed (f : Frame) : Bool := fdLengths.contains f.data.length

/-- An error pattern names each bit or symbol of its unit at most once. -/
def errOk (e : ErrPattern) : Bool := decide (e.eraseDups.length = e.length)

/-- The command is one the outside can send: temperatures of 18 Husk ports (R41, Table 2.1), one training block per
lane (R288), 16 ports and 12 channels trained (R349, R330), at most six data words in a record (Table 12.5), frames
of a CAN FD length, error patterns without repeats, a fixed counter below 32 (R492), and ways of one set in a containment sweep (R391). -/
def Instr.wellFormed : Instr → Bool
  | .epochBoundary temps => decide (temps.length = 18)
  | .trainingBlock _ blocks _ => decide (blocks.length = 8 ∨ blocks.length = 16)
  | .bringupHuskTraining ports => decide (ports.length = 16 ∨ ports.length = 18)
  | .bringupDdr5Training chans => decide (chans.length = 12)
  | .sourceEvent _ data _ => decide (data.length ≤ 6)
  | .identify _ f _ => f.wellFormed
  | .bridleRead _ f _ => f.wellFormed
  | .bridleWrite _ f _ => f.wellFormed
  | .alarmAck _ f => f.wellFormed
  | .scrubRead _ _ _ err => errOk err
  | .correctionReread _ _ _ err => errOk err
  | .lookup _ _ err _ => errOk err
  | .ctrValueWrite _ fixed n _ => !fixed || decide (n.toNat < 32)
  | .containmentSweep _ bad => bad.all (· < 16)
  | _ => true

end Sys2Proof
end

