-- ==== Sys2Proof/Tests/Slice0.lean ====
section
/-!
SUPPORT. Tests. The checks of WellFormed refuse an ill-formed command each; the address splits and the encoding give the
manual's worked examples; and for every statement of Obligations.lean that has hypotheses, a state and operands meet them.
-/
namespace Sys2Proof.Tests

open Sys2Proof Sys2Proof.Machine

set_option Elab.async false

/-! ### Ill-formed commands -/

namespace Smoke

theorem test_temps : (Instr.epochBoundary (List.replicate 17 0)).wellFormed = false := by decide
theorem test_temps_ok : (Instr.epochBoundary (List.replicate 18 0)).wellFormed = true := by decide
theorem test_lanes : (Instr.trainingBlock 3 (List.replicate 4 0) 0).wellFormed = false := by decide
theorem test_ports : (Instr.bringupHuskTraining []).wellFormed = false := by decide
theorem test_channels : (Instr.bringupDdr5Training []).wellFormed = false := by decide
theorem test_event_words : (Instr.sourceEvent 7 (List.replicate 7 0) false).wellFormed = false := by decide
def longFrame : Frame := { ident := 0, data := List.replicate 9 0 }
theorem test_identify : (Instr.identify 0 longFrame 3).wellFormed = false := by decide
theorem test_bridle_read : (Instr.bridleRead 0 longFrame 3).wellFormed = false := by decide
theorem test_bridle_write : (Instr.bridleWrite 0 longFrame 3).wellFormed = false := by decide
theorem test_alarm_ack : (Instr.alarmAck 0 longFrame).wellFormed = false := by decide
theorem test_scrub : (Instr.scrubRead .husk 3 0 [(1, 2), (1, 2)]).wellFormed = false := by decide
theorem test_reread : (Instr.correctionReread .husk 3 0 [(1, 2), (1, 2)]).wellFormed = false := by decide
theorem test_lookup : (Instr.lookup 3 9 [(1, 2), (1, 2)] none).wellFormed = false := by decide
theorem test_counter : (Instr.ctrValueWrite .board true 32 0).wellFormed = false := by decide
theorem test_sweep : (Instr.containmentSweep 3 [16]).wellFormed = false := by decide

end Smoke

/-! ### The manual's worked examples -/

namespace Examples

/-- 01_organisation.md, the home of PA 0x0003_4567_8ABC in domains of four and three devices (log entry 28). -/
theorem test_home : homeOf 0x345678ABC 4 = (2, 0xD159EABC) ∧ homeOf 0x345678ABC 3 = (0, 0x117228ABC) := by
  decide

/-- 03_cache_tiers.md, the split of LA 0x2A5_1C3D_7F80. -/
theorem test_tiers : sliceOf 0x2A51C3D7F80 = 9 ∧ lineIn 0x2A51C3D7F80 = 31 ∧ ksetOf 0x2A51C3D7F80 = 78047
    ∧ ktagOf 0x2A51C3D7F80 = 0x2A51C ∧ hsetOf 0x2A51C3D7F80 = 301431 ∧ htagOf 0x2A51C3D7F80 = 0x54A
    ∧ portOfWay 301431 5 = 12 ∧ laOfK 78047 0x2A51C = 0x2A51C3D7F80 ∧ laOfH 301431 0x54A 31 = 0x2A51C3D7F80 := by
  decide +kernel

/-- 04_coherence_protocol.md, the directory set and tag of the same address. -/
theorem test_directory : dsetOf 0x2A51C3D7F80 = 148319 ∧ dtagOf 0x2A51C3D7F80 = 0x1528E
    ∧ laOfD 148319 0x1528E = 0x2A51C3D7F80 := by
  decide +kernel

/-- 08_memory_and_husk_ports.md, the DDR5 place of LA 0xD159_EABC with one rank bit and 16 row bits. -/
theorem test_ddr5 : chanOf 0xD159EABC = 5 ∧ caOf 0xD159EABC = 0x117228BC
    ∧ dramDecode (caOf 0xD159EABC) 1 16 = ({ rank := 0, bg := 6, bank := 3, row := 0x0117, col := 0x0A } : DramAddr) := by
  decide +kernel

/-- 11_dictionary_and_registers.md, the register of 0x2104.03 in the window of device 2. -/
theorem test_window : windowBase 2 + 0x210403 / 256 * 256 + 0x210403 % 256 * 8 = 0xFFFFFFE210418 := by decide

/-- 13_performance_monitoring.md, the slice of PA 0x12_3456_1800 in a domain of one device. -/
theorem test_slice : sliceOf (homeOf 0x1234561800 1).2 = 6 := by decide +kernel

/-- 14_policy_core.md, BNE n5, n0 with OFF −32, A 1 and H 0. -/
theorem test_bne : groomDecode 0xC18A0FE0 = some (.bne 5 0 (-32) true false) := by decide

/-- 14_policy_core.md, 0x9100.04 in the SNAPSHOT view at 0x5C88_0020. -/
theorem test_groom_window : windowKey 0x5C880020 = (0x910004, .snapshot) := by decide +kernel

/-- R414, Tables 10.6 and 10.10: a Paddock that a power-on reset carries its own check. -/
theorem test_paddock : ((State.reset.modes.paddock.getD 3 0).toNat % 256 = paddockCheck State.reset.modes.paddock) := by
  decide +kernel

/-- 15_package_and_electrical.md, the balls MC4_S1_DQS_C3 and AP0_TX0_P. -/
theorem test_balls : dqsBall 1 3 true = 119 ∧ ballName (ballAt (.ddr5 4) (dqsBall 1 3 true)) = "BD23"
    ∧ ballName (ballAt (.agent 0) (laneBall 0 false false)) = "A1" := by
  decide +kernel

/-- No row of the command table has bits, so no word spells a command. -/
theorem test_no_word : decodeTableWord 32 0 = none := by decide

end Examples

/-! ### States that meet the statements' hypotheses -/

/-- The state that a command answers, or the given one. -/
def nextOf (o : Host.Outcome State Fault Refusal) (d : State) : State := match o with | .next t => t | _ => d

/-- A request that looks up with nothing in its way, as one test. -/
def looksFree (s : State) (t : Txn) (h : Nat) : Bool :=
  t.fresh && decide (s.txn t.id = some t) && decide (t.half = some h) && s.halfUp h && !s.fenced t.slice && decide (s.activeOn t.line = none)
  && !s.lineHeld t.line t.id && (t.tracker.isSome || (isEvict t.req.op && (s.freeIn t.slice 0 480).isSome)) && !t.device
  && decide (s.otherKey t.line t.req.keyid.toNat = none) && decide (s.obj Obj.departedMask = 0)
  && (s.ports.outcomes.all fun o => decide (o.id ≠ t.id)) && s.home.txns.all fun u => decide (u.backInv ≠ some t.id)

theorem looksFree_sound {s : State} {t : Txn} {h : Nat} (k : looksFree s t h = true) : LooksUpFree s t h := by
  simp only [looksFree, Bool.and_eq_true, Bool.or_eq_true, Bool.not_eq_true', decide_eq_true_eq, List.all_eq_true] at k
  obtain ⟨⟨⟨⟨⟨⟨⟨⟨⟨⟨⟨⟨a, b⟩, c⟩, d⟩, e⟩, f⟩, g⟩, i⟩, j⟩, l⟩, m⟩, v⟩, n⟩ := k
  exact ⟨a, b, c, d, e, f, g, i, j, l, m, v, n⟩

theorem withFree {p : Prop} {s : State} {t : Txn} {h : Nat} (k : p ∧ looksFree s t h = true) : p ∧ LooksUpFree s t h :=
  ⟨k.1, looksFree_sound k.2⟩

/-- The example of 08: the data unit of local address 0xD159_EABC on device 2. -/
theorem test_data_unit :
    ({ State.reset with pkg := { State.reset.pkg with sampled := 0x200 } }).dataUnit (0xD159EABC / 128) = 0x001001A2B3D5 := by decide

/-- A drop marker before the next record: word 1 is the stride of the first drop it counts, word 2 that of the last (R483). -/
theorem test_drop_marker :
    let s := State.reset.setRing 20 { drops := 2, dropFirst := 5, dropAt := 9 }
    ((s.recordTrace 20 { source := 0xC1, count := 1, stride := 12, words := [7] }).ring 20).records.map
      (fun x => (x.source, x.count, x.stride, x.words)) = [(0x3FF, 2, 5, [9]), (0xC1, 1, 12, [7])] := by decide

def dRow : ObjRow := { i0 := 0, i1 := 0, s0 := 0, s1 := 0, ty := .u32, board := .none, host := .none, guest := .none, groom := .none, dflt := 0, rng := .any, kind := .plain }
def dFrame : Frame := { ident := 0 }
def dReq : Req := { opcode := 0, stream := 0, tag := 0 }
def dTxn : Txn := { id := 0, slice := 0, tracker := none, half := none, req := dReq, line := 0, phase := .admitted }

/-- The state with objects at these values, read and in force. -/
def withObjs (l : List (Nat × Nat)) (s : State) : State :=
  l.foldl (fun s x => (s.setNat x.1 x.2).setEff x.1 (BitVec.ofNat 64 x.2)) s
def W0 : State := { modes := { mode := .normal } }
def padOk : List Reg :=
  let w : List Reg := [0x0001000000000100 ||| (1 <<< 49) ||| (5 <<< 16), 0, 0, 0]
  w.take 3 ++ [BitVec.ofNat 64 (paddockCheck w)]
def Wn (o : List (Nat × Nat)) (t : Tiers) : State :=
  withObjs ((List.range 18).map (fun j => (Obj.huskPortState + j, 2)) ++ (List.range 12).map (fun c => (Obj.chanState + c * 256, 2)) ++ [(Obj.gaitActive, 1)] ++ o)
    { time := { stride := 100 }, modes := { mode := .normal }, tiers := t, gait := { banks := [(1, .rom false 3)] } }

namespace General

def wStepRunsFront1_c : Instr := .strideSyncPulse none 3
def wStepRunsFront1_rest : List Instr := []
def wStepRunsFront1_s : State := { W0 with pending := [.strideSyncPulse none 3] }
theorem test_StepRunsFront :
    (W0.pending = [])
    ∧ (wStepRunsFront1_s.pending = wStepRunsFront1_c :: wStepRunsFront1_rest) := by
  and_intros <;> decide +kernel

def wResetState0_x : Nat × Nat := (Obj.waitlistMax, 32)
theorem test_ResetState :
    wResetState0_x ∈ [(Obj.waitlistMax, 32), (Obj.spurThreshold, 8), (Obj.snoopTimeout, 256), (Obj.stopLimit, 8192),
        (Obj.bootMode, 5), (Obj.modePrevious, 3), (Obj.restWakeOnReq, 1), (Obj.modeResult, 0)] := by
  decide +kernel

end General

namespace Boot

def Wreset : State := { modes := { mode := .reset, resetN := true } }
def Wbrown : State := { modes := { mode := .reset, brownout := true } }
theorem test_ResetPin :
    (W0.modes.mode.powered = true)
    ∧ (W0.modes.mode ≠ Mode.reset)
    ∧ (Wreset.modes.resetN = true)
    ∧ (Wreset.modes.mode = Mode.reset)
    ∧ (Wreset.modes.mgmtUp = true)
    ∧ ((Wreset.modes.holdAlarmMs = 0 ∨ Wreset.modes.holdAlarmMs + 1000 ≤ 100))
    ∧ ((Wreset.modes.mode = Mode.reset ∨ Wreset.modes.mode = Mode.keep ∧ Wreset.modes.pwrEn = true))
    ∧ (Wreset.modes.rails = (31 : BitVec 5))
    ∧ (Wreset.modes.refclkStopped = false)
    ∧ (Wreset.modes.brownout = false)
    ∧ (BitVec.toNat (Wreset.modes.paddock.getD 3 (0 : Reg)) % 256 = paddockCheck Wreset.modes.paddock)
    ∧ (Wbrown.modes.mode = Mode.reset)
    ∧ (Wbrown.modes.brownout = true) := by
  refine ⟨?_, ?_, ?_, ?_, ?_, ?_, ?_, ?_, ?_, ?_, ?_, ?_, ?_⟩ <;> decide +kernel

def Wkeep0 : State := { modes := { mode := .drain, trans := some .keepStop, recalling := true, recallNext := (List.range 16).map fun i => (i, 16384) } }
def Wkeep1 : State := { modes := { mode := .drain, trans := some .keepStop, paddock := padOk } }
def Wslp : State := { modes := { mode := .keep, pwrEn := false, causeOpen := true, wakeHeld := true, paddock := padOk } }
def Wslp2 : State := { modes := { mode := .keep, pwrEn := false, refclkStopped := true, paddock := padOk } }
theorem test_KeepAndWake :
    (Wkeep0.modes.trans = some Trans.keepStop)
    ∧ (Wkeep0.modes.recalling = true)
    ∧ (Wkeep0.recalled = true)
    ∧ (Wkeep0.rel.fatal = [])
    ∧ (BitVec.getLsbD (Wkeep0.modes.paddock.getD 0 (0 : Reg)) 48 = true)
    ∧ (Wkeep0.modes.mode ≠ Mode.keep)
    ∧ ((Wkeep1.modes.recalling = false ∨ Wkeep1.rel.fatal ≠ []))
    ∧ (BitVec.getLsbD (Wslp.modes.paddock.getD 0 (0 : Reg)) 48 = true)
    ∧ (Wslp.modes.mode = Mode.keep)
    ∧ (Wslp.modes.pwrEn = false)
    ∧ (Wslp.modes.wakeHeld = true)
    ∧ (Wslp.modes.refclkStopped = false)
    ∧ (BitVec.getLsbD (Wslp.modes.paddock.getD 0 (0 : Reg)) 49 = true)
    ∧ (bitsOf (BitVec.toNat (Wslp.modes.paddock.getD 0 (0 : Reg))) 47 16 ≠ 0)
    ∧ (bitsOf (BitVec.toNat (Wslp.modes.paddock.getD 0 (0 : Reg))) 47 16 ≤ Wslp.modes.keepMs + 5)
    ∧ ((4999 < 5000 ∨ BitVec.getLsbD (Wslp2.modes.paddock.getD 0 (0 : Reg)) 48 = false))
    ∧ (Wslp2.modes.mode = Mode.keep)
    ∧ (Wslp2.modes.pwrEn = false)
    ∧ (Wslp2.modes.refclkStopped = true)
    ∧ ((BitVec.getLsbD (Wslp.modes.paddock.getD 0 (0 : Reg)) 49 = false ∨ Wslp.modes.keepMs + 4 < bitsOf (BitVec.toNat
        (Wslp.modes.paddock.getD 0 (0 : Reg))) 47 16)) := by
  and_intros <;> decide +kernel

def Woff : State := { modes := { mode := .off, vkeep := false } }
def Wcau : State := { modes := { mode := .normal, causeOpen := true } }
theorem test_PowerStates :
    (Woff.modes.mode = Mode.off)
    ∧ ((Woff.modes.mode = Mode.off ∨ Woff.modes.mode = Mode.keep))
    ∧ ((119 < 120 ∨ Woff.modes.rails.getLsbD 0 = false))
    ∧ (Wcau.modes.mode ≠ Mode.off)
    ∧ (Wcau.modes.mode.powered = true)
    ∧ (Wcau.modes.mode ≠ Mode.reset)
    ∧ (Wcau.modes.resetN = false)
    ∧ (Wcau.modes.rails.getLsbD 0 = true)
    ∧ ((Wslp.modes.mode.powered = true ∧ Wslp.modes.resetN = true ∨ Wslp.modes.mode = Mode.keep)) := by
  refine ⟨?_, ?_, ?_, ?_, ?_, ?_, ?_, ?_, ?_⟩ <;> decide +kernel

def Wmg : State := { modes := { mode := .normal, mgmtUp := false } }
def Wmg2 : State := { modes := { mode := .normal }, dict := { locks := [(3, { holder := some .host, at_ := 1 })] }, groom := { run := .running } }
theorem test_ManagementReset :
    ((1000 < 1000 ∨ Wmg.modes.mgmtUp = false))
    ∧ (Wmg.modes.mgmtUp = false)
    ∧ (Wmg.modes.mode = Mode.normal)
    ∧ (Wmg2.modes.mgmtUp = true) := by
  and_intros <;> decide +kernel

def Wb (steps : Nat) (s : State) : State := s.withModes { s.modes with mode := .bringup, steps := BitVec.ofNat 16 steps }
def wBringupEarlySteps0_s : State := Wb 0 W0
def wBringupEarlySteps1_s : State := Wb 2 { modes := { cold := false } }
def wBringupEarlySteps2_s : State := Wb 2 { modes := { cold := false, settleN := true } }
def wBringupEarlySteps3_s : State := Wb 2 State.reset
def wBringupEarlySteps5_s : State := Wb 6 State.reset
theorem test_BringupEarlySteps :
    (wBringupEarlySteps0_s.stepRuns 1 = true ∧ wBringupEarlySteps0_s.stepRuns 3 = false)
    ∧ (wBringupEarlySteps1_s.stepRuns 1 = false ∧ wBringupEarlySteps1_s.stepRuns 2 = true ∧
        wBringupEarlySteps1_s.modes.strapError = false ∧ wBringupEarlySteps1_s.modes.cold = false ∧ wBringupEarlySteps1_s.obj
        Obj.strapStatus ≠ (1 : Reg) ∧ wBringupEarlySteps1_s.modes.settleN = false)
    ∧ (wBringupEarlySteps2_s.stepRuns 2 = true ∧ wBringupEarlySteps2_s.modes.strapError = false ∧
        wBringupEarlySteps2_s.modes.cold = false ∧ wBringupEarlySteps2_s.obj Obj.strapStatus ≠ (1 : Reg) ∧
        wBringupEarlySteps2_s.modes.settleN = true)
    ∧ (wBringupEarlySteps3_s.stepRuns 2 = true ∧ wBringupEarlySteps3_s.modes.strapError = false ∧
        wBringupEarlySteps3_s.modes.cold = true ∧ wBringupEarlySteps3_s.modes.onceDone.getLsbD 2 = false)
    ∧ (wBringupEarlySteps5_s.stepRuns 3 = true ∧ wBringupEarlySteps5_s.stepRuns 4 = true) := by
  refine ⟨?_, ?_, ?_, ?_, ?_⟩ <;> decide +kernel

def Wpop : State := withObjs [(Obj.memDimmType, 1), (Obj.memDpc, 1), (Obj.memRanks, 1), (Obj.memDensity, 1), (Obj.memSpeedMax, 3)] (Wb 0x7E State.reset)
def Wfull : State := (List.range 18).foldl (fun s j => s.setNat (Obj.huskPortState + j) 2) State.reset
def W10 : State := withObjs [(Obj.gaitActive, 0)] ((Wb 0x3FE Wfull).withGait { banks := [(0, .rom false 3)] })
def al (r : TrainResult) (n : Nat) : List TrainResult := List.replicate n r
def wBringupLateSteps0_s : State := Wb 6 State.reset
def wBringupLateSteps0_ports : List TrainResult := al .trained 18
def wBringupLateSteps3_s : State := Wb 6 State.reset
def wBringupLateSteps3_ports : List TrainResult := al .absent 18
def wBringupLateSteps4_chans : List TrainResult := al .trained 12
def wBringupLateSteps5_chans : List TrainResult := al .trained 10 ++ [.mismatch, .failed]
def wBringupLateSteps6_s : State := Wb 0xFE State.reset
def wBringupLateSteps8_s : State := W10.withModes { W10.modes with testWanted := true }
def wBringupLateSteps9_s : State := (Wb 0x3FE State.reset).withGait { banks := [(0, .rom false 3)] }
def wBringupLateSteps10_s : State := (Wb 0x3FE State.reset).withGait { banks := [(3, .image [])], boot := 3 }
def wBringupLateSteps11_s : State := Wb 0x7E State.reset
def wBringupLateSteps12_s : State := (Wb 0 { modes := { overtime := 0x80 } })
theorem test_BringupLateSteps :
    (wBringupLateSteps0_s.stepRuns 5 = true ∧ (∃ (j : Nat), j < 18 ∧ (fun (j : Nat) => wBringupLateSteps0_ports.getD j
        TrainResult.absent) j ≠ TrainResult.absent))
    ∧ (wBringupLateSteps3_s.stepRuns 5 = true ∧ Wpop.stepRuns 7 = true ∧ Wpop.popSpeed = some 2)
    ∧ ((∃ (j : Nat), j < 12 ∧ (fun (j : Nat) => wBringupLateSteps5_chans.getD j TrainResult.absent) j ≠ TrainResult.trained))
    ∧ (wBringupLateSteps6_s.stepRuns 8 = true ∧ wBringupLateSteps6_s.modes.cold = true ∧ W10.stepRuns 10 = true ∧ W10.gait.boot
        = 0 ∧ W10.modes.testWanted = false ∧ W10.activateBoot.loadSeeds.bootDegraded = false ∧ W10.bootMode ≠ Mode.test)
    ∧ (wBringupLateSteps8_s.stepRuns 10 = true ∧ wBringupLateSteps8_s.gait.boot = 0 ∧ wBringupLateSteps8_s.modes.testWanted =
        true)
    ∧ (wBringupLateSteps9_s.stepRuns 10 = true ∧ wBringupLateSteps9_s.gait.boot = 0 ∧ wBringupLateSteps9_s.modes.testWanted =
        false ∧ wBringupLateSteps9_s.activateBoot.loadSeeds.bootDegraded = true ∧
        wBringupLateSteps9_s.activateBoot.loadSeeds.gaitLists Mode.degraded = true)
    ∧ (wBringupLateSteps10_s.stepRuns 10 = true ∧ wBringupLateSteps10_s.gait.boot = 3 ∧ wBringupLateSteps10_s.modes.testWanted =
        false ∧ wBringupLateSteps10_s.activateBoot.loadSeeds.bootDegraded = true ∧
        wBringupLateSteps10_s.activateBoot.loadSeeds.gaitLists Mode.degraded = false ∧ wBringupLateSteps10_s.bootMode ≠
        Mode.degraded)
    ∧ (wBringupLateSteps11_s.stepRuns 7 = true ∧ wBringupLateSteps11_s.modes.overtime.getLsbD 7 = false)
    ∧ (wBringupLateSteps12_s.modes.overtime.getLsbD 7 = true)
    ∧ (∀ (j : Nat), j < 18 → (fun (j : Nat) => wBringupLateSteps3_ports.getD j TrainResult.absent) j = TrainResult.absent)
    ∧ (∀ (j : Nat), j < 12 → (fun (j : Nat) => wBringupLateSteps4_chans.getD j TrainResult.absent) j = TrainResult.trained) := by
  refine ⟨?_, ?_, ?_, ?_, ?_, ?_, ?_, ?_, ?_, ?_, ?_⟩ <;> decide +kernel

end Boot

namespace Bridle

/-- A request frame: DEST, SRC, SERVICE, SEQ, bytes. -/
def req (dest src svc seq : Nat) (d : List (BitVec 8)) : Frame := { ident := bridleId 1 0 dest src svc seq, data := padFd d }
def key (k : Nat) (view size : Nat) (v : List (BitVec 8)) : List (BitVec 8) :=
  [0, BitVec.ofNat 8 view, BitVec.ofNat 8 (k/256), BitVec.ofNat 8 (k/65536), BitVec.ofNat 8 k, BitVec.ofNat 8 size, 0, 0] ++ v
def Wold : State := { modes := { mode := .normal }, bridle := { executed := [{ src := 9, service := 2, seq := 5, ms := 100, resp := req 9 1 2 5 [1] }] } }
def ex4 (svc : Nat) : Executed := { src := 9, service := svc, seq := 77, ms := 150, resp := dFrame }
def W4 : State := { modes := { mode := .normal }, bridle := { executed := [ex4 1, ex4 2, ex4 1, ex4 2] } }
def wBridleRequests0_f : Frame := req 1 9 0 5 []
def wBridleRequests1_f : Frame := req 0x3F 9 1 5 (key Obj.serial 0 0 [])
def wBridleRequests2_f : Frame := req 1 9 0 5 []
def wBridleRequests3_f : Frame := req 0x3F 9 1 5 (key Obj.serial 0 0 [])
def wBridleRequests4_f : Frame := req 1 9 1 5 (key 0x99999 0 0 [])
def wBridleRequests5_f : Frame := req 1 9 6 5 (key 0x99999 0 0 [])
def wBridleRequests6_f : Frame := req 1 9 2 5 (key Obj.hostAreas 0 2 [0x34,0x12])
def wBridleRequests6_row : ObjRow := ((objRow Obj.hostAreas).getD dRow)
theorem test_BridleRequests :
    (W4.bridleUp = true)
    ∧ (W4.busOpen 0 = true)
    ∧ (wBridleRequests0_f.fdBrs = true ∧ frameField wBridleRequests0_f 17 12 ≠ W4.bridle.nodeId ∧ (frameField wBridleRequests0_f
        23 18 = W4.bridle.nodeId ∨ frameField wBridleRequests0_f 23 18 = 63) ∧ frameField wBridleRequests0_f 25 25 = 0 ∧ 4 ≤
        W4.openRequests (frameField wBridleRequests0_f 17 12) 151 ∧ frameField wBridleRequests0_f 11 8 = 0 ∧ W4.busOpen 1 =
        true)
    ∧ (wBridleRequests1_f.fdBrs = true ∧ frameField wBridleRequests1_f 17 12 ≠ W4.bridle.nodeId ∧ (frameField wBridleRequests1_f
        23 18 = W4.bridle.nodeId ∨ frameField wBridleRequests1_f 23 18 = 63) ∧ frameField wBridleRequests1_f 25 25 = 0 ∧ 4 ≤
        W4.openRequests (frameField wBridleRequests1_f 17 12) 151 ∧ frameField wBridleRequests1_f 11 8 = 1 ∧ W0.bridleUp = true
        ∧ W0.busOpen 0 = true)
    ∧ (wBridleRequests2_f.fdBrs = true ∧ frameField wBridleRequests2_f 17 12 ≠ W0.bridle.nodeId ∧ (frameField wBridleRequests2_f
        23 18 = W0.bridle.nodeId ∨ frameField wBridleRequests2_f 23 18 = 63) ∧ frameField wBridleRequests2_f 25 25 = 0 ∧
        W0.openRequests (frameField wBridleRequests2_f 17 12) 10 < 4 ∧ frameField wBridleRequests2_f 11 8 = 0 ∧ W0.busOpen 1 =
        true)
    ∧ (wBridleRequests3_f.fdBrs = true ∧ frameField wBridleRequests3_f 17 12 ≠ W0.bridle.nodeId ∧ (frameField wBridleRequests3_f
        23 18 = W0.bridle.nodeId ∨ frameField wBridleRequests3_f 23 18 = 63) ∧ frameField wBridleRequests3_f 25 25 = 0 ∧
        W0.openRequests (frameField wBridleRequests3_f 17 12) 10 < 4 ∧ frameField wBridleRequests3_f 11 8 = 1 ∧ isBlob
        (wBridleRequests3_f.num 2 2 * 256 + wBridleRequests3_f.byte 4) = false ∧ (((if frameOdd wBridleRequests3_f (isBlob
        (wBridleRequests3_f.num 2 2 * 256 + wBridleRequests3_f.byte 4)) = true then (W0.busGood (1) false).bump Obj.busIgnored
        else W0.busGood (1) false).readAny Level.board (wBridleRequests3_f.num 2 2 * 256 + wBridleRequests3_f.byte 4) (frameView
        wBridleRequests3_f) 0).fst = 0))
    ∧ (wBridleRequests4_f.fdBrs = true ∧ frameField wBridleRequests4_f 17 12 ≠ W0.bridle.nodeId ∧ (frameField wBridleRequests4_f
        23 18 = W0.bridle.nodeId ∨ frameField wBridleRequests4_f 23 18 = 63) ∧ frameField wBridleRequests4_f 25 25 = 0 ∧
        W0.openRequests (frameField wBridleRequests4_f 17 12) 10 < 4 ∧ frameField wBridleRequests4_f 11 8 = 1 ∧ (((if frameOdd
        wBridleRequests4_f (isBlob (wBridleRequests4_f.num 2 2 * 256 + wBridleRequests4_f.byte 4)) = true then (W0.busGood (1)
        false).bump Obj.busIgnored else W0.busGood (1) false).readAny Level.board (wBridleRequests4_f.num 2 2 * 256 +
        wBridleRequests4_f.byte 4) (frameView wBridleRequests4_f) 0).fst ≠ 0))
    ∧ (wBridleRequests5_f.fdBrs = true ∧ frameField wBridleRequests5_f 17 12 ≠ W0.bridle.nodeId ∧ (frameField wBridleRequests5_f
        23 18 = W0.bridle.nodeId ∨ frameField wBridleRequests5_f 23 18 = 63) ∧ frameField wBridleRequests5_f 25 25 = 0 ∧
        W0.openRequests (frameField wBridleRequests5_f 17 12) 10 < 4 ∧ 6 ≤ frameField wBridleRequests5_f 11 8 ∧ Wold.bridleUp =
        true ∧ Wold.busOpen 1 = true)
    ∧ (wBridleRequests6_f.fdBrs = true ∧ frameField wBridleRequests6_f 17 12 ≠ Wold.bridle.nodeId ∧ (frameField
        wBridleRequests6_f 23 18 = Wold.bridle.nodeId ∨ frameField wBridleRequests6_f 23 18 = 63) ∧ frameField
        wBridleRequests6_f 25 25 = 0 ∧ Wold.openRequests (frameField wBridleRequests6_f 17 12) 151 < 4 ∧ frameField
        wBridleRequests6_f 11 8 = 2 ∧ (((if frameOdd wBridleRequests6_f (isBlob (wBridleRequests6_f.num 2 2 * 256 +
        wBridleRequests6_f.byte 4)) = true then (Wold.busGood (1) false).bump Obj.busIgnored else Wold.busGood (1)
        false).frameWrite wBridleRequests6_f).snd.bridle.executed = Wold.bridle.executed) ∧ (((if frameOdd wBridleRequests6_f
        (isBlob (wBridleRequests6_f.num 2 2 * 256 + wBridleRequests6_f.byte 4)) = true then (Wold.busGood (1) false).bump
        Obj.busIgnored else Wold.busGood (1) false).frameWrite wBridleRequests6_f).snd.sent = Wold.sent) ∧ (((if frameOdd
        wBridleRequests6_f (isBlob (wBridleRequests6_f.num 2 2 * 256 + wBridleRequests6_f.byte 4)) = true then (Wold.busGood (1)
        false).bump Obj.busIgnored else Wold.busGood (1) false).frameWrite wBridleRequests6_f).snd.bridleUp = true) ∧ (((if
        frameOdd wBridleRequests6_f (isBlob (wBridleRequests6_f.num 2 2 * 256 + wBridleRequests6_f.byte 4)) = true then
        (Wold.busGood (1) false).bump Obj.busIgnored else Wold.busGood (1) false).frameWrite wBridleRequests6_f).snd.busOpen 1 =
        true) ∧ frameOdd wBridleRequests6_f false = false)
    ∧ (wBridleRequests6_f.byte 1 = 0 ∧ objRow (wBridleRequests6_f.num 2 2 * 256 + wBridleRequests6_f.byte 4) = some
        wBridleRequests6_row ∧ wBridleRequests6_f.num 2 2 * 256 + wBridleRequests6_f.byte 4 ∈ [Obj.lockTimeout, Obj.hostAreas,
        Obj.streamThreshold] ∧ wBridleRequests6_f.byte 5 = wBridleRequests6_row.ty.bytes ∧ 8 + wBridleRequests6_row.ty.bytes ≤
        wBridleRequests6_f.data.length ∧ (Wold.busGood (1) false).checkWrite Level.board (wBridleRequests6_f.num 2 2 * 256 +
        wBridleRequests6_f.byte 4) (wBridleRequests6_f.num 8 8) 0 = 0 ∧ (Wold.busGood (1) false).accepts Level.board
        (wBridleRequests6_f.num 2 2 * 256 + wBridleRequests6_f.byte 4) (wBridleRequests6_f.num 8 wBridleRequests6_row.ty.bytes)
        = true)
    ∧ (∀ (e : Executed), e ∈ W4.bridle.executed → e.same wBridleRequests0_f 151 = false)
    ∧ (∀ (e : Executed), e ∈ W4.bridle.executed → e.same wBridleRequests1_f 151 = false)
    ∧ (∀ (e : Executed), e ∈ W0.bridle.executed → e.same wBridleRequests2_f 10 = false)
    ∧ (∀ (e : Executed), e ∈ W0.bridle.executed → e.same wBridleRequests3_f 10 = false)
    ∧ (∀ (e : Executed), e ∈ W0.bridle.executed → e.same wBridleRequests4_f 10 = false)
    ∧ (∀ (e : Executed), e ∈ W0.bridle.executed → e.same wBridleRequests5_f 10 = false)
    ∧ (∀ (e : Executed), e ∈ Wold.bridle.executed → e.same wBridleRequests6_f 151 = false) := by
  refine ⟨?_, ?_, ?_, ?_, ?_, ?_, ?_, ?_, ?_, ?_, ?_, ?_, ?_, ?_, ?_, ?_, ?_⟩ <;> decide +kernel

def Wold' (n : Nat) : State := { modes := { mode := .normal }, bridle := { busA := { tec := 1, recv := 128, state := 1 }, busB := { recv := 3 }, executed := [{ src := 9, service := n, seq := 5, ms := 100, resp := req 9 1 2 5 [1] }] } }
def wBridleRepeatsAndIgnored0_s : State := Wold' 2
def wBridleRepeatsAndIgnored0_f : Frame := req 1 9 2 5 [7]
def wBridleRepeatsAndIgnored0_e : Executed := { src := 9, service := 2, seq := 5, ms := 100, resp := req 9 1 2 5 [1] }
def wBridleRepeatsAndIgnored1_s : State := Wold' 1
def wBridleRepeatsAndIgnored1_f : Frame := req 1 9 1 5 [7]
def wBridleRepeatsAndIgnored1_e : Executed := { src := 9, service := 1, seq := 5, ms := 100, resp := req 9 1 2 5 [1] }
def wBridleRepeatsAndIgnored2_s : State := Wold' 0
def wBridleRepeatsAndIgnored2_f : Frame := req 1 9 0 5 [7]
def wBridleRepeatsAndIgnored2_e : Executed := { src := 9, service := 0, seq := 5, ms := 100, resp := req 9 1 2 5 [1] }
def wBridleRepeatsAndIgnored3_s : State := Wold' 2
def wBridleRepeatsAndIgnored3_f : Frame := req 1 1 2 5 [7]
theorem test_BridleRepeatsAndIgnored :
    (wBridleRepeatsAndIgnored0_s.bridleUp = true ∧ wBridleRepeatsAndIgnored0_s.busOpen 1 = true ∧
        wBridleRepeatsAndIgnored0_f.fdBrs = true ∧ frameField wBridleRepeatsAndIgnored0_f 17 12 ≠
        wBridleRepeatsAndIgnored0_s.bridle.nodeId ∧ (frameField wBridleRepeatsAndIgnored0_f 23 18 =
        wBridleRepeatsAndIgnored0_s.bridle.nodeId ∨ frameField wBridleRepeatsAndIgnored0_f 23 18 = 63) ∧ frameField
        wBridleRepeatsAndIgnored0_f 25 25 = 0 ∧ (List.find? (fun (x : Executed) => x.same wBridleRepeatsAndIgnored0_f 150)
        wBridleRepeatsAndIgnored0_s.bridle.executed = some wBridleRepeatsAndIgnored0_e) ∧ frameField wBridleRepeatsAndIgnored0_f
        11 8 = 2)
    ∧ (wBridleRepeatsAndIgnored1_s.bridleUp = true ∧ wBridleRepeatsAndIgnored1_s.busOpen 0 = true ∧
        wBridleRepeatsAndIgnored1_f.fdBrs = true ∧ frameField wBridleRepeatsAndIgnored1_f 17 12 ≠
        wBridleRepeatsAndIgnored1_s.bridle.nodeId ∧ (frameField wBridleRepeatsAndIgnored1_f 23 18 =
        wBridleRepeatsAndIgnored1_s.bridle.nodeId ∨ frameField wBridleRepeatsAndIgnored1_f 23 18 = 63) ∧ frameField
        wBridleRepeatsAndIgnored1_f 25 25 = 0 ∧ (List.find? (fun (x : Executed) => x.same wBridleRepeatsAndIgnored1_f 150)
        wBridleRepeatsAndIgnored1_s.bridle.executed = some wBridleRepeatsAndIgnored1_e) ∧ (frameField
        wBridleRepeatsAndIgnored1_f 11 8 = 1 ∨ 6 ≤ frameField wBridleRepeatsAndIgnored1_f 11 8))
    ∧ (wBridleRepeatsAndIgnored2_s.bridleUp = true ∧ wBridleRepeatsAndIgnored2_s.busOpen 1 = true ∧
        wBridleRepeatsAndIgnored2_f.fdBrs = true ∧ frameField wBridleRepeatsAndIgnored2_f 17 12 ≠
        wBridleRepeatsAndIgnored2_s.bridle.nodeId ∧ (frameField wBridleRepeatsAndIgnored2_f 23 18 =
        wBridleRepeatsAndIgnored2_s.bridle.nodeId ∨ frameField wBridleRepeatsAndIgnored2_f 23 18 = 63) ∧ frameField
        wBridleRepeatsAndIgnored2_f 25 25 = 0 ∧ (List.find? (fun (x : Executed) => x.same wBridleRepeatsAndIgnored2_f 150)
        wBridleRepeatsAndIgnored2_s.bridle.executed = some wBridleRepeatsAndIgnored2_e) ∧ frameField wBridleRepeatsAndIgnored2_f
        11 8 = 0)
    ∧ (wBridleRepeatsAndIgnored3_s.bridleUp = true ∧ wBridleRepeatsAndIgnored3_s.busOpen 1 = true ∧
        (wBridleRepeatsAndIgnored3_f.fdBrs = false ∨ frameField wBridleRepeatsAndIgnored3_f 17 12 =
        wBridleRepeatsAndIgnored3_s.bridle.nodeId)) := by
  refine ⟨?_, ?_, ?_, ?_⟩ <;> decide +kernel

def al (n : Nat) (p : Option Nat) : Alarm := { seq := BitVec.ofNat 16 n, source := 0xBA, count := 3, stride := 1000, words := [1, 2], pushed := p }
def Wal (l : List Alarm) : State := { modes := { mode := .normal }, bridle := { alarms := l } }
def wBridleAlarms0_s : State := Wal [al 1 none]
def wBridleAlarms0_a : Alarm := al 1 none
def wBridleAlarms1_s : State := Wal ((List.range 8).map fun i => al i (some 5))
def wBridleAlarms1_a : Alarm := al 0 (some 5)
theorem test_BridleAlarms :
    (wBridleAlarms0_s.steadySend 0 = true ∧ wBridleAlarms0_s.steadySend 1 = true ∧ wBridleAlarms0_s.bridleUp = true ∧
        wBridleAlarms0_s.unacked < 8 ∧ (List.find? (fun (x : Alarm) => x.pushed.isNone) wBridleAlarms0_s.bridle.alarms = some
        wBridleAlarms0_a) ∧ (wBridleAlarms0_s.bridleUp = false ∨ List.find? (fun (x : Alarm) => x.due (wBridleAlarms0_s.eff
        Obj.alarmRepeat) 10 && (!x.acked || decide (wBridleAlarms0_s.unacked < 8))) wBridleAlarms0_s.bridle.alarms = none))
    ∧ (wBridleAlarms1_s.steadySend 0 = true ∧ wBridleAlarms1_s.steadySend 1 = true ∧ (wBridleAlarms1_s.bridleUp = false ∨ 8 ≤
        wBridleAlarms1_s.unacked ∨ List.find? (fun (x : Alarm) => x.pushed.isNone) wBridleAlarms1_s.bridle.alarms = none) ∧
        wBridleAlarms1_s.bridleUp = true ∧ (List.find? (fun (x : Alarm) => x.due (wBridleAlarms1_s.eff Obj.alarmRepeat) 2000 &&
        (!x.acked || decide (wBridleAlarms1_s.unacked < 8))) wBridleAlarms1_s.bridle.alarms = some wBridleAlarms1_a)) := by
  refine ⟨?_, ?_⟩ <;> decide +kernel

def wAlarmAcknowledged0_s : State := Wal [al 1 (some 3), al 2 (some 3)]
def wAlarmAcknowledged0_f : Frame := req 1 9 4 0 [1,0]
def wAlarmAcknowledged0_a : Alarm := al 1 (some 3)
theorem test_AlarmAcknowledged :
    wAlarmAcknowledged0_s.bridleUp = true ∧ wAlarmAcknowledged0_s.busOpen 0 = true ∧ wAlarmAcknowledged0_s.steadyRecv 0 = true ∧
        wAlarmAcknowledged0_f.fdBrs = true ∧ frameField wAlarmAcknowledged0_f 17 12 ≠ wAlarmAcknowledged0_s.bridle.nodeId ∧
        (frameField wAlarmAcknowledged0_f 23 18 = wAlarmAcknowledged0_s.bridle.nodeId ∨ frameField wAlarmAcknowledged0_f 23 18 =
        63) ∧ frameField wAlarmAcknowledged0_f 11 8 = 4 ∧ wAlarmAcknowledged0_a ∈ wAlarmAcknowledged0_s.bridle.alarms ∧
        wAlarmAcknowledged0_a.pushed ≠ none ∧ ((List.map (fun (x : Alarm) => x.seq) wAlarmAcknowledged0_s.bridle.alarms).Nodup) := by
  decide +kernel

theorem test_Heartbeats :
    (W0.eff Obj.heartbeatPeriod ≠ 0)
    ∧ (W0.bridleUp = true)
    ∧ (W0.bridle.heartbeatAt + W0.eff Obj.heartbeatPeriod ≤ 5000)
    ∧ (W0.steadySend 0 = true)
    ∧ (W0.steadySend 1 = true)
    ∧ ((W0.eff Obj.heartbeatPeriod = 0 ∨ W0.bridleUp = false ∨ 0 < W0.bridle.heartbeatAt + W0.eff Obj.heartbeatPeriod)) := by
  and_intros <;> decide +kernel

def Wbus (st : Nat) (e : Nat) : State := { modes := { mode := .normal }, bridle := { busA := { tec := e, recv := 3, state := st } } }
def wBusErrors0_s : State := Wbus 0 120
def wBusErrors2_s : State := Wbus 2 256
theorem test_BusErrors :
    (wBusErrors0_s.modes.mgmtUp = true ∧ (wBusErrors0_s.eff Obj.busEnable).testBit 0 = true ∧ (wBusErrors0_s.bus 0).state ≠ 2)
    ∧ (wBusErrors2_s.modes.mgmtUp = true ∧ ((wBusErrors2_s.bus 0).state = 2 ∨ (wBusErrors2_s.eff Obj.busEnable).testBit 0 =
        false) ∧ (wBusErrors2_s.bus 0).state = 2) := by
  refine ⟨?_, ?_⟩ <;> decide +kernel

end Bridle

namespace Dict

def Wlk (l : List (Nat × Lock)) (now : Nat) : State := { time := { stride := now }, modes := { mode := .normal }, dict := { locks := l } }
def wDictionaryWrite0_index : BitVec 16 := BitVec.ofNat 16 (Obj.hostAreas/256)
def wDictionaryWrite0_sub : BitVec 8 := BitVec.ofNat 8 Obj.hostAreas
def wDictionaryWrite0_r : ObjRow := ((objRow Obj.hostAreas).getD dRow)
def wDictionaryWrite1_index : BitVec 16 := BitVec.ofNat 16 (Obj.gaitSwapCommit/256)
def wDictionaryWrite1_sub : BitVec 8 := BitVec.ofNat 8 Obj.gaitSwapCommit
theorem test_DictionaryWrite :
    (wDictionaryWrite0_index ≠ (4113 : BitVec 16) ∧ W0.accepts Level.board (wDictionaryWrite0_index.toNat * 256 +
        wDictionaryWrite0_sub.toNat) (BitVec.toNat (18 : Reg)) = true ∧ (State.own Level.board (wDictionaryWrite0_index.toNat *
        256 + wDictionaryWrite0_sub.toNat) (BitVec.toNat (18 : Reg)) 0 W0).fst = 0 ∧ Obj.hostAreas ∈ [Obj.lockTimeout,
        Obj.groomWatchdog, Obj.hostAreas, Obj.streamThreshold, Obj.heartbeatPeriod, Obj.alarmRepeat] ∧ objRow Obj.hostAreas =
        some wDictionaryWrite0_r ∧ W0.accepts Level.board Obj.hostAreas (BitVec.toNat (18 : Reg)) = true)
    ∧ (wDictionaryWrite1_index ≠ (4113 : BitVec 16) ∧ W0.accepts Level.board (wDictionaryWrite1_index.toNat * 256 +
        wDictionaryWrite1_sub.toNat) (BitVec.toNat (18 : Reg)) = true ∧ (State.own Level.board (wDictionaryWrite1_index.toNat *
        256 + wDictionaryWrite1_sub.toNat) (BitVec.toNat (18 : Reg)) 0 W0).fst ≠ 0) := by
  refine ⟨?_, ?_⟩ <;> decide +kernel

theorem test_DictionaryRefusal :
    (Ref.noObject ≠ 0)
    ∧ ((W0.checkWrite Level.board (BitVec.toNat (39321 : BitVec 16) * 256 + BitVec.toNat (3 : BitVec 8)) (BitVec.toNat (3 :
        Reg)) 0 = Ref.noObject ∨ W0.checkWrite Level.board (BitVec.toNat (39321 : BitVec 16) * 256 + BitVec.toNat (3 : BitVec
        8)) (BitVec.toNat (3 : Reg)) 0 = 0 ∧ W0.checkRange (BitVec.toNat (39321 : BitVec 16) * 256 + BitVec.toNat (3 : BitVec
        8)) (BitVec.toNat (3 : Reg)) = Ref.noObject)) := by
  refine ⟨?_, ?_⟩ <;> decide +kernel

def wDictionaryChecks1_r : ObjRow := ((objRow Obj.hostAreas).getD dRow)
def wDictionaryChecks3_r : ObjRow := ((objRow Obj.serial).getD dRow)
def wDictionaryChecks4_s : State := Wlk [(areaOf Obj.streamThreshold, { holder := some .groom })] 5
def wDictionaryChecks4_r : ObjRow := ((objRow Obj.streamThreshold).getD dRow)
theorem test_DictionaryChecks :
    (objRow 10066329 = none)
    ∧ (objRow Obj.hostAreas = some wDictionaryChecks1_r ∧ guestObject Obj.hostAreas = false ∧ wDictionaryChecks1_r.acc
        Level.guest = Acc.none)
    ∧ (objRow Obj.serial = some wDictionaryChecks3_r ∧ guestObject Obj.serial = false ∧ wDictionaryChecks3_r.acc Level.board =
        Acc.ro ∧ W0.modes.mode = Mode.normal ∧ Obj.serial ≠ Obj.swRaise)
    ∧ (objRow Obj.streamThreshold = some wDictionaryChecks4_r ∧ guestObject Obj.streamThreshold = false ∧
        wDictionaryChecks4_r.acc Level.board = Acc.rw ∧ wDictionaryChecks4_s.modes.mode = Mode.normal ∧ Obj.streamThreshold ≠
        Obj.swRaise ∧ lockFree Obj.streamThreshold = false ∧ (wDictionaryChecks4_s.lock (areaOf Obj.streamThreshold)).holder =
        some Level.groom ∧ Level.groom ≠ Level.board) := by
  refine ⟨?_, ?_, ?_, ?_⟩ <;> decide +kernel

def st (n : Nat) : List StagedWrite := List.replicate n ⟨.board, Obj.streamThreshold, 9⟩
def ar : Nat := areaOf Obj.streamThreshold
def wStagedWrites0_s : State := Wlk [(ar, { holder := some .board, staged := st 63 })] 5
def wStagedWrites1_s : State := Wlk [(ar, { holder := some .board, staged := st 64 })] 5
theorem test_StagedWrites :
    (wStagedWrites0_s.checkWrite Level.board (BitVec.toNat (12288 : BitVec 16) * 256 + BitVec.toNat (1 : BitVec 8))
        (BitVec.toNat (9 : Reg)) 0 = 0 ∧ wStagedWrites0_s.checkRange (BitVec.toNat (12288 : BitVec 16) * 256 + BitVec.toNat (1 :
        BitVec 8)) (BitVec.toNat (9 : Reg)) = 0 ∧ wStagedWrites0_s.stages Level.board (BitVec.toNat (12288 : BitVec 16) * 256 +
        BitVec.toNat (1 : BitVec 8)) = true ∧ (wStagedWrites0_s.lock (areaOf (BitVec.toNat (12288 : BitVec 16) * 256 +
        BitVec.toNat (1 : BitVec 8)))).staged.length < 64)
    ∧ (wStagedWrites1_s.checkWrite Level.board (BitVec.toNat (12288 : BitVec 16) * 256 + BitVec.toNat (1 : BitVec 8))
        (BitVec.toNat (9 : Reg)) 0 = 0 ∧ wStagedWrites1_s.checkRange (BitVec.toNat (12288 : BitVec 16) * 256 + BitVec.toNat (1 :
        BitVec 8)) (BitVec.toNat (9 : Reg)) = 0 ∧ wStagedWrites1_s.stages Level.board (BitVec.toNat (12288 : BitVec 16) * 256 +
        BitVec.toNat (1 : BitVec 8)) = true ∧ 64 ≤ (wStagedWrites1_s.lock (areaOf (BitVec.toNat (12288 : BitVec 16) * 256 +
        BitVec.toNat (1 : BitVec 8)))).staged.length) := by
  refine ⟨?_, ?_⟩ <;> decide +kernel

def wLocks0_s : State := Wlk [] 5
def wLocks1_s : State := Wlk [(3, { holder := some .board })] 5
def wLocks2_s : State := Wlk [(3, { holder := some .board })] 5000000
theorem test_Locks :
    (wLocks0_s.accepts Level.board (Obj.dictLock + 3) 1 = true ∧ (wLocks0_s.lock 3).holder = none ∧ wLocks0_s.accepts
        Level.board (Obj.dictLock + 3) 2 = true ∧ (wLocks0_s.lock 3).holder ≠ some Level.board ∧ wLocks0_s.accepts Level.board
        (Obj.dictLock + 3) 3 = true ∧ (wLocks0_s.lock 3).at_ + wLocks0_s.eff Obj.lockTimeout > wLocks0_s.now)
    ∧ (wLocks1_s.accepts Level.board (Obj.dictLock + 3) 1 = true ∧ (wLocks1_s.lock 3).holder ≠ none ∧ wLocks1_s.accepts
        Level.board (Obj.dictLock + 3) 2 = true ∧ (wLocks1_s.lock 3).holder = some Level.board ∧ (wLocks1_s.lock 3).committing =
        false ∧ wLocks1_s.accepts Level.board (Obj.dictLock + 3) 3 = true)
    ∧ ((wLocks2_s.lock 3).holder ≠ none ∧ (wLocks2_s.lock 3).committing = false ∧ (wLocks2_s.lock 3).at_ + wLocks2_s.eff
        Obj.lockTimeout ≤ wLocks2_s.now) := by
  refine ⟨?_, ?_, ?_⟩ <;> decide +kernel

def Wlc (w : Reg) : State := Wlk [(ar, { holder := some .board, committing := true, staged := [⟨.board, Obj.streamThreshold, 9⟩, ⟨.board, Obj.streamGap, w⟩] })] 5
def inl (s : State) : State := match State.applyStaged (s.lock ar).staged (s.setLock ar { result := 1 }) with | .inl u => u | _ => s
def inr (s : State) : StagedWrite × Nat := match State.applyStaged (s.lock ar).staged (s.setLock ar { result := 1 }) with | .inr u => u | _ => (⟨.board, 0, 0⟩, 0)
def wLockCommitApplies0_s : State := Wlc 2
def wLockCommitApplies0_area : Fin 16 := ⟨ar % 16, by decide⟩
def wLockCommitApplies0_u : State := inl (Wlc 2)
def wLockCommitApplies1_s : State := Wlk [] 5
def wLockCommitApplies1_area : Fin 16 := ⟨ar % 16, by decide⟩
def wLockCommitApplies2_s : State := Wlc 0xFFFFFFFF
def wLockCommitApplies2_area : Fin 16 := ⟨ar % 16, by decide⟩
def wLockCommitApplies2_x : StagedWrite := (inr (Wlc 0xFFFFFFFF)).1
def wLockCommitApplies2_c : Nat := (inr (Wlc 0xFFFFFFFF)).2
theorem test_LockCommitApplies :
    ((wLockCommitApplies0_s.lock wLockCommitApplies0_area.val).committing = true ∧ (wLockCommitApplies0_s.lock
        wLockCommitApplies0_area.val).at_ < wLockCommitApplies0_s.now ∧ State.applyStaged (wLockCommitApplies0_s.lock
        wLockCommitApplies0_area.val).staged (wLockCommitApplies0_s.setLock wLockCommitApplies0_area.val { result := 1 }) =
        Sum.inl wLockCommitApplies0_u ∧ wLockCommitApplies0_u.lock wLockCommitApplies0_area.val = { result := 1 } ∧ List.take
        wLockCommitApplies0_s.dict.pending.length wLockCommitApplies0_u.dict.pending = wLockCommitApplies0_s.dict.pending ∧
        (wLockCommitApplies0_s.lock wLockCommitApplies0_area.val).staged =
        [{ lvl := Level.board, key := Obj.streamThreshold, v := (9 : Reg) },
        { lvl := Level.board, key := Obj.streamGap, v := (2 : Reg) }] ∧ wLockCommitApplies0_s.checkRange Obj.streamThreshold
        (BitVec.toNat (9 : Reg)) = 0 ∧ wLockCommitApplies0_s.checkRange Obj.streamGap (BitVec.toNat (2 : Reg)) = 0)
    ∧ (((wLockCommitApplies1_s.lock wLockCommitApplies1_area.val).committing = false ∨ wLockCommitApplies1_s.now ≤
        (wLockCommitApplies1_s.lock wLockCommitApplies1_area.val).at_))
    ∧ ((wLockCommitApplies2_s.lock wLockCommitApplies2_area.val).committing = true ∧ (wLockCommitApplies2_s.lock
        wLockCommitApplies2_area.val).at_ < wLockCommitApplies2_s.now ∧ State.applyStaged (wLockCommitApplies2_s.lock
        wLockCommitApplies2_area.val).staged (wLockCommitApplies2_s.setLock wLockCommitApplies2_area.val { result := 1 }) =
        Sum.inr (wLockCommitApplies2_x, wLockCommitApplies2_c) ∧ (wLockCommitApplies2_s.lock
        wLockCommitApplies2_area.val).staged = [{ lvl := Level.board, key := Obj.streamThreshold, v := (9 : Reg) },
        { lvl := Level.board, key := Obj.streamGap, v := (4294967295 : Reg) }] ∧ wLockCommitApplies2_s.checkRange
        Obj.streamThreshold (BitVec.toNat (9 : Reg)) = 0 ∧ wLockCommitApplies2_s.checkRange Obj.streamGap (BitVec.toNat
        (4294967295 : Reg)) ≠ 0) := by
  refine ⟨?_, ?_, ?_⟩ <;> decide +kernel

end Dict

namespace Dict2

def Wlk' (l : List (Nat × Lock)) : State := { modes := { mode := .normal }, dict := { locks := l } }
def st' (n : Nat) : List StagedWrite := List.replicate n ⟨.board, Obj.streamThreshold, 9⟩
def Wv : State := withObjs [(Obj.hostAreas, 0xFFFF), (Obj.busIgnored, 7), (Obj.lockExpiries, 3)] { W0 with dict := { W0.dict with fallback := [(Obj.busIgnored, 70)], holding := [(Obj.busIgnored, 700)] } }
def wDictionaryReads0_r : ObjRow := ((objRow Obj.busIgnored).getD dRow)
theorem test_DictionaryReads :
    ((Wv.readObj Level.board (BitVec.toNat (39321 : BitVec 16) * 256 + BitVec.toNat (1 : BitVec 8)) View.live 0).fst ≠ 0)
    ∧ (Level.board ≠ Level.jtag)
    ∧ (Wv.modes.mode = Mode.normal)
    ∧ (Obj.busIgnored ∈ [Obj.dictRefusals, Obj.dictStoreErrors, Obj.lockExpiries, Obj.busIgnored])
    ∧ (objRow Obj.busIgnored = some wDictionaryReads0_r ∧ wDictionaryReads0_r.acc Level.board = Acc.rc ∧
        (wDictionaryReads0_r.acc Level.board = Acc.rc ∨ wDictionaryReads0_r.acc Level.board = Acc.ro) ∧ (View.live = View.live ∨
        View.live = View.peek ∨ View.live = View.fallback) ∧ Level.board ≠ Level.guest) := by
  refine ⟨?_, ?_, ?_, ?_, ?_⟩ <;> decide +kernel

def Wp (k : Nat) : State := withObjs [(Obj.hostAreas, 0xFFFF), (Obj.portSelect + 2, k)] W0
def wAccessPorts0_s : State := Wp (Obj.streamThreshold <<< 8)
def wAccessPorts2_s : State := Wp (Obj.portData <<< 8)
theorem test_AccessPorts :
    (wAccessPorts0_s.modes.mode = Mode.normal ∧ wAccessPorts0_s.eff Obj.hostAreas = 65535 ∧ (wAccessPorts0_s.lock 1).holder =
        none ∧ wAccessPorts0_s.portSelected 2 = (Obj.streamThreshold, View.live) ∧ isPortObject Obj.streamThreshold = false ∧
        (wAccessPorts0_s.readObj Level.host Obj.streamThreshold View.live 0).fst = 0 ∧ wAccessPorts0_s.accepts Level.host
        Obj.streamThreshold (BitVec.toNat (9 : Reg)) = true ∧ (State.own Level.host Obj.streamThreshold (BitVec.toNat (9 : Reg))
        0 wAccessPorts0_s).fst = 0)
    ∧ (wAccessPorts2_s.modes.mode = Mode.normal ∧ wAccessPorts2_s.eff Obj.hostAreas = 65535 ∧ (wAccessPorts2_s.lock 1).holder =
        none ∧ isPortObject Obj.portData = true ∧ wAccessPorts2_s.portSelected 2 = (Obj.portData, View.live)) := by
  refine ⟨?_, ?_⟩ <;> decide +kernel

def Wsn (c : Bool) : State := let s := withObjs [(Obj.hostAreas, 0xFFFF), (Obj.busIgnored, 7)] W0; (s.withTime { s.time with stride := 9 }).withDict { s.dict with snapTake := true, snapClear := c, snapAt := 8 }
def frz (c : Bool) : Frozen := { at_ := 8, clear := c, vals := [(Obj.busIgnored, 5)] }
def Wfz (c : Bool) : State := (Wsn c).withDict { (Wsn c).dict with snapTake := false, frozen := some (frz c) }
def wSnapshots0_s : State := withObjs [(Obj.hostAreas, 0xFFFF)] W0
def wSnapshots1_s : State := Wsn false
def wSnapshots3_s : State := Wfz false
def wSnapshots3_f : Frozen := frz false
theorem test_Snapshots :
    (wSnapshots0_s.accepts Level.board Obj.snapshotCommand 1 = true ∧ wSnapshots0_s.accepts Level.board Obj.snapshotCommand 2 =
        true ∧ wSnapshots0_s.dict.frozen = none)
    ∧ (wSnapshots1_s.dict.snapTake = true ∧ wSnapshots1_s.dict.snapAt < wSnapshots1_s.now)
    ∧ (wSnapshots3_s.dict.frozen = some wSnapshots3_f) := by
  refine ⟨?_, ?_, ?_⟩ <;> decide +kernel

def wStoreErrors0_s : State := withObjs [(Obj.stageStatus, 1)] (Wlk' [(3, { holder := some .board, staged := st' 2 })])
def wStoreErrors1_s : State := { withObjs [(Obj.gaitBankState + 3, 1)] W0 with gait := { banks := [(3, .image [])] } }
theorem test_StoreErrors :
    ((wStoreErrors0_s.lock 3).holder = some Level.board ∧ wStoreErrors0_s.obj Obj.stageStatus = (1 : Reg))
    ∧ (wStoreErrors1_s.checkingBank = none ∧ wStoreErrors1_s.loadingBank = some 3) := by
  refine ⟨?_, ?_⟩ <;> decide +kernel

end Dict2

namespace Gait

def Wg (o : List (Nat × Nat)) (g : Gait) (now : Nat := 5000) : State := withObjs o { time := { stride := BitVec.ofNat 64 now }, modes := { mode := .normal }, gait := g }
def bk (b st : Nat) : Nat × Nat := (Obj.gaitBankState + b, st)
def full : List (BitVec 64) := List.replicate 1736 0
/-- An image whose tag-slice rows hold Demand reads and writes by turns; domain-wide. -/
def dw : List (BitVec 64) := (List.range 1736).map fun i => if i = 2 then 0x1F00000000000000 else if i = 3 then 0x0000000100000000 + 0x3FFFF else if i = 4 then 0xFFFFFFFFFFFFFFFF else if 8 ≤ i ∧ i < 264 then 0x2010101020101010 else 0
def wGaitImageLoad0_s : State := Wg [] {}
def wGaitImageLoad1_s : State := Wg [bk 3 1, (Obj.gaitLoadBank, 3)] { banks := [(3, .image [5])] }
def wGaitImageLoad1_segs : List (BitVec 64) := [5]
def wGaitImageLoad2_s : State := Wg [bk 3 1, (Obj.gaitLoadBank, 3)] { banks := [(3, .image full)] }
def wGaitImageLoad3_s : State := Wg [bk 3 3, (Obj.gaitLoadBank, 3)] { banks := [(3, .image full)] }
theorem test_GaitImageLoad :
    (wGaitImageLoad0_s.accepts Level.board Obj.gaitLoadBank (BitVec.toNat (3 : Reg)) = true ∧ BitVec.toNat (3 : Reg) % 256 = 3 ∧
        wGaitImageLoad0_s.loadRuns = false ∧ wGaitImageLoad0_s.bankState 3 ≠ 4 ∧ wGaitImageLoad0_s.bankState 3 ≠ 5)
    ∧ (wGaitImageLoad1_s.accepts Level.board Obj.gaitLoadImage (BitVec.toNat (3 : Reg)) = true ∧ wGaitImageLoad1_s.loadingBank =
        some 3 ∧ Assoc.find? 3 wGaitImageLoad1_s.gait.banks = some (GaitSrc.image wGaitImageLoad1_segs) ∧
        wGaitImageLoad1_segs.length < 1736 ∧ wGaitImageLoad1_s.accepts Level.board Obj.gaitLoadCommand 1 = true ∧
        wGaitImageLoad1_s.accepts Level.board Obj.gaitLoadCommand 2 = true ∧ wGaitImageLoad1_s.checkingBank = none)
    ∧ (wGaitImageLoad2_s.accepts Level.board Obj.gaitLoadCommand 1 = true ∧ wGaitImageLoad2_s.loadingBank = some 3 ∧ Assoc.find?
        3 wGaitImageLoad2_s.gait.banks = some (GaitSrc.image full) ∧ 1736 ≤ full.length)
    ∧ (wGaitImageLoad3_s.accepts Level.board Obj.gaitLoadCommand 3 = true ∧ BitVec.toNat (wGaitImageLoad3_s.obj
        Obj.gaitLoadBank) = 3 ∧ (wGaitImageLoad3_s.bankState 3 = 2 ∨ wGaitImageLoad3_s.bankState 3 = 3)) := by
  refine ⟨?_, ?_, ?_, ?_⟩ <;> decide +kernel

def wGaitLoadRefusals0_s : State := Wg [bk 3 4] {}
def wGaitLoadRefusals1_s : State := Wg [bk 3 1] { banks := [(3, .image full)] }
theorem test_GaitLoadRefusals :
    (wGaitLoadRefusals0_s.accepts Level.board Obj.gaitLoadBank (BitVec.toNat (3 : Reg)) = true ∧ (wGaitLoadRefusals0_s.loadRuns
        = true ∨ BitVec.toNat (3 : Reg) % 256 = 0 ∨ wGaitLoadRefusals0_s.bankState (BitVec.toNat (3 : Reg) % 256) = 4 ∨
        wGaitLoadRefusals0_s.bankState (BitVec.toNat (3 : Reg) % 256) = 5) ∧ wGaitLoadRefusals0_s.accepts Level.board
        Obj.gaitLoadImage (BitVec.toNat (3 : Reg)) = true ∧ wGaitLoadRefusals0_s.loadingBank = none ∧
        wGaitLoadRefusals0_s.accepts Level.board Obj.gaitLoadCommand 1 = true)
    ∧ (wGaitLoadRefusals1_s.accepts Level.board Obj.gaitLoadImage (BitVec.toNat (3 : Reg)) = true ∧
        wGaitLoadRefusals1_s.loadingBank = some 3 ∧ Assoc.find? 3 wGaitLoadRefusals1_s.gait.banks = some (GaitSrc.image full) ∧
        1736 ≤ full.length) := by
  refine ⟨?_, ?_⟩ <;> decide +kernel

def wGaitCheckEnds0_s : State := Wg [bk 3 6, (Obj.gaitLoadBank, 3)] { banks := [(3, .image full)], loadDue := some 7 }
theorem test_GaitCheckEnds :
    wGaitCheckEnds0_s.checkingBank = some 3 ∧ Assoc.find? 3 wGaitCheckEnds0_s.gait.banks = some (GaitSrc.image full) := by
  decide +kernel

def rom : GaitSrc := .rom false 3
def wGaitArm0_s : State := Wg [] {}
def wGaitArm1_s : State := { Wg [] {} with modes := { mode := .rest } }
def wGaitArm2_s : State := Wg [(Obj.gaitSwapState, 2)] {}
def wGaitArm3_s : State := Wg [bk 3 2, (Obj.gaitSwapState, 1), (Obj.memSpeed, 3), (Obj.gaitBankSpeed + 3, 3)] { banks := [(3, rom)], armBank := some 3, armAt := 4998 }
def wGaitArm4_s : State := Wg [bk 3 2, (Obj.gaitActive, 0), (Obj.gaitSwapState, 1), (Obj.memSpeed, 3), (Obj.gaitBankSpeed + 3, 2)] { banks := [(0, rom), (3, rom)], armBank := some 3, armAt := 4998 }
theorem test_GaitArm :
    (wGaitArm0_s.accepts Level.board Obj.gaitSelect (BitVec.toNat (3 : Reg)) = true ∧ BitVec.toNat (3 : Reg) % 256 = 3 ∧
        wGaitArm0_s.modes.mode.service = true ∧ wGaitArm0_s.obj Obj.gaitSwapState = (0 : Reg))
    ∧ (wGaitArm1_s.accepts Level.board Obj.gaitSelect (BitVec.toNat (3 : Reg)) = true ∧ wGaitArm1_s.modes.mode.service = false)
    ∧ (wGaitArm2_s.accepts Level.board Obj.gaitSelect (BitVec.toNat (3 : Reg)) = true ∧ wGaitArm2_s.modes.mode.service = true ∧
        wGaitArm2_s.obj Obj.gaitSwapState ≠ (0 : Reg))
    ∧ (wGaitArm3_s.gait.armBank = some 3 ∧ wGaitArm3_s.obj Obj.gaitSwapState = (1 : Reg) ∧ wGaitArm3_s.gait.armAt + 2 ≤
        wGaitArm3_s.now ∧ wGaitArm3_s.armChecks 3 = none)
    ∧ (wGaitArm4_s.gait.armBank = some 3 ∧ wGaitArm4_s.obj Obj.gaitSwapState = (1 : Reg) ∧ wGaitArm4_s.gait.armAt + 2 ≤
        wGaitArm4_s.now ∧ wGaitArm4_s.armChecks 3 = some 6 ∧ wGaitArm4_s.bankState 3 ≠ 5 ∧ wGaitArm4_s.heldParts = []) := by
  refine ⟨?_, ?_, ?_, ?_, ?_⟩ <;> decide +kernel

def Wc (g : GaitSrc) : State := Wg [bk 3 5, (Obj.gaitActive, 0), (Obj.gaitSwapState, 2), (Obj.memSpeed, 3), (Obj.gaitBankSpeed + 3, 3)] { banks := [(0, rom), (3, g)], armBank := some 3, armAt := 4998 }
def wGaitCommit0_s : State := Wc rom
def wGaitCommit2_s : State := { Wc (.image dw) with time := { stride := 5118 } }
def wGaitCommit2_g : GaitSrc := .image dw
def wGaitCommit3_s : State := Wc rom
def wGaitCommit4_s : State := Wg [] {}
def wGaitCommit5_s : State := Wg [(Obj.gaitSwapState, 3)] { armBank := some 3 }
theorem test_GaitCommit :
    (wGaitCommit0_s.accepts Level.board Obj.gaitSwapCommit (BitVec.toNat (23043 : Reg)) = true ∧ wGaitCommit0_s.gait.armBank =
        some 3 ∧ wGaitCommit0_s.obj Obj.gaitSwapState = (2 : Reg) ∧ wGaitCommit0_s.gait.switchAt = none ∧ BitVec.toNat (23043 :
        Reg) % 65536 = 23040 + 3 ∧ Assoc.find? 3 wGaitCommit0_s.gait.banks = some rom ∧ (rom.domainWide = true →
        wGaitCommit0_s.epochPhase < 1020))
    ∧ (wGaitCommit2_s.accepts Level.board Obj.gaitSwapCommit (BitVec.toNat (23043 : Reg)) = true ∧ wGaitCommit2_s.gait.armBank =
        some 3 ∧ wGaitCommit2_s.obj Obj.gaitSwapState = (2 : Reg) ∧ wGaitCommit2_s.gait.switchAt = none ∧ Assoc.find? 3
        wGaitCommit2_s.gait.banks = some wGaitCommit2_g ∧ wGaitCommit2_g.domainWide = true ∧ 1020 ≤ wGaitCommit2_s.epochPhase)
    ∧ (wGaitCommit3_s.accepts Level.board Obj.gaitSwapCommit (BitVec.toNat (23044 : Reg)) = true ∧ wGaitCommit3_s.gait.armBank =
        some 3 ∧ wGaitCommit3_s.obj Obj.gaitSwapState = (2 : Reg) ∧ wGaitCommit3_s.gait.switchAt = none ∧ BitVec.toNat (23044 :
        Reg) % 65536 ≠ 23040 + 3)
    ∧ (wGaitCommit4_s.accepts Level.board Obj.gaitSwapCommit (BitVec.toNat (23044 : Reg)) = true ∧ wGaitCommit4_s.gait.armBank =
        none)
    ∧ (wGaitCommit5_s.accepts Level.board Obj.gaitSwapCommit (BitVec.toNat (23044 : Reg)) = true ∧ wGaitCommit5_s.gait.armBank =
        some 3 ∧ (wGaitCommit5_s.obj Obj.gaitSwapState ≠ (2 : Reg) ∨ wGaitCommit5_s.gait.switchAt.isSome = true)) := by
  refine ⟨?_, ?_, ?_, ?_, ?_⟩ <;> decide +kernel

def wGaitSwitchOrTimeout0_s : State := Wg [bk 3 5, bk 0 4, (Obj.gaitActive, 0)] { banks := [(0, rom), (3, rom)], armBank := some 3, switchAt := some 5001 }
def wGaitSwitchOrTimeout1_s : State := Wg [bk 3 5, bk 0 4, (Obj.gaitActive, 0), (Obj.gaitSwapState, 3)] { banks := [(0, rom), (3, rom)], armBank := some 3, switchAt := some 5000, shadow := [3, 3, 3] }
def wGaitSwitchOrTimeout2_s : State := Wg [bk 3 5, bk 0 4, (Obj.gaitActive, 0), (Obj.gaitSwapState, 2), (Obj.gaitArmStride, 3976)] { banks := [(0, rom), (3, rom)], armBank := some 3 }
theorem test_GaitSwitchOrTimeout :
    (wGaitSwitchOrTimeout0_s.gait.armBank = some 3 ∧ wGaitSwitchOrTimeout0_s.gait.switchAt = some (wGaitSwitchOrTimeout0_s.now +
        1))
    ∧ (wGaitSwitchOrTimeout1_s.gait.armBank = some 3 ∧ wGaitSwitchOrTimeout1_s.gait.switchAt = some 5000 ∧ 5000 ≤
        wGaitSwitchOrTimeout1_s.now ∧ wGaitSwitchOrTimeout1_s.obj Obj.gaitSwapState = (3 : Reg) ∧
        wGaitSwitchOrTimeout1_s.gait.shadow = [3, 3, 3] ∧ BitVec.toNat (wGaitSwitchOrTimeout1_s.obj Obj.gaitActive) = 0)
    ∧ (wGaitSwitchOrTimeout2_s.gait.armBank = some 3 ∧ wGaitSwitchOrTimeout2_s.obj Obj.gaitSwapState = (2 : Reg) ∧
        wGaitSwitchOrTimeout2_s.gait.switchAt = none ∧ BitVec.toNat (wGaitSwitchOrTimeout2_s.obj Obj.gaitArmStride) + 1024 ≤
        wGaitSwitchOrTimeout2_s.now ∧ wGaitSwitchOrTimeout2_s.bankState 3 = 5 ∧ wGaitSwitchOrTimeout2_s.heldParts = []) := by
  refine ⟨?_, ?_, ?_⟩ <;> decide +kernel

end Gait

namespace Groom

def gr (slot : Slot := .none) (st : BitVec 32 := 0) : Groom := { run := .running, pc := 0x100, slot := slot, status := st, tvec := 0x1000, regs := (Vector.replicate 32 0).set 2 0x10000040 |>.set 3 0x80000007 |>.set 4 0x1234 |>.set 30 0x200 |>.set 5 0x10000041 |>.set 6 0x40800101, dsram := [(0x10000040, 0x81), (0x10000041, 0xFE), (0x10000044, 7)] }
def WG (g : Groom) (o : List (Nat × Nat) := []) : State := (Wn o {}).withGroom g
def wGroomRegisterInstructions0_s : State := WG (gr)
theorem test_GroomRegisterInstructions :
    wGroomRegisterInstructions0_s.groomReady = true := by
  decide +kernel

end Groom

namespace Groom2

def gr (slot : Slot := .none) (st : BitVec 32 := 0) : Groom := { run := .running, pc := 0x100, slot := slot, status := st, tvec := 0x1000, epc := 0x44, regs := (Vector.replicate 32 0).set 2 0x10000040 |>.set 3 0x80000007 |>.set 4 0x1234 |>.set 30 0x200 |>.set 5 0x10000041 |>.set 6 0x40000000, dsram := [(0x10000040, 0x81), (0x10000041, 0xFE), (0x10000044, 7)] }
def WG (g : Groom) (o : List (Nat × Nat) := []) : State := (Wn o {}).withGroom g
def wGroomLoads0_s : State := WG (gr)
theorem test_GroomLoads :
    wGroomLoads0_s.groomReady = true ∧ 268435456 ≤ BitVec.toNat (wGroomLoads0_s.greg (2 : GReg) + BitVec.signExtend 32 (0 :
        BitVec 17)) ∧ BitVec.toNat (wGroomLoads0_s.greg (2 : GReg) + BitVec.signExtend 32 (0 : BitVec 17)) < 268566528 ∧
        BitVec.toNat (wGroomLoads0_s.greg (2 : GReg) + BitVec.signExtend 32 (0 : BitVec 17)) % 4 = 0 ∧ BitVec.toNat
        (wGroomLoads0_s.greg (2 : GReg) + BitVec.signExtend 32 (0 : BitVec 17)) % 2 = 0 ∧ BitVec.toNat (wGroomLoads0_s.greg (2 :
        GReg) + BitVec.signExtend 32 (0 : BitVec 17)) % 8 = 0 ∧ ↑(8 : GReg) % 2 = 0 := by
  decide +kernel

def wGroomStores0_s : State := WG (gr)
theorem test_GroomStores :
    wGroomStores0_s.groomReady = true ∧ Memory.wf wGroomStores0_s.groom.dsram = true ∧ 268435456 ≤ BitVec.toNat
        (wGroomStores0_s.greg (2 : GReg) + BitVec.signExtend 32 (8 : BitVec 17)) ∧ BitVec.toNat (wGroomStores0_s.greg (2 : GReg)
        + BitVec.signExtend 32 (8 : BitVec 17)) < 268566528 ∧ BitVec.toNat (wGroomStores0_s.greg (2 : GReg) + BitVec.signExtend
        32 (8 : BitVec 17)) % 4 = 0 ∧ BitVec.toNat (wGroomStores0_s.greg (2 : GReg) + BitVec.signExtend 32 (8 : BitVec 17)) % 2
        = 0 ∧ BitVec.toNat (wGroomStores0_s.greg (2 : GReg) + BitVec.signExtend 32 (8 : BitVec 17)) % 8 = 0 ∧ ↑(4 : GReg) % 2 =
        0 := by
  decide +kernel

def wGroomTraps0_s : State := WG (gr)
def wGroomTraps1_s : State := WG (gr)
def wGroomTraps2_s : State := WG (gr (.taken 0xFC 0x300))
def wGroomTraps3_s : State := WG { gr with pc := 0x102 }
def wGroomTraps4_s : State := WG gr
def wGroomTraps5_s : State := WG gr
theorem test_GroomTraps :
    (wGroomTraps0_s.groom.run = GroomRun.running ∧ wGroomTraps0_s.groom.status.getLsbD 0 = false ∧ wGroomTraps0_s.groomReady =
        true ∧ 268435456 ≤ BitVec.toNat (wGroomTraps0_s.greg (2 : GReg) + BitVec.signExtend 32 (0 : BitVec 17)) ∧ BitVec.toNat
        (wGroomTraps0_s.greg (2 : GReg) + BitVec.signExtend 32 (0 : BitVec 17)) < 268566528 ∧ BitVec.toNat (wGroomTraps0_s.greg
        (2 : GReg) + BitVec.signExtend 32 (0 : BitVec 17)) % 4 = 0 ∧ BitVec.toNat (wGroomTraps0_s.greg (2 : GReg) +
        BitVec.signExtend 32 (0 : BitVec 17)) % 2 = 0 ∧ ↑(7 : GReg) % 2 = 1)
    ∧ (wGroomTraps1_s.groom.run = GroomRun.running ∧ wGroomTraps1_s.groom.status.getLsbD 0 = false ∧ wGroomTraps1_s.groomReady =
        true ∧ 268435456 ≤ BitVec.toNat (wGroomTraps1_s.greg (2 : GReg) + BitVec.signExtend 32 (0 : BitVec 17)) ∧ BitVec.toNat
        (wGroomTraps1_s.greg (2 : GReg) + BitVec.signExtend 32 (0 : BitVec 17)) < 268566528 ∧ ↑(8 : GReg) % 2 = 0 ∧ BitVec.toNat
        (wGroomTraps1_s.greg (2 : GReg) + BitVec.signExtend 32 (0 : BitVec 17)) % 8 = 0)
    ∧ (wGroomTraps2_s.groom.run = GroomRun.running ∧ wGroomTraps2_s.groom.status.getLsbD 0 = false ∧ wGroomTraps2_s.groomReady =
        true ∧ (¬(268435456 ≤ BitVec.toNat (wGroomTraps2_s.greg (3 : GReg) + BitVec.signExtend 32 (0 : BitVec 17)) ∧
        BitVec.toNat (wGroomTraps2_s.greg (3 : GReg) + BitVec.signExtend 32 (0 : BitVec 17)) < 268566528)) ∧ (¬(1073741824 ≤
        BitVec.toNat (wGroomTraps2_s.greg (3 : GReg) + BitVec.signExtend 32 (0 : BitVec 17)) ∧ BitVec.toNat (wGroomTraps2_s.greg
        (3 : GReg) + BitVec.signExtend 32 (0 : BitVec 17)) < 1610612736)) ∧ wGroomTraps2_s.groom.slot ≠ Slot.none)
    ∧ (wGroomTraps3_s.groom.run = GroomRun.running ∧ wGroomTraps3_s.groom.status.getLsbD 0 = false ∧
        (wGroomTraps3_s.groom.pc.toNat % 4 ≠ 0 ∨ 131072 ≤ wGroomTraps3_s.groom.pc.toNat))
    ∧ (wGroomTraps4_s.groom.run = GroomRun.running ∧ wGroomTraps4_s.groom.status.getLsbD 0 = false ∧ wGroomTraps4_s.groomReady =
        true ∧ 268435456 ≤ BitVec.toNat (wGroomTraps4_s.greg (5 : GReg) + BitVec.signExtend 32 (0 : BitVec 17)) ∧ BitVec.toNat
        (wGroomTraps4_s.greg (5 : GReg) + BitVec.signExtend 32 (0 : BitVec 17)) < 268566528 ∧ BitVec.toNat (wGroomTraps4_s.greg
        (5 : GReg) + BitVec.signExtend 32 (0 : BitVec 17)) % 4 ≠ 0 ∧ BitVec.toNat (wGroomTraps4_s.greg (5 : GReg) +
        BitVec.signExtend 32 (0 : BitVec 17)) % 2 ≠ 0 ∧ BitVec.toNat (wGroomTraps4_s.greg (5 : GReg) + BitVec.signExtend 32 (0 :
        BitVec 17)) % 8 ≠ 0)
    ∧ (wGroomTraps5_s.groom.run = GroomRun.running ∧ wGroomTraps5_s.groom.status.getLsbD 0 = false ∧ wGroomTraps5_s.groomReady =
        true ∧ 1073741824 ≤ BitVec.toNat (wGroomTraps5_s.greg (6 : GReg) + BitVec.signExtend 32 (3 : BitVec 17)) ∧ BitVec.toNat
        (wGroomTraps5_s.greg (6 : GReg) + BitVec.signExtend 32 (3 : BitVec 17)) < 1610612736 ∧ BitVec.toNat (wGroomTraps5_s.greg
        (6 : GReg) + BitVec.signExtend 32 (3 : BitVec 17)) % 8 ≠ 0) := by
  refine ⟨?_, ?_, ?_, ?_, ?_, ?_⟩ <;> decide +kernel

def wGroomBranches0_s : State := WG (gr)
theorem test_GroomBranches :
    wGroomBranches0_s.groomFree = true := by
  decide +kernel

def wGroomJumps0_s : State := WG (gr)
theorem test_GroomJumps :
    wGroomJumps0_s.groomFree = true ∧ BitVec.toNat (wGroomJumps0_s.greg (4 : GReg)) % 4 = 0 ∧ (4 : GReg) ≠ (30 : GReg) ∧
        BitVec.toNat (wGroomJumps0_s.greg (30 : GReg)) % 4 = 0 := by
  decide +kernel

def wGroomSystem0_s : State := WG gr
def wGroomSystem1_s : State := WG gr [(Obj.groomDebugAllow, 1)]
theorem test_GroomSystem :
    (wGroomSystem0_s.groomReady = true ∧ wGroomSystem0_s.groom.status.getLsbD 0 = false ∧ wGroomSystem0_s.groomFree = true)
    ∧ (wGroomSystem1_s.groomReady = true ∧ wGroomSystem1_s.debugOn = true) := by
  refine ⟨?_, ?_⟩ <;> decide +kernel

def enc (i : Instr) : GWord := (groomEncode i).getD 0
def wGroomAnnulled0_s : State := WG (gr (.annulled 0xFC))
def wGroomAnnulled0_i : Instr := .add 3 4 5
def wGroomAnnulled0_w : GWord := enc (.add 3 4 5)
def wGroomAnnulled2_s : State := WG { gr with run := .halted }
def wGroomAnnulled2_i : Instr := .trap 5
def wGroomAnnulled2_w : GWord := enc (.trap 5)
theorem test_GroomAnnulled :
    (groomEncode wGroomAnnulled0_i = some wGroomAnnulled0_w ∧ wGroomAnnulled0_s.groom.run = GroomRun.running ∧
        wGroomAnnulled0_s.groom.pc.toNat % 4 = 0 ∧ wGroomAnnulled0_s.groom.pc.toNat < 131072 ∧ wGroomAnnulled0_s.groom.slot =
        Slot.annulled (252 : BitVec 32))
    ∧ (groomEncode wGroomAnnulled2_i = some wGroomAnnulled2_w ∧ wGroomAnnulled2_s.groom.run ≠ GroomRun.running) := by
  refine ⟨?_, ?_⟩ <;> decide +kernel

def wGroomRoundTrip0_i : Instr := .ldx 4 5 6 true
def wGroomRoundTrip0_w : GWord := enc (.ldx 4 5 6 true)
theorem test_GroomRoundTrip :
    groomEncode wGroomRoundTrip0_i = some wGroomRoundTrip0_w := by
  decide +kernel

/-- A state and operands that meet the hypotheses of GroomWindow: n6 points to the window's first location. -/
theorem test_GroomWindow :
    (WG gr).groomReady = true
    ∧ (8 : GReg).val % 2 = 0
    ∧ 0x40000000 ≤ ((WG gr).greg 6 + (0 : BitVec 17).signExtend 32).toNat
    ∧ ((WG gr).greg 6 + (0 : BitVec 17).signExtend 32).toNat < 0x60000000
    ∧ ((WG gr).greg 6 + (0 : BitVec 17).signExtend 32).toNat % 8 = 0
    ∧ (WG gr).checkWrite .groom 0x210418 0 0 ≠ 0 := by
  decide +kernel

end Groom2

namespace Groom3

def WG (g : Groom) (o : List (Nat × Nat) := []) : State := (Wn o {}).withGroom g
def wImageStaging0_s : State := WG {}
def wImageStaging1_s : State := WG { stage := [5] } [(Obj.stageStatus, 1)]
theorem test_ImageStaging :
    (wImageStaging0_s.accepts Level.board Obj.stageCommand 1 = true ∧ wImageStaging0_s.groom.run ≠ GroomRun.authenticating ∧
        wImageStaging0_s.accepts Level.board Obj.stageImage (BitVec.toNat (5 : Reg)) = true ∧ wImageStaging0_s.obj
        Obj.stageStatus ≠ (1 : Reg) ∧ wImageStaging0_s.accepts Level.board Obj.stageCommand 2 = true ∧ wImageStaging0_s.accepts
        Level.board Obj.stageCommand 3 = true)
    ∧ (wImageStaging1_s.accepts Level.board Obj.stageImage (BitVec.toNat (5 : Reg)) = true ∧ wImageStaging1_s.obj
        Obj.stageStatus = (1 : Reg) ∧ wImageStaging1_s.groom.stage.length < 32832 ∧ wImageStaging1_s.accepts Level.board
        Obj.stageCommand 2 = true) := by
  refine ⟨?_, ?_⟩ <;> decide +kernel

/-- A header in form, of an image of one instruction segment. -/
def shp : List (BitVec 64) := [BitVec.ofNat 64 (0x4D4F5247 + 1 * 2 ^ 40 + 512 * 2 ^ 48), BitVec.ofNat 64 8] ++ List.replicate 63 0
def wImageCheckEnds0_s : State := WG { stage := shp } [(Obj.stageStatus, 2)]
def wImageCheckEnds1_s : State := WG { stage := [] } [(Obj.stageStatus, 2)]
theorem test_ImageCheckEnds :
    (wImageCheckEnds0_s.obj Obj.stageStatus = (2 : Reg) ∧ imageShape wImageCheckEnds0_s.groom.stage = true ∧
        wImageCheckEnds0_s.fuse.keyHash = none)
    ∧ (wImageCheckEnds1_s.obj Obj.stageStatus = (2 : Reg) ∧ imageShape wImageCheckEnds1_s.groom.stage = false) := by
  refine ⟨?_, ?_⟩ <;> decide +kernel

def lkd (s : State) : State := s.withDict { s.dict with locks := [(3, { holder := some .groom }), (4, { holder := some .host })] }
def wGroomRestarts0_s : State := lkd (WG { run := .running, dog := 3, restarts := 3 })
def wGroomRestarts1_s : State := lkd (WG { run := .running, dog := 5000, restarts := 3 })
def wGroomRestarts2_s : State := WG { run := .running, dog := 5000, haltWanted := true }
theorem test_GroomRestarts :
    (wGroomRestarts0_s.accepts Level.board Obj.groomCommand 1 = true ∧ Level.board ≠ Level.groom ∧ wGroomRestarts0_s.accepts
        Level.board Obj.groomCommand 2 = true)
    ∧ (wGroomRestarts1_s.groom.run = GroomRun.running ∧ wGroomRestarts1_s.eff Obj.groomWatchdog ≤ wGroomRestarts1_s.groom.dog ∧
        wGroomRestarts1_s.groom.haltWanted = false)
    ∧ (wGroomRestarts2_s.groom.run = GroomRun.running ∧ wGroomRestarts2_s.eff Obj.groomWatchdog ≤ wGroomRestarts2_s.groom.dog ∧
        wGroomRestarts2_s.groom.haltWanted = true) := by
  refine ⟨?_, ?_, ?_⟩ <;> decide +kernel

def wGroomImageLoads0_s : State := WG { run := .loading }
def wGroomImageLoads1_s : State := WG { run := .authenticating, stage := shp }
theorem test_GroomImageLoads :
    (wGroomImageLoads0_s.groom.run = GroomRun.loading)
    ∧ (wGroomImageLoads1_s.groom.run = GroomRun.authenticating) := by
  and_intros <;> decide +kernel

def dbg : List (Nat × Nat) := [(Obj.groomDebugAllow, 1)]
/-- The I-SRAM with these words from address 0 on. -/
def prog (l : List Instr) : List Host.Cell :=
  ((l.map fun i => ((groomEncode i).getD 0).toNat).zipIdx.flatMap fun x => (List.range 4).filterMap fun b =>
    let v := BitVec.ofNat 8 (x.1 / 256 ^ b); if v = 0 then none else some (4 * x.2 + b, v))
def hlt (l : List Instr) : State := WG { run := .halted, isram := prog l } dbg
def sub0 (s : State) : State := s.clockStarts.withGroom { s.clockStarts.groom with run := .running, breaks := [] }
def u1 (i : Instr) (s : State) : State := nextOf (exec i (sub0 s)) s
def addi3 : Instr := .addi 3 4 5
def jmp7 : Instr := .jmp 7
def wGroomDebugPort0_s : State := WG {}
def wGroomDebugPort1_s : State := WG { run := .running } dbg
def wGroomDebugPort2_s : State := WG { run := .running, slot := .fall 4 } dbg
def wGroomDebugPort3_s : State := WG { run := .waite } dbg
def wGroomDebugPort4_s : State := hlt [addi3]
def wGroomDebugPort4_u : State := u1 addi3 (hlt [addi3])
def wGroomDebugPort5_s : State := hlt [jmp7, addi3]
def wGroomDebugPort5_u : State := u1 jmp7 (hlt [jmp7, addi3])
def wGroomDebugPort5_v : State := nextOf (exec addi3 (u1 jmp7 (hlt [jmp7, addi3]))) (WG {})
theorem test_GroomDebugPort :
    (wGroomDebugPort0_s.debugOn = false)
    ∧ (wGroomDebugPort1_s.debugOn = true ∧ wGroomDebugPort1_s.groom.run = GroomRun.running ∧ wGroomDebugPort1_s.groom.slot =
        Slot.none)
    ∧ (wGroomDebugPort2_s.debugOn = true ∧ wGroomDebugPort2_s.groom.run = GroomRun.running ∧ wGroomDebugPort2_s.groom.slot ≠
        Slot.none)
    ∧ (wGroomDebugPort3_s.debugOn = true ∧ wGroomDebugPort3_s.groom.run = GroomRun.waite)
    ∧ (wGroomDebugPort4_s.debugOn = true ∧ wGroomDebugPort4_s.groom.run = GroomRun.halted ∧ groomDecode
        (wGroomDebugPort4_s.groomWord wGroomDebugPort4_s.groom.pc) = some addi3 ∧ (wGroomDebugPort4_u.groom.run ≠
        GroomRun.running ∨ wGroomDebugPort4_u.groom.slot = Slot.none) ∧ wGroomDebugPort4_s.groom.haltWanted = false ∧
        wGroomDebugPort4_s.groom.pc.toNat % 4 = 0 ∧ wGroomDebugPort4_s.groom.pc.toNat < 131072 ∧ wGroomDebugPort4_s.groom.slot =
        Slot.none ∧ groomDecode (wGroomDebugPort4_s.groomWord wGroomDebugPort4_s.groom.pc) = some (Instr.addi (3 : GReg) (4 :
        GReg) (5 : BitVec 17)))
    ∧ (wGroomDebugPort5_s.debugOn = true ∧ wGroomDebugPort5_s.groom.run = GroomRun.halted ∧ groomDecode
        (wGroomDebugPort5_s.groomWord wGroomDebugPort5_s.groom.pc) = some jmp7 ∧ wGroomDebugPort5_u.groom.run = GroomRun.running
        ∧ wGroomDebugPort5_u.groom.slot ≠ Slot.none ∧ groomDecode (wGroomDebugPort5_u.groomWord wGroomDebugPort5_u.groom.pc) =
        some addi3)
    ∧ (exec addi3 (wGroomDebugPort4_s.clockStarts.withGroom (have __src := wGroomDebugPort4_s.clockStarts.groom;
        { run := GroomRun.running, haltWanted := __src.haltWanted, regs := __src.regs, pc := __src.pc, slot := __src.slot, status := __src.status, epc := __src.epc, cause := __src.cause, tvec := __src.tvec, badaddr := __src.badaddr, dstat := __src.dstat, strideHi := __src.strideHi, cycle := __src.cycle, spent := __src.spent, lost := __src.lost, brCount := __src.brCount, brMiss := __src.brMiss, retCount := __src.retCount, retMiss := __src.retMiss, overruns := __src.overruns, stack := __src.stack, top := __src.top, isram := __src.isram, dsram := __src.dsram, missed := __src.missed, dog := __src.dog, restarts := __src.restarts, waitReg := __src.waitReg, stage := __src.stage, stageDue := __src.stageDue, loadStaged := __src.loadStaged }))
        = Host.Outcome.next wGroomDebugPort4_u)
    ∧ (exec jmp7 (wGroomDebugPort5_s.clockStarts.withGroom (have __src := wGroomDebugPort5_s.clockStarts.groom;
        { run := GroomRun.running, haltWanted := __src.haltWanted, regs := __src.regs, pc := __src.pc, slot := __src.slot, status := __src.status, epc := __src.epc, cause := __src.cause, tvec := __src.tvec, badaddr := __src.badaddr, dstat := __src.dstat, strideHi := __src.strideHi, cycle := __src.cycle, spent := __src.spent, lost := __src.lost, brCount := __src.brCount, brMiss := __src.brMiss, retCount := __src.retCount, retMiss := __src.retMiss, overruns := __src.overruns, stack := __src.stack, top := __src.top, isram := __src.isram, dsram := __src.dsram, missed := __src.missed, dog := __src.dog, restarts := __src.restarts, waitReg := __src.waitReg, stage := __src.stage, stageDue := __src.stageDue, loadStaged := __src.loadStaged }))
        = Host.Outcome.next wGroomDebugPort5_u)
    ∧ (exec addi3 wGroomDebugPort5_u = Host.Outcome.next wGroomDebugPort5_v) := by
  refine ⟨?_, ?_, ?_, ?_, ?_, ?_, ?_, ?_, ?_⟩
  · decide +kernel
  · decide +kernel
  · decide +kernel
  · decide +kernel
  · decide +kernel
  · decide +kernel
  · rfl
  · rfl
  · rfl

def tp : State := WG {} dbg
def xs : GWord × State := (tp.special 3).getD (0, WG {})
set_option maxRecDepth 10000
def wTapInstructions1_s : State := { WG {} with modes := { mode := .keep } }
def wTapInstructions1_cells : List Bool := [true, false]
def wTapInstructions2_s : State := { WG {} with modes := { mode := .test } }
theorem test_TapInstructions :
    (tp.modes.mode ≠ Mode.off)
    ∧ (tp.modes.mode ≠ Mode.keep)
    ∧ (tp.modes.mode ≠ Mode.reset)
    ∧ (tp.modes.mode ≠ Mode.test)
    ∧ (tp.debugOn = true)
    ∧ (tp.special 3 = some xs)
    ∧ (268435456 ≤ BitVec.toNat (268435520 : BitVec 32))
    ∧ (BitVec.toNat (268435520 : BitVec 32) < 268566528)
    ∧ ((wTapInstructions1_s.modes.mode = Mode.off ∨ wTapInstructions1_s.modes.mode = Mode.keep) ∧ Instr.idcode ∈ [Instr.idcode,
        Instr.samplePreload wTapInstructions1_cells, Instr.extest wTapInstructions1_cells, Instr.clamp, Instr.highz,
        Instr.bypass true, Instr.tapReset, Instr.dictRead (12288 : BitVec 16) (1 : BitVec 8), Instr.groomDebug
        DebugOp.readState, Instr.groomDebug DebugOp.readPc])
    ∧ (wTapInstructions2_s.modes.mode ≠ Mode.off ∧ wTapInstructions2_s.modes.mode ≠ Mode.keep ∧ (wTapInstructions2_s.modes.mode
        = Mode.reset ∨ wTapInstructions2_s.modes.mode = Mode.test)) := by
  refine ⟨?_, ?_, ?_, ?_, ?_, ?_, ?_, ?_, ?_, ?_⟩ <;> decide +kernel

end Groom3

namespace Home

def rq (op : Nat) : Req := { opcode := BitVec.ofNat 6 op, stream := 3, tag := 77, addr := 0x80000 }
def tx (op : Nat) (h : Option Nat := some 5) : Txn :=
  { id := 9, slice := 8, tracker := some 4, half := h, req := rq op, line := 0x1000, phase := .active, record := some (.shared, 6, 0x40) }
def upl : Link := { state := .active, snpCredit := 3, mgtCredit := 2 }
def Wt (l : List Txn) (o : List (Nat × Nat) := []) (links : List Nat := [5, 6, 7]) : State :=
  ((Wn o {}).withPorts { links := links.map fun h => (h, upl) }).withHome { txns := l, nextId := 20 }
def sn (op : BitVec 6) (a : Option Ans) : Snp := { half := 6, op := op, role := 1, sent := true, at_ := 90, answer := a }
def txs (op : BitVec 6) (a : Option Ans) : Txn := { tx 2 with snoops := [sn op a] }
def ht : BitVec 13 := (tx 2).htid
def wAgentAnswers0_s : State := Wt [txs 2 none]
def wAgentAnswers0_t : Txn := txs 2 none
def wAgentAnswers1_s : State := Wt [txs 3 none]
def wAgentAnswers1_t : Txn := txs 3 none
def wAgentAnswers2_s : State := Wt [txs 4 none]
def wAgentAnswers2_t : Txn := txs 4 none
def wAgentAnswers3_s : State := Wt [txs 1 none]
def wAgentAnswers3_t : Txn := txs 1 none
def wAgentAnswers4_s : State := Wt []
theorem test_AgentAnswers :
    (wAgentAnswers0_s.byHtid ht = some wAgentAnswers0_t ∧ (∃ (x : Snp), x ∈ wAgentAnswers0_t.snoops ∧ x.half = 6 ∧ x.sent = true
        ∧ x.answer = none ∧ x.retired = false ∧ ansFits x.op Ans.i = true) ∧ (∃ (x : Snp), x ∈ wAgentAnswers0_t.snoops ∧ x.half
        = 6 ∧ x.sent = true ∧ x.answer = none ∧ x.retired = false ∧ ansFits x.op Ans.fwdI = true) ∧ (∃ (x : Snp), x ∈
        wAgentAnswers0_t.snoops ∧ x.half = 6 ∧ x.sent = true ∧ x.answer = none ∧ x.retired = false ∧ ansFits x.op Ans.crossing =
        true) ∧ (¬∃ x : Snp, x ∈ wAgentAnswers0_t.snoops ∧ x.half = 6 ∧ x.sent = true ∧ x.answer = none ∧ x.retired = false ∧
        ansFits x.op Ans.s = true) ∧ (¬∃ x : Snp, x ∈ wAgentAnswers0_t.snoops ∧ x.half = 6 ∧ x.sent = true ∧ x.answer = none ∧
        x.retired = false ∧ ansFits x.op Ans.fwdS = true) ∧ (¬∃ x : Snp, x ∈ wAgentAnswers0_t.snoops ∧ x.half = 6 ∧ x.sent =
        true ∧ x.answer = none ∧ x.retired = false ∧ ansFits x.op Ans.fwdCur = true) ∧ (¬∃ x : Snp, x ∈ wAgentAnswers0_t.snoops
        ∧ x.half = 6 ∧ x.sent = true ∧ x.answer = none ∧ x.retired = false ∧ ansFits x.op (Ans.iWb (5 : Line) false) = true) ∧
        (¬∃ x : Snp, x ∈ wAgentAnswers0_t.snoops ∧ x.half = 6 ∧ x.sent = true ∧ x.answer = none ∧ x.retired = false ∧ ansFits
        x.op (Ans.sWb (5 : Line) false) = true))
    ∧ (wAgentAnswers1_s.byHtid ht = some wAgentAnswers1_t ∧ (∃ (x : Snp), x ∈ wAgentAnswers1_t.snoops ∧ x.half = 6 ∧ x.sent =
        true ∧ x.answer = none ∧ x.retired = false ∧ ansFits x.op Ans.s = true) ∧ (∃ (x : Snp), x ∈ wAgentAnswers1_t.snoops ∧
        x.half = 6 ∧ x.sent = true ∧ x.answer = none ∧ x.retired = false ∧ ansFits x.op Ans.fwdCur = true) ∧ (¬∃ x : Snp, x ∈
        wAgentAnswers1_t.snoops ∧ x.half = 6 ∧ x.sent = true ∧ x.answer = none ∧ x.retired = false ∧ ansFits x.op Ans.fwdI =
        true))
    ∧ (wAgentAnswers2_s.byHtid ht = some wAgentAnswers2_t ∧ (∃ (x : Snp), x ∈ wAgentAnswers2_t.snoops ∧ x.half = 6 ∧ x.sent =
        true ∧ x.answer = none ∧ x.retired = false ∧ ansFits x.op (Ans.iWb (5 : Line) false) = true))
    ∧ (wAgentAnswers3_s.byHtid ht = some wAgentAnswers3_t ∧ (∃ (x : Snp), x ∈ wAgentAnswers3_t.snoops ∧ x.half = 6 ∧ x.sent =
        true ∧ x.answer = none ∧ x.retired = false ∧ ansFits x.op Ans.fwdS = true) ∧ (∃ (x : Snp), x ∈ wAgentAnswers3_t.snoops ∧
        x.half = 6 ∧ x.sent = true ∧ x.answer = none ∧ x.retired = false ∧ ansFits x.op (Ans.sWb (5 : Line) false) = true))
    ∧ (wAgentAnswers4_s.byHtid ht = none) := by
  refine ⟨?_, ?_, ?_, ?_, ?_⟩ <;> decide +kernel

def ta (acked : Bool) : Txn := { tx 2 with needAck := true, performed := true, acked := acked, dirWay := some 3 }
def wAcksAndRetiring0_s : State := Wt [ta false]
def wAcksAndRetiring0_t : Txn := ta false
def wAcksAndRetiring1_s : State := Wt [ta true]
def wAcksAndRetiring1_t : Txn := ta true
def wAcksAndRetiring3_s : State := Wt [txs 4 (some .i)]
def wAcksAndRetiring3_t : Txn := txs 4 (some .i)
def wAcksAndRetiring3_x : Snp := sn 4 (some .i)
theorem test_AcksAndRetiring :
    (wAcksAndRetiring0_s.byHtid ht = some wAcksAndRetiring0_t ∧ wAcksAndRetiring0_t.half = some 5 ∧ wAcksAndRetiring0_t.needAck
        = true ∧ wAcksAndRetiring0_t.performed = true ∧ wAcksAndRetiring0_t.acked = false ∧ (List.find? (fun (t : Txn) =>
        t.slice == 8 && t.phase == Phase.active && t.arrived) (wAcksAndRetiring0_s.sentBy (wAcksAndRetiring0_s.now * 64 +
        1)).home.txns = none ∨ (wAcksAndRetiring0_s.sentBy (wAcksAndRetiring0_s.now * 64 + 1)).takeSlot 0 (8) (1) Cls.sf 1 =
        none))
    ∧ ((wAcksAndRetiring1_s.byHtid ht = none ∨ wAcksAndRetiring1_s.byHtid ht = some wAcksAndRetiring1_t ∧
        (wAcksAndRetiring1_t.half ≠ some 5 ∨ wAcksAndRetiring1_t.acked = true)) ∧ (List.find? (fun (t : Txn) => t.slice == 8 &&
        t.phase == Phase.active && t.arrived) (wAcksAndRetiring1_s.sentBy (wAcksAndRetiring1_s.now * 64 + 1)).home.txns = some
        wAcksAndRetiring1_t) ∧ ((wAcksAndRetiring1_s.sentBy (wAcksAndRetiring1_s.now * 64 + 1)).takeSlot 0 (8) (1) Cls.sf
        1).isSome = true ∧ (wAcksAndRetiring1_s.sentBy (wAcksAndRetiring1_s.now * 64 + 1)).txn wAcksAndRetiring1_t.id = some
        wAcksAndRetiring1_t ∧ wAcksAndRetiring1_t.acked = true ∧ wAcksAndRetiring1_t.ackRetired = false ∧
        wAcksAndRetiring1_t.needAck = true ∧ wAcksAndRetiring1_t.performed = true ∧ wAcksAndRetiring1_t.snoops = [] ∧
        wAcksAndRetiring1_t.todo = Pending.nothing ∧ wAcksAndRetiring1_t.pend = false)
    ∧ (wAcksAndRetiring1_t.needWay = false ∧ wAcksAndRetiring1_t.backInv = none ∧ wAcksAndRetiring1_t.waitBack = false ∧
        (wAcksAndRetiring1_s.sentBy (wAcksAndRetiring1_s.now * 64 + 1)).obj Obj.departedMask = (0 : Reg) ∧ (Option.all (fun (y :
        DirSt × Nat × BitVec 32) => y.snd.snd != (0 : BitVec 32)) wAcksAndRetiring1_t.record = true))
    ∧ ((List.find? (fun (t : Txn) => t.slice == 8 && t.phase == Phase.active && t.arrived) (wAcksAndRetiring3_s.sentBy
        (wAcksAndRetiring3_s.now * 64 + 1)).home.txns = some wAcksAndRetiring3_t) ∧ ((wAcksAndRetiring3_s.sentBy
        (wAcksAndRetiring3_s.now * 64 + 1)).takeSlot 0 (8) (1) Cls.sf 1).isSome = true ∧ (wAcksAndRetiring3_s.sentBy
        (wAcksAndRetiring3_s.now * 64 + 1)).txn wAcksAndRetiring3_t.id = some wAcksAndRetiring3_t ∧ wAcksAndRetiring3_t.acked =
        false ∧ wAcksAndRetiring3_t.snoops = [wAcksAndRetiring3_x] ∧ wAcksAndRetiring3_x.op = (4 : BitVec 6) ∧
        wAcksAndRetiring3_x.answer = some Ans.i ∧ wAcksAndRetiring3_x.role = 1 ∧ wAcksAndRetiring3_x.retired = false ∧
        wAcksAndRetiring3_t.pend = false ∧ wAcksAndRetiring3_t.todo = Pending.nothing)
    ∧ (wAcksAndRetiring3_t.performed = false ∧ wAcksAndRetiring3_t.half ≠ none ∧ wAcksAndRetiring3_t.gone = false)
    ∧ (∀ (u : Txn), u ∈ (wAcksAndRetiring1_s.sentBy (wAcksAndRetiring1_s.now * 64 + 1)).home.txns → u.backInv ≠ some
        wAcksAndRetiring1_t.id)
    ∧ (∀ (o : Outcome), o ∈ (wAcksAndRetiring1_s.sentBy (wAcksAndRetiring1_s.now * 64 + 1)).ports.outcomes → o.id ≠
        wAcksAndRetiring1_t.id) := by
  refine ⟨?_, ?_, ?_, ?_, ?_, ?_, ?_⟩ <;> decide +kernel

def fw : Fwd := { half := 5, tag := 77, htid := ht, grant := 1, pend := false, poison := false, data := 5 }
def Wfw (t : Txn) (r : List Fwd) : State := let s := Wt [t]; s.withPorts { s.ports with resend := r }
def wForwardedData0_s : State := Wt [txs 1 none]
def wForwardedData0_t : Txn := txs 1 none
def wForwardedData0_x : Snp := sn 1 none
def wForwardedData1_s : State := Wt []
def wForwardedData2_s : State := Wfw (txs 1 none) [fw]
def wForwardedData2_t : Txn := txs 1 none
def wForwardedData2_l'1 : List Fwd := []
theorem test_ForwardedData :
    (wForwardedData0_s.byHtid ht = some wForwardedData0_t ∧ wForwardedData0_s.txn wForwardedData0_t.id = some wForwardedData0_t
        ∧ wForwardedData0_t.half = some 5 ∧ wForwardedData0_t.req.tag = (77 : BitVec 12) ∧ wForwardedData0_t.performed = false ∧
        wForwardedData0_x ∈ wForwardedData0_t.snoops ∧ wForwardedData0_x.half = 6 ∧ wForwardedData0_x.op ≠ (4 : BitVec 6) ∧
        wForwardedData0_x.sent = true ∧ wForwardedData0_x.passed = false ∧ wForwardedData0_x.retired = false)
    ∧ (wForwardedData0_t.gone = false ∧ wForwardedData0_s.halfUp 5 = true)
    ∧ (wForwardedData1_s.byHtid ht = none)
    ∧ (wForwardedData2_s.ports.resend = fw :: wForwardedData2_l'1 ∧ fw.half = 5 ∧ wForwardedData2_s.byHtid fw.htid = some
        wForwardedData2_t ∧ wForwardedData2_s.txn wForwardedData2_t.id = some wForwardedData2_t ∧ wForwardedData2_t.half = some
        5 ∧ wForwardedData2_t.req.tag = fw.tag ∧ wForwardedData2_t.performed = false ∧ wForwardedData2_t.gone = false ∧
        wForwardedData2_s.halfUp 5 = true)
    ∧ (∀ (y : Fwd), y ∈ wForwardedData0_s.ports.resend → y.htid ≠ ht)
    ∧ (∀ (y : Fwd), y ∈ wForwardedData0_s.ports.resend → y.half ≠ 5) := by
  refine ⟨?_, ?_, ?_, ?_, ?_, ?_⟩ <;> decide +kernel

def th : Txn := { tx 2 with snoops := [{ sn 4 none with sent := false }] }
def tw : Txn := { tx 2 with needWay := true }
def wHeldWork0_s : State := Wt [th]
def wHeldWork0_x : Snp := { sn 4 none with sent := false }
def wHeldWork1_s : State := let s := Wt [th]; s.withPorts { s.ports with links := [(6, { upl with snpCredit := 0 })] }
def wHeldWork2_s : State := Wt [tw]
theorem test_HeldWork :
    ((List.find? (fun (t : Txn) => t.snoops.any fun (x : Snp) => x.half == 6 && !x.sent && !x.retired) wHeldWork0_s.home.txns =
        some th) ∧ (List.find? (fun (x : Snp) => x.half == 6) th.snoops = some wHeldWork0_x) ∧ wHeldWork0_s.halfUp 6 = true ∧
        (wHeldWork0_s.link 6).snpCredit ≠ 0 ∧ (List.find? (fun (t : Txn) => t.slice == 8 && t.phase == Phase.active &&
        (t.needWay || t.waitBack)) wHeldWork0_s.home.txns = none))
    ∧ (((wHeldWork1_s.link 6).snpCredit = 0 ∨ wHeldWork1_s.halfUp 6 = false))
    ∧ ((List.find? (fun (t : Txn) => t.snoops.any fun (x : Snp) => x.half == 6 && !x.sent && !x.retired) wHeldWork2_s.home.txns
        = none) ∧ (List.find? (fun (t : Txn) => t.slice == 8 && t.phase == Phase.active && (t.needWay || t.waitBack))
        wHeldWork2_s.home.txns = some tw) ∧ wHeldWork2_s.txn tw.id = some tw ∧ tw.waitBack = false ∧ tw.performed = false ∧
        tw.half ≠ none ∧ tw.gone = false ∧ (wHeldWork2_s.takeSlot 0 (8) (1) Cls.sf 1).isSome = true ∧ wHeldWork2_s.chooseDir
        (dsetOf (tw.line * 128)) 1 = some (0, none)) := by
  refine ⟨?_, ?_, ?_⟩ <;> decide +kernel

def tl (op : Nat) : Txn := { id := 9, slice := 8, tracker := some 4, half := some 5, req := rq op, line := 0x1000, phase := .admitted }
def led : List Booking := [{ kind := 0, row := 8, stride := 100, slot := 4, work := 9, half := 5, purpose := 0 }]
def Wlk (l : List Txn) : State := let s := Wt l; s.withGait { s.gait with ledger := led }
def tor : Txn := { tl 2 with orderRefuse := true }
def oth : Txn := { tx 2 with id := 8 }
def wLookUps0_s : State := Wt []
def wLookUps1_s : State := Wlk [tor]
def wLookUps2_s : State := Wlk [oth, tl 2]
def wLookUps2_t : Txn := tl 2
def wLookUps3_s : State := Wlk [tl 9]
def wLookUps3_t : Txn := tl 9
theorem test_LookUps :
    ((wLookUps0_s.sentBy (wLookUps0_s.now * 64 + 4)).pickLook 8 4 = none)
    ∧ ((wLookUps1_s.sentBy (wLookUps1_s.now * 64 + 4)).pickLook 8 4 = some tor ∧ tor.orderRefuse = true ∧ tor.half = some 5 ∧
        (wLookUps1_s.sentBy (wLookUps1_s.now * 64 + 4)).halfUp 5 = true)
    ∧ ((wLookUps2_s.sentBy (wLookUps2_s.now * 64 + 4)).pickLook 8 4 = some wLookUps2_t ∧ (wLookUps2_s.sentBy (wLookUps2_s.now *
        64 + 4)).txn wLookUps2_t.id = some wLookUps2_t ∧ wLookUps2_t.orderRefuse = false ∧ (wLookUps2_s.sentBy (wLookUps2_s.now
        * 64 + 4)).fenced wLookUps2_t.slice = false ∧ isEvict wLookUps2_t.req.op = false ∧ wLookUps2_t.tracker.isSome = true ∧
        (wLookUps2_s.sentBy (wLookUps2_s.now * 64 + 4)).lineHeld wLookUps2_t.line wLookUps2_t.id = true ∧ ((List.filter (fun (u
        : Txn) => u.line == wLookUps2_t.line && u.id != wLookUps2_t.id && (u.phase == Phase.waiting || u.phase ==
        Phase.reserved)) (wLookUps2_s.sentBy (wLookUps2_s.now * 64 + 4)).home.txns).length < (wLookUps2_s.sentBy
        (wLookUps2_s.now * 64 + 4)).eff Obj.waitlistMax))
    ∧ (((wLookUps3_s.sentBy (wLookUps3_s.now * 64 + 4)).pickLook 8 4 = some wLookUps3_t ∧ wLookUps3_t.req.op = Op.evictClean ∧
        (wLookUps3_s.sentBy (wLookUps3_s.now * 64 + 4)).dirHit wLookUps3_t.line = none) ∧ LooksUpFree (wLookUps3_s.sentBy
        (wLookUps3_s.now * 64 + 4)) wLookUps3_t 5) := by
  refine ⟨?_, ?_, ?_, ?_⟩
  · decide +kernel
  · decide +kernel
  · decide +kernel
  · exact withFree (by decide +kernel)

def x5 : Snp := { sn 4 none with at_ := 5, half := 6 }
def x6 : Snp := { sn 4 (some .crossing) with crossedAt := some 5 }
def tt (x : Snp) : Txn := { tx 2 with snoops := [x] }
def tca : Txn := { ta false with ackAt := some 5 }
def Wt2 (t : Txn) : State := Wt [t] [(Obj.snoopTimeout, 64), (Obj.crossingTimeout, 64), (Obj.compackTimeout, 64)] [5]
def wTimeouts0_s : State := Wt2 (tt x5)
def wTimeouts0_t : Txn := tt x5
def wTimeouts1_s : State := Wt2 (tt x6)
def wTimeouts1_t : Txn := tt x6
def wTimeouts3_s : State := Wt2 tca
theorem test_Timeouts :
    (wTimeouts0_s.byHtid ht = some wTimeouts0_t ∧ wTimeouts0_s.txn wTimeouts0_t.id = some wTimeouts0_t ∧ wTimeouts0_t.snoops =
        [x5] ∧ x5.half = 6 ∧ x5.op = (4 : BitVec 6) ∧ x5.role = 1 ∧ x5.passed = false ∧ x5.joined = none ∧ wTimeouts0_t.pend =
        false ∧ wTimeouts0_t.todo = Pending.nothing ∧ wTimeouts0_t.performed = false)
    ∧ (wTimeouts0_t.half ≠ none ∧ wTimeouts0_t.gone = false ∧ x5.answer = none ∧ x5.retired = false ∧ x5.at_ + wTimeouts0_s.eff
        Obj.snoopTimeout ≤ wTimeouts0_s.now ∧ (wTimeouts0_t.ackAt = none ∨ wTimeouts0_t.acked = true ∨ ∀ (a : Nat),
        wTimeouts0_t.ackAt = some a → wTimeouts0_s.now < a + wTimeouts0_s.eff Obj.compackTimeout))
    ∧ (wTimeouts1_s.byHtid ht = some wTimeouts1_t ∧ wTimeouts1_s.txn wTimeouts1_t.id = some wTimeouts1_t ∧ wTimeouts1_t.snoops =
        [x6] ∧ x6.half = 6 ∧ x6.op = (4 : BitVec 6) ∧ x6.role = 1 ∧ x6.passed = false ∧ x6.joined = none ∧ wTimeouts1_t.pend =
        false ∧ wTimeouts1_t.todo = Pending.nothing ∧ wTimeouts1_t.performed = false)
    ∧ (wTimeouts1_t.half ≠ none ∧ wTimeouts1_t.gone = false ∧ x6.answer = some Ans.crossing ∧ x6.crossedAt = some 5 ∧ x6.retired
        = false ∧ 5 + wTimeouts1_s.eff Obj.crossingTimeout ≤ wTimeouts1_s.now)
    ∧ (wTimeouts3_s.byHtid ht = some tca ∧ wTimeouts3_s.txn tca.id = some tca ∧ tca.ackAt = some 5 ∧ tca.needAck = true ∧
        tca.acked = false ∧ 5 + wTimeouts3_s.eff Obj.compackTimeout ≤ wTimeouts3_s.now ∧ wTimeouts3_s.obj Obj.departedMask = (0
        : Reg))
    ∧ (∀ (x : Snp), x ∈ wTimeouts0_t.snoops → x.half = 6 → ∀ (a : Nat), x.crossedAt = some a → wTimeouts0_s.now < a +
        wTimeouts0_s.eff Obj.crossingTimeout)
    ∧ (∀ (x : Snp), x ∈ wTimeouts1_t.snoops → wTimeouts1_s.now < x.at_ + wTimeouts1_s.eff Obj.snoopTimeout) := by
  refine ⟨?_, ?_, ?_, ?_, ?_, ?_, ?_⟩ <;> decide +kernel

def Wds (l : List (Nat × Nat)) : State := let s := Wt [] [(Obj.departedMask, 1 <<< 4), (Obj.sweepStatus, 1)]; s.withHome { s.home with sweepLeft := l }
def wDepartureSweep0_s : State := Wt []
def wDepartureSweep1_s : State := Wds [(4 * 16 + 3, 5)]
def wDepartureSweep2_s : State := Wds [(4 * 16 + 3, 1)]
theorem test_DepartureSweep :
    ((BitVec.toNat (wDepartureSweep0_s.obj Obj.sweepStatus) = 0 ∨ wDepartureSweep0_s.takeSlot 0 3 (61) Cls.mt 2 = none))
    ∧ (BitVec.toNat (wDepartureSweep1_s.obj Obj.sweepStatus) ≠ 0 ∧ (wDepartureSweep1_s.takeSlot 0 3 (61) Cls.mt 2).isSome = true
        ∧ (wDepartureSweep1_s.link 4).state ≠ LinkState.held ∧ wDepartureSweep1_s.obj Obj.departedMask = (1 : Reg) <<< 4 ∧
        wDepartureSweep1_s.home.sweepLeft = [(4 * 16 + 3, 5)])
    ∧ (BitVec.toNat (wDepartureSweep2_s.obj Obj.sweepStatus) ≠ 0 ∧ (wDepartureSweep2_s.takeSlot 0 3 (61) Cls.mt 2).isSome = true
        ∧ (wDepartureSweep2_s.link 4).state ≠ LinkState.held ∧ wDepartureSweep2_s.obj Obj.departedMask = (1 : Reg) <<< 4 ∧
        wDepartureSweep2_s.home.sweepLeft = [(4 * 16 + 3, 1)])
    ∧ (∀ (w : Nat), w < 16 → wDepartureSweep1_s.dirEnt (3 * 16384 + wDepartureSweep1_s.home.sweepNext.getD 3 0) w = none)
    ∧ (∀ (w : Nat), w < 16 → wDepartureSweep2_s.dirEnt (3 * 16384 + wDepartureSweep2_s.home.sweepNext.getD 3 0) w = none) := by
  refine ⟨?_, ?_, ?_, ?_, ?_⟩ <;> decide +kernel

end Home

namespace Irq

def Wi (o : List (Nat × Nat)) (q : Irq) (l : List (Nat × Link) := []) : State := (Wn o {}).withIrq q |>.withPorts { links := l }
def sc (n v : Nat) : Nat × Nat := (arr16 Obj.sourceConfig n, v)
def wSourceEvents0_s : State := Wi [sc 0x123 ((1 <<< 9) + (1 <<< 31))] {}
theorem test_SourceEvents :
    wSourceEvents0_s.eventsOn = true ∧ (BitVec.toNat (291 : BitVec 10) ≤ 198 ∨ 256 ≤ BitVec.toNat (291 : BitVec 10) ∧
        BitVec.toNat (291 : BitVec 10) ≤ 767) ∧ (¬(BitVec.toNat (208 : BitVec 10) ≤ 198 ∨ 256 ≤ BitVec.toNat (208 : BitVec 10) ∧
        BitVec.toNat (208 : BitVec 10) ≤ 767)) := by
  decide +kernel

def rec1 : Record := { source := 0xB0, count := 4, stride := 5, words := [9], seq := 3 }
def Wal1 (rs : List Record) : State := Wi [sc 0xB0 0x202] { rings := [(2, { records := rs, wptr := 3, rptr := 0 })] }
def wAlarmRecords0_s : State := Wal1 []
def wAlarmRecords1_s : State := Wal1 [rec1]
theorem test_AlarmRecords :
    (wAlarmRecords0_s.eventsOn = true ∧ alarmSource (BitVec.toNat (176 : BitVec 10)) = true ∧ BitVec.toNat (176 : BitVec 10) ≤
        198 ∧ interruptOnly (BitVec.toNat (176 : BitVec 10)) = false ∧ bitsOf (wAlarmRecords0_s.srcConfig (BitVec.toNat (176 :
        BitVec 10))) 5 0 < 4 ∧ wAlarmRecords0_s.irq.latches = [] ∧ 3 ≤ (wAlarmRecords0_s.ring (bitsOf
        (wAlarmRecords0_s.srcConfig (BitVec.toNat (176 : BitVec 10))) 5 0)).room)
    ∧ (wAlarmRecords1_s.eventsOn = true ∧ bitsOf (wAlarmRecords1_s.srcConfig (BitVec.toNat (176 : BitVec 10))) 5 0 < 4 ∧
        wAlarmRecords1_s.irq.latches = [] ∧ (wAlarmRecords1_s.ring (bitsOf (wAlarmRecords1_s.srcConfig (BitVec.toNat (176 :
        BitVec 10))) 5 0)).records = [rec1] ∧ rec1.source = BitVec.toNat (176 : BitVec 10) ∧ rec1.words = [(9 : Reg)] ∧
        rec1.read = 0)
    ∧ (∀ (y : Record), y ∈ (wAlarmRecords0_s.ring (bitsOf (wAlarmRecords0_s.srcConfig (BitVec.toNat (176 : BitVec 10))) 5
        0)).records → y.source ≠ BitVec.toNat (176 : BitVec 10)) := by
  refine ⟨?_, ?_, ?_⟩ <;> decide +kernel

def act : Link := { state := .active, mgtCredit := 3, cores := 4 }
def im (w : Bool) : IrqMsg := { source := 0x123, half := 3, core := 1, vector := 77, fast := false, wake := w }
def wInterruptMessages0_s : State := Wi [sc 0x123 (1 <<< 31)] { outbox := [im true], sources := [(0x123, { st := .pending })] } [(3, act)]
def wInterruptMessages0_m : IrqMsg := im true
def wInterruptMessages0_more : List IrqMsg := []
def wInterruptMessages2_s : State := Wi [sc 5 (1 <<< 31)] { outbox := [{ im true with half := 4 }, { im false with fast := true, source := 5 }] } [(3, act)]
def wInterruptMessages2_m : IrqMsg := { im false with fast := true, source := 5 }
def wInterruptMessages2_more : List IrqMsg := []
def wInterruptMessages3_s : State := Wi [] {}
def wInterruptMessages4_s : State := Wi [sc 0x123 0] { outbox := [im false], sources := [(0x123, { st := .pending })] } [(3, act)]
def wInterruptMessages4_m : IrqMsg := im false
theorem test_InterruptMessages :
    ((List.filter (fun (m : IrqMsg) => m.half == 3) wInterruptMessages0_s.irq.outbox = wInterruptMessages0_m ::
        wInterruptMessages0_more) ∧ ((wInterruptMessages0_s.link 3).state = LinkState.active ∨ (wInterruptMessages0_s.link
        3).state = LinkState.quiescing) ∧ 0 < (wInterruptMessages0_s.link 3).mgtCredit ∧ wInterruptMessages0_m.fast = false ∧
        (wInterruptMessages0_s.srcConfig wInterruptMessages0_m.source).testBit 31 = true)
    ∧ ((List.filter (fun (m : IrqMsg) => m.half == 3) wInterruptMessages2_s.irq.outbox = wInterruptMessages2_m ::
        wInterruptMessages2_more) ∧ ((wInterruptMessages2_s.link 3).state = LinkState.active ∨ (wInterruptMessages2_s.link
        3).state = LinkState.quiescing) ∧ 0 < (wInterruptMessages2_s.link 3).mgtCredit ∧ wInterruptMessages2_m.fast = true)
    ∧ ((List.filter (fun (m : IrqMsg) => m.half == 3) wInterruptMessages3_s.irq.outbox = [] ∨ ¬(((wInterruptMessages3_s.link
        3).state = LinkState.active ∨ (wInterruptMessages3_s.link 3).state = LinkState.quiescing) ∧ 0 <
        (wInterruptMessages3_s.link 3).mgtCredit)))
    ∧ ((List.filter (fun (m : IrqMsg) => m.half == 3) wInterruptMessages4_s.irq.outbox = [wInterruptMessages4_m]) ∧
        ((wInterruptMessages4_s.link 3).state = LinkState.active ∨ (wInterruptMessages4_s.link 3).state = LinkState.quiescing) ∧
        0 < (wInterruptMessages4_s.link 3).mgtCredit ∧ wInterruptMessages4_m.fast = false ∧ (wInterruptMessages4_s.srcConfig
        wInterruptMessages4_m.source).testBit 31 = false ∧ (wInterruptMessages4_s.source wInterruptMessages4_m.source).st =
        SrcState.pending) := by
  refine ⟨?_, ?_, ?_, ?_⟩ <;> decide +kernel

def wAgentReports0_s : State := Wi [] {}
def wAgentReports1_s : State := Wi [] { sources := [(0x123, { st := .active, rearm := true, target := some (3, 1) })] } [(3, act)]
def wAgentReports2_s : State := Wi [sc 5 (1 <<< 30)] { sources := [(0x123, { st := .active, rearm := true, target := some (3, 1) })] } [(3, act)]
def wAgentReports3_s : State := Wi [] { sources := [(0x123, { st := .active, rearm := true, target := some (3, 1) })] } [(3, act)]
theorem test_AgentReports :
    (wAgentReports0_s.halfUp 3 = false)
    ∧ (wAgentReports1_s.halfUp 3 = true ∧ (wAgentReports1_s.srcConfig (BitVec.toNat (291 : BitVec 10))).testBit 30 = false ∧
        (wAgentReports1_s.source (BitVec.toNat (291 : BitVec 10))).st = SrcState.active ∧ (wAgentReports1_s.source (BitVec.toNat
        (291 : BitVec 10))).target = some (3, BitVec.toNat (1 : BitVec 8)) ∧ BitVec.toNat (1 : BitVec 8) ≤
        (wAgentReports1_s.link 3).cores)
    ∧ (wAgentReports2_s.halfUp 3 = true ∧ (wAgentReports2_s.srcConfig (BitVec.toNat (5 : BitVec 10))).testBit 30 = true ∧
        (wAgentReports2_s.link 3).cores < BitVec.toNat (5 : BitVec 8))
    ∧ (wAgentReports3_s.halfUp 3 = true ∧ (wAgentReports3_s.srcConfig (BitVec.toNat (291 : BitVec 10))).testBit 30 = false ∧
        ((wAgentReports3_s.source (BitVec.toNat (291 : BitVec 10))).st ≠ SrcState.active ∨ (wAgentReports3_s.source
        (BitVec.toNat (291 : BitVec 10))).target ≠ some (3, BitVec.toNat (5 : BitVec 8)))) := by
  refine ⟨?_, ?_, ?_, ?_⟩ <;> decide +kernel

def wEventBallsAndStatus0_s : State := Wi [(Obj.eventInFilter + 3, 4), (Obj.eventInPolarity, 8)] {}
def wEventBallsAndStatus2_s : State := Wi [(Obj.eventInFilter + 3, 4), (Obj.eventInPolarity, 8)] {}
def wEventBallsAndStatus3_s : State := Wi [(Obj.eventInFilter + 3, 4), (Obj.eventInPolarity, 8)] { restartAt := [(3, 99)] }
theorem test_EventBallsAndStatus :
    (wEventBallsAndStatus0_s.irq.events.getLsbD 3 ≠ true ∧ wEventBallsAndStatus0_s.eff (Obj.eventInFilter + 3) ≤ 4 ∧
        wEventBallsAndStatus0_s.levelSource (64 + 3) = false ∧ wEventBallsAndStatus0_s.stoodAtRestart 3 4 = false ∧
        wEventBallsAndStatus0_s.accepts Level.board (Obj.irqStatus + 2) (BitVec.toNat (240 : Reg)) = true)
    ∧ ((wEventBallsAndStatus2_s.irq.events.getLsbD 3 = true ∨ wEventBallsAndStatus2_s.stoodAtRestart 3 3 = false ∧ 3 <
        wEventBallsAndStatus2_s.eff (Obj.eventInFilter + 3)))
    ∧ (wEventBallsAndStatus3_s.irq.events.getLsbD 3 ≠ true ∧ wEventBallsAndStatus3_s.levelSource (64 + 3) = false ∧
        wEventBallsAndStatus3_s.stoodAtRestart 3 4 = true) := by
  refine ⟨?_, ?_, ?_⟩ <;> decide +kernel

def wRingReadsAndRaises0_s : State := Wal1 [rec1]
def wRingReadsAndRaises0_ys : List Record := []
theorem test_RingReadsAndRaises :
    wRingReadsAndRaises0_s.modes.mode = Mode.normal ∧ (wRingReadsAndRaises0_s.ring 2).records = rec1 :: wRingReadsAndRaises0_ys
        ∧ (wRingReadsAndRaises0_s.ring 2).summarising = false ∧ wRingReadsAndRaises0_s.irq.latches = [] ∧ (∃ (r : ObjRow),
        objRow (arrIx Obj.ringRead 2) = some r ∧ r.acc Level.board = Acc.rc) ∧ Level.board ≠ Level.jtag ∧
        wRingReadsAndRaises0_s.accepts Level.board Obj.swRaise (BitVec.toNat (645 : Reg)) = true ∧
        wRingReadsAndRaises0_s.levelSource (BitVec.toNat (645 : Reg) % 1024) = false := by
  decide +kernel

end Irq

namespace Link

def Wl (h : Nat) (l : Link) (o : List (Nat × Nat) := []) : State := (Wn o {}).withPorts { links := [(h, l)] }
/-- A good training block: 0xB5, the type, the lane's count byte 4, and the CRC. -/
def tb (ty b4 : Nat) : BitVec 128 :=
  let bs := [0xB5, ty, 0, 0, b4] ++ List.replicate 9 0
  let n := bs.reverse.foldl (fun a b => a * 256 + b) 0
  BitVec.ofNat 128 (n + crc16 bs * 2 ^ 112)
def tbs (ty b4 : Nat) : List (BitVec 128) := List.replicate 16 (tb ty b4)
def tr (st : Nat) : Link := { state := .train, step := st, lanes := 0xFFFF, run := 7, stepSent := 15, last := tbs st 2, begun := 100 }
def lk := ({} : Link)
def wLinkTraining0_s : State := Wl 3 { lk with state := .detect }
def wLinkTraining1_s : State := Wl 3 { lk with state := .detect }
def wLinkTraining2_s : State := Wl 3 (tr 4)
def wLinkTraining2_blocks : List (BitVec 128) := tbs 4 2
def wLinkTraining3_s : State := Wl 3 (tr 6)
def wLinkTraining3_blocks : List (BitVec 128) := tbs 6 2
def wLinkTraining5_s : State := Wl 3 (tr 6)
def wLinkTraining5_blocks : List (BitVec 128) := [0]
def wLinkTraining6_s : State := let s := Wl 3 (tr 6); s.withTime { s.time with stride := 1000101 }
def wLinkTraining7_s : State := Wl 3 { tr 6 with state := .active }
def wLinkTraining8_s : State := Wl 3 { tr 6 with state := .capability }
def wLinkTraining8_blocks : List (BitVec 128) := tbs 1 2
def wLinkTraining8_b'1 : BitVec 128 := tb 1 2
def wLinkTraining9_s : State := Wl 3 { tr 6 with state := .capability }
def wLinkTraining9_blocks : List (BitVec 128) := tbs 6 2
def wLinkTraining10_s : State := let s := Wl 3 { tr 6 with state := .capability }; s.withTime { s.time with stride := 1000101 }
theorem test_LinkTraining :
    ((wLinkTraining0_s.link 3).state = LinkState.detect ∧ wLinkTraining0_s.chooseWidth 3 (BitVec.toNat (65535 : BitVec 16)) ≠
        none)
    ∧ ((wLinkTraining1_s.chooseWidth 3 (BitVec.toNat (0 : BitVec 16)) = none ∨ (wLinkTraining1_s.link 3).state ≠
        LinkState.detect))
    ∧ ((wLinkTraining2_s.link 3).state = LinkState.train ∧ wLinkTraining2_s.isSplit 3 = false ∧ (wLinkTraining2_s.link 3).lanes
        = (65535 : BitVec 16) ∧ (wLinkTraining2_s.link 3).step ≠ 0 ∧ ((wLinkTraining2_blocks.all fun (b : BitVec 128) =>
        blockGood b && blockByte b 1 == (wLinkTraining2_s.link 3).step) = true) ∧ wLinkTraining2_blocks.length = 16 ∧
        (wLinkTraining2_s.link 3).last = wLinkTraining2_blocks ∧ 7 ≤ (wLinkTraining2_s.link 3).run ∧ 15 ≤ (wLinkTraining2_s.link
        3).stepSent ∧ (wLinkTraining2_s.link 3).step < 6 ∧ wLinkTraining2_s.now ≤ (wLinkTraining2_s.link 3).begun + 1000000)
    ∧ ((wLinkTraining3_s.link 3).state = LinkState.train ∧ wLinkTraining3_s.isSplit 3 = false ∧ (wLinkTraining3_s.link 3).lanes
        = (65535 : BitVec 16) ∧ (wLinkTraining3_s.link 3).step ≠ 0 ∧ ((wLinkTraining3_blocks.all fun (b : BitVec 128) =>
        blockGood b && blockByte b 1 == (wLinkTraining3_s.link 3).step) = true) ∧ wLinkTraining3_blocks.length = 16 ∧
        (wLinkTraining3_s.link 3).last = wLinkTraining3_blocks ∧ 7 ≤ (wLinkTraining3_s.link 3).run ∧ 15 ≤ (wLinkTraining3_s.link
        3).stepSent ∧ (wLinkTraining3_s.link 3).step = 6)
    ∧ ((wLinkTraining5_s.link 3).state = LinkState.train ∧ wLinkTraining5_s.isSplit 3 = false ∧ (wLinkTraining5_s.link 3).lanes
        = (65535 : BitVec 16) ∧ (wLinkTraining5_s.link 3).step ≠ 0 ∧ ((wLinkTraining5_blocks.all fun (b : BitVec 128) =>
        !blockGood b) = true))
    ∧ ((wLinkTraining6_s.link 3).state = LinkState.train ∧ (wLinkTraining6_s.link 3).begun + 1000000 < wLinkTraining6_s.now)
    ∧ (((wLinkTraining7_s.link 3).state = LinkState.active ∨ (wLinkTraining7_s.link 3).state = LinkState.held ∨
        (wLinkTraining7_s.link 3).state = LinkState.quiescing))
    ∧ ((wLinkTraining8_s.link 3).state = LinkState.capability ∧ wLinkTraining8_s.isSplit 3 = false ∧ (wLinkTraining8_s.link
        3).lanes.getLsbD 4 = true ∧ wLinkTraining8_blocks[4]? = some wLinkTraining8_b'1 ∧ blockGood wLinkTraining8_b'1 = true ∧
        blockByte wLinkTraining8_b'1 1 = 1)
    ∧ ((wLinkTraining9_s.link 3).state = LinkState.capability ∧ wLinkTraining9_s.isSplit 3 = false)
    ∧ ((wLinkTraining10_s.link 3).state = LinkState.capability ∧ (wLinkTraining10_s.link 3).begun + 31250 <
        wLinkTraining10_s.now)
    ∧ (∀ (b : BitVec 128), b ∈ wLinkTraining9_blocks → blockGood b = true → blockByte b 1 ≠ 1) := by
  refine ⟨?_, ?_, ?_, ?_, ?_, ?_, ?_, ?_, ?_, ?_, ?_⟩
  · decide +kernel
  · decide +kernel
  · decide +kernel
  · decide +kernel
  · decide +kernel
  · decide +kernel
  · decide +kernel
  · decide +kernel
  · decide +kernel
  · decide +kernel
  · have h : ((wLinkTraining9_blocks).all fun b => decide (blockGood b = true → blockByte b 1 ≠ 1)) = true := by decide +kernel
    exact fun x m => of_decide_eq_true (List.all_eq_true.mp h x m)

/-- The CRC-64 of a flit's bytes, 22 at a time, with the remainder after each. -/
def crcSteps (f : BitVec 2000) (i c : Nat) : List Nat → Bool
  | [] => true
  | x :: xs => (List.range' i 22).foldl (fun c j => crcByte 64 0x42F0E1EBA9EA3693 c (flitByte f j)) c == x && crcSteps f (i + 22) x xs

theorem crcSteps_foldl (f : BitVec 2000) (xs : List Nat) (i c : Nat) (h : crcSteps f i c xs = true) :
    (List.range' i (22 * xs.length)).foldl (fun c j => crcByte 64 0x42F0E1EBA9EA3693 c (flitByte f j)) c = xs.getLastD c := by
  induction xs generalizing i c with
  | nil => rfl
  | cons x xs ih =>
    simp only [crcSteps, Bool.and_eq_true, beq_iff_eq] at h
    have e : 22 * (x :: xs).length = 22 + 22 * xs.length := by simp [Nat.mul_add]; omega
    rw [e, ← List.range'_append_1, List.foldl_append, h.1, ih _ _ h.2]
    cases xs <;> rfl

theorem crc_of_steps {f : BitVec 2000} {xs : List Nat} (n : xs.length = 11) (h : crcSteps f 0 0xFFFFFFFFFFFFFFFF xs = true) :
    crc64 ((List.range 242).map (flitByte f)) = xs.getLastD 0xFFFFFFFFFFFFFFFF ^^^ 0xFFFFFFFFFFFFFFFF := by
  have k := crcSteps_foldl f xs 0 _ h
  rw [n] at k
  simp only [crc64, List.foldl_map, List.range_eq_range']
  rw [k]

/-- A flit whose first bytes are `l`, sealed with its CRC. -/
def sealF (l : List Nat) (crc : Nat) : BitVec 2000 :=
  BitVec.ofNat 2000 (l.reverse.foldl (fun a b => a * 256 + b) 0 + crc * 2 ^ (8 * 242))
def cap (snp crc : Nat) : BitVec 2000 := sealF ([0, 0x40, 0x4D, 0x43, 0x4C, 0x43, 7] ++ List.replicate 11 0 ++ [snp, 0, 9, 3]) crc
def cap40 : BitVec 2000 := cap 40 0x34F372525133C393
def cap30 : BitVec 2000 := cap 30 0x48DB71A8D3367078
theorem cap40_good (fec : Fec) (u : fec ≠ .uncorrectable) : flitGood fec cap40 = true := by
  have h := crc_of_steps (f := cap40)
    (xs := [0x5CA5EBCBD6D78028, 0xB330467D3DA2C562, 0x2B52A2B560E96124, 0xD5071EF424E9C895, 0x50274B135C596E91,
      0x36717885FF93D5F4, 0x01460101A42ABC27, 0x6762DE1B2D7EA9E0, 0x30EE00730B827BDF, 0xF2A024696A5555E1, 0xCB0C8DADAECC3C6C])
    rfl (by decide +kernel)
  have n : flitNum cap40 242 8 = 0x34F372525133C393 := by decide +kernel
  unfold flitGood
  rw [h, n]
  rw [show (fec != .uncorrectable) = true from bne_iff_ne.mpr u, Bool.true_and]
  decide +kernel
theorem cap30_good (fec : Fec) (u : fec ≠ .uncorrectable) : flitGood fec cap30 = true := by
  have h := crc_of_steps (f := cap30)
    (xs := [0x8D9C69933E80ED6D, 0x68EF6481E86A7E14, 0xC7E495C3CCE54087, 0x5AE4BBBB042963F7, 0xCA3AEF246FF03DB3,
      0x636A9B9FFB963A2A, 0x8DE83E98F982B0A5, 0x6BF02B12024BFF20, 0xFF4CBC6F50EC543B, 0x94896832B4CE73A7, 0xB7248E572CC98F87])
    rfl (by decide +kernel)
  have n : flitNum cap30 242 8 = 0x48DB71A8D3367078 := by decide +kernel
  unfold flitGood
  rw [h, n]
  rw [show (fec != .uncorrectable) = true from bne_iff_ne.mpr u, Bool.true_and]
  decide +kernel
def cl (r : Nat) (c : Option (BitVec 2000)) (n : Nat) : Link := { state := .capability, width := 16, rate := 2, capab := c, capRun := r, capSent := n }
def wCapabilityExchange0_s : State := Wl 3 (cl 0 none 4)
def wCapabilityExchange0_f : BitVec 2000 := cap40
def wCapabilityExchange1_s : State := Wl 3 (cl 1 (some cap40) 15)
def wCapabilityExchange1_f : BitVec 2000 := cap40
def wCapabilityExchange2_s : State := Wl 3 (cl 1 (some cap30) 15)
def wCapabilityExchange2_f : BitVec 2000 := cap30
theorem test_CapabilityExchange :
    ((wCapabilityExchange0_s.link 3).state = LinkState.capability ∧ flitByte wCapabilityExchange0_f 1 / 64 = 1 ∧ flitNum
        wCapabilityExchange0_f 2 4 = 1129071437 ∧ (wCapabilityExchange0_s.link 3).capRun = 0 ∧ (wCapabilityExchange0_s.link
        3).capab = none ∧ 0 < (wCapabilityExchange0_s.link 3).capSent ∧ (wCapabilityExchange0_s.link 3).capSent < 15)
    ∧ ((wCapabilityExchange1_s.link 3).state = LinkState.capability ∧ flitByte wCapabilityExchange1_f 1 / 64 = 1 ∧ flitNum
        wCapabilityExchange1_f 2 4 = 1129071437 ∧ (wCapabilityExchange1_s.link 3).capab = some wCapabilityExchange1_f ∧
        (wCapabilityExchange1_s.link 3).capRun = 1 ∧ 15 ≤ (wCapabilityExchange1_s.link 3).capSent ∧ (wCapabilityExchange1_s.link
        3).width = 16 ∧ wCapabilityExchange1_s.isSplit 3 = false ∧ BitVec.getLsbD (wCapabilityExchange1_s.obj Obj.departedMask)
        3 = false ∧ flitNum wCapabilityExchange1_f 7 1 = 0 ∧ flitNum wCapabilityExchange1_f 6 1 = 7)
    ∧ (32 ≤ flitNum wCapabilityExchange1_f 18 2 ∧ 4 ≤ flitNum wCapabilityExchange1_f 20 1)
    ∧ ((wCapabilityExchange2_s.link 3).state = LinkState.capability ∧ flitByte wCapabilityExchange2_f 1 / 64 = 1 ∧ flitNum
        wCapabilityExchange2_f 2 4 = 1129071437 ∧ (wCapabilityExchange2_s.link 3).capab = some wCapabilityExchange2_f ∧
        (wCapabilityExchange2_s.link 3).capRun = 1 ∧ 15 ≤ (wCapabilityExchange2_s.link 3).capSent ∧ (wCapabilityExchange2_s.link
        3).width = 16 ∧ wCapabilityExchange2_s.isSplit 3 = false ∧ flitNum wCapabilityExchange2_f 6 1 = 7 ∧ flitNum
        wCapabilityExchange2_f 18 2 < 32)
    ∧ (flitGood Fec.corrected wCapabilityExchange0_f = true)
    ∧ (flitGood Fec.corrected wCapabilityExchange1_f = true)
    ∧ (flitGood Fec.corrected wCapabilityExchange2_f = true) := by
  refine ⟨?_, ?_, ?_, ?_, ?_, ?_, ?_⟩
  · decide +kernel
  · decide +kernel
  · decide +kernel
  · decide +kernel
  · exact cap40_good _ (by decide)
  · exact cap40_good _ (by decide)
  · exact cap30_good _ (by decide)

def al : Link := { state := .active, committed := 6, acked := 2, snpCredit := 4 }
/-- An idle payload flit with FSEQ, SNP credit 5. -/
def pf (seq crc : Nat) : BitVec 2000 :=
  let c : Nat := (128 + 5) * 2 ^ 108 + 9 * 2 ^ 118
  sealF ([seq * 16 % 256, seq / 16] ++ List.replicate 224 0 ++ (List.range 16).map fun i => c / 256 ^ i % 256) crc
def pf7 : BitVec 2000 := pf 7 0x6D92DD05FA054091
theorem pf7_good (fec : Fec) (u : fec ≠ .uncorrectable) : flitGood fec pf7 = true := by
  have h := crc_of_steps (f := pf7)
    (xs := [0x4C573E928AB2DB6A, 0x3CC90DC606741051, 0xA0E9D78D22C95A2D, 0x994FB73EE80FD85B, 0x946E6F36A4911B2A,
      0x4C9CFAFEDD828B9B, 0xB718A4DB653B0916, 0x47A87B7966C43775, 0x71296DBAF6B54BD0, 0x033B6110AE1A505F, 0x926D22FA05FABF6E])
    rfl (by decide +kernel)
  have n : flitNum pf7 242 8 = 0x6D92DD05FA054091 := by decide +kernel
  unfold flitGood
  rw [h, n]
  rw [show (fec != .uncorrectable) = true from bne_iff_ne.mpr u, Bool.true_and]
  decide +kernel
/-- A flit of zeros carries the wrong CRC. -/
theorem flit0_bad (fec : Fec) : flitGood fec 0 = false := by
  have h := crc_of_steps (f := 0)
    (xs := [0x0E7BBAE1832D5D8D, 0x42F748BA20C2BF26, 0xCFC31A0C37785B29, 0xB12DA785DD79B813, 0xFC75439368C31D4F,
      0x73591DAA0E97FF5B, 0x9A7F08E01DBD604A, 0x9AFB1BAA5B77A3C6, 0xE41F45EA4A5D3916, 0x23D7DAD142B687FE, 0x2317AC720D4A7B4F])
    rfl (by decide +kernel)
  have n : flitNum 0 242 8 = 0 := by decide +kernel
  unfold flitGood
  rw [h, n]
  cases fec <;> decide +kernel
/-- An RSP slot: opcode and HTID. -/
def rspSlot (op htid : Nat) : BitVec 128 := BitVec.ofNat 128 (3 * 2 ^ 125 + op * 2 ^ 119 + htid * 2 ^ 94)
/-- A REQ slot: opcode, STREAM 3 and TAG 77. -/
def reqSlot (op : Nat) : BitVec 128 := BitVec.ofNat 128 (1 * 2 ^ 125 + op * 2 ^ 119 + 3 * 2 ^ 104 + 77 * 2 ^ 92 + 0x80000)
/-- A payload flit with this value in payload slot 5, this FSEQ and 5 SNP credits. -/
def pfv (seq : Nat) (v : BitVec 128) (crc : Nat) : BitVec 2000 :=
  let c : Nat := (128 + 5) * 2 ^ 108 + 9 * 2 ^ 118
  let le (n : Nat) := (List.range 16).map fun i => n / 256 ^ i % 256
  sealF ([seq * 16 % 256, seq / 16] ++ List.replicate 80 0 ++ le v.toNat ++ List.replicate 128 0 ++ le c) crc
def pfRsp : BitVec 2000 := pfv 7 (rspSlot 1 5) 0x26609CBD45FCF6F2
theorem pfRsp_good (fec : Fec) (u : fec ≠ .uncorrectable) : flitGood fec pfRsp = true := by
  have h := crc_of_steps (f := pfRsp)
    (xs := [0x4C573E928AB2DB6A, 0x3CC90DC606741051, 0xA0E9D78D22C95A2D, 0x994FB73EE80FD85B, 0x3968C94362208E93,
      0xA87FE538FBA205F5, 0x2662676D52C70F28, 0x47011C54F5191602, 0xB7C9AB8712D79BC3, 0x56354A8BA7E7661E, 0xD99F6342BA03090D])
    rfl (by decide +kernel)
  have n : flitNum pfRsp 242 8 = 0x26609CBD45FCF6F2 := by decide +kernel
  unfold flitGood
  rw [h, n]
  rw [show (fec != .uncorrectable) = true from bne_iff_ne.mpr u, Bool.true_and]
  decide +kernel

def pfAck : BitVec 2000 := pfv 7 (rspSlot 7 5) 0xAF02DE38F3197EDB
theorem pfAck_good (fec : Fec) (u : fec ≠ .uncorrectable) : flitGood fec pfAck = true := by
  have h := crc_of_steps (f := pfAck)
    (xs := [0x4C573E928AB2DB6A, 0x3CC90DC606741051, 0xA0E9D78D22C95A2D, 0x994FB73EE80FD85B, 0x79C97BE558357D94,
      0x59A5384CEE383B12, 0xC7DAA333AED11F48, 0xC503285A41445099, 0x7B36056DB6DF9907, 0x747B20CD043C4FCA, 0x50FD21C70CE68124])
    rfl (by decide +kernel)
  have n : flitNum pfAck 242 8 = 0xAF02DE38F3197EDB := by decide +kernel
  unfold flitGood
  rw [h, n]
  rw [show (fec != .uncorrectable) = true from bne_iff_ne.mpr u, Bool.true_and]
  decide +kernel

def pfReq : BitVec 2000 := pfv 7 (reqSlot 1) 0x758F82159F3F7E12
theorem pfReq_good (fec : Fec) (u : fec ≠ .uncorrectable) : flitGood fec pfReq = true := by
  have h := crc_of_steps (f := pfReq)
    (xs := [0x4C573E928AB2DB6A, 0x3CC90DC606741051, 0xA0E9D78D22C95A2D, 0x3B8F948F7B5FD469, 0x2F173BEFC95E14C5,
      0xC9B346D4B949A83D, 0x2073BA008798E9F4, 0x26C24AC00CDD1917, 0x2B66FFCD5C99E7C1, 0x3592A41F6C6B61E6, 0x8A707DEA60C081ED])
    rfl (by decide +kernel)
  have n : flitNum pfReq 242 8 = 0x758F82159F3F7E12 := by decide +kernel
  unfold flitGood
  rw [h, n]
  rw [show (fec != .uncorrectable) = true from bne_iff_ne.mpr u, Bool.true_and]
  decide +kernel

def snt : Txn := { dTxn with id := 9, tracker := some 5, half := some 4, line := 64, phase := .active, performed := false, snoops := [{ half := 3, op := 2, sent := true, at_ := 90 }] }
def akt : Txn := { dTxn with id := 9, tracker := some 5, half := some 3, line := 64, phase := .active, performed := true, needAck := true }
def Wlt (t : Txn) : State := (Wl 3 { al with revision := 0x20, features := 0xFFF }).withHome { nextId := 20, txns := [t] }
def wPayloadFlits0_s : State := Wl 3 al
def wPayloadFlits0_f : BitVec 2000 := pf7
def wPayloadFlits1_s : State := Wl 3 { al with state := .train }
def wPayloadFlits3_s : State := Wl 3 al
def wPayloadFlits3_f : BitVec 2000 := 0
def wPayloadFlits4_s : State := Wl 3 { al with nak := true }
def wPayloadFlits5_s : State := Wlt snt
def wPayloadFlits5_v : BitVec 128 := rspSlot 1 5
def wPayloadFlits6_s : State := Wlt akt
def wPayloadFlits6_v : BitVec 128 := rspSlot 7 5
def wPayloadFlits7_s : State := Wlt snt
def wPayloadFlits7_v : BitVec 128 := reqSlot 1
theorem test_PayloadFlits :
    ((wPayloadFlits0_s.link 3).state = LinkState.active ∧ flitType wPayloadFlits0_f = 0 ∧ flitSeq wPayloadFlits0_f =
        (wPayloadFlits0_s.link 3).committed + (1 : BitVec 10) ∧ (wPayloadFlits0_s.link 3).held = [] ∧ (wPayloadFlits0_s.link
        3).carry = none ∧ flitCont wPayloadFlits0_f = false ∧ (flitControl wPayloadFlits0_f).getLsbD 117 = false ∧ slotField
        (flitControl wPayloadFlits0_f) 98 97 = 0 ∧ (flitControl wPayloadFlits0_f).getLsbD 96 = false ∧ (wPayloadFlits0_s.link
        3).mgtWait = [])
    ∧ ((wPayloadFlits1_s.link 3).state ≠ LinkState.active ∧ (wPayloadFlits1_s.link 3).state ≠ LinkState.quiescing)
    ∧ ((wPayloadFlits3_s.link 3).state = LinkState.active ∧ (wPayloadFlits3_s.link 3).nak = false)
    ∧ ((wPayloadFlits4_s.link 3).state = LinkState.active ∧ (wPayloadFlits4_s.link 3).nak = true ∧ Fec.clean ≠ Fec.corrected)
    ∧ ((wPayloadFlits5_s.link 3).state = LinkState.active ∧ flitType pfRsp = 0 ∧ flitSeq pfRsp = (wPayloadFlits5_s.link
        3).committed + (1 : BitVec 10) ∧ (wPayloadFlits5_s.link 3).held = [] ∧ (wPayloadFlits5_s.link 3).carry = none ∧ flitCont
        pfRsp = false ∧ (flitControl pfRsp).getLsbD 117 = false ∧ slotField (flitControl pfRsp) 98 97 = 0 ∧ (flitControl
        pfRsp).getLsbD 96 = false ∧ (wPayloadFlits5_s.link 3).mgtWait = [] ∧ flitSlot pfRsp 5 = wPayloadFlits5_v)
    ∧ (slotField wPayloadFlits5_v 127 125 = 3 ∧ (slotField wPayloadFlits5_v 124 119, Ans.i) ∈ [(1, Ans.i), (2, Ans.s), (3,
        Ans.fwdI), (4, Ans.fwdS), (5, Ans.fwdCur), (6, Ans.crossing)] ∧ (wPayloadFlits5_s.byHtid ((fun (v : BitVec 128) =>
        BitVec.ofNat 13 (slotField v 106 94)) wPayloadFlits5_v) = some snt) ∧ (∃ (x : Snp), x ∈ snt.snoops ∧ x.half = 3 ∧ x.sent
        = true ∧ x.answer = none ∧ x.retired = false ∧ ansFits x.op Ans.i = true))
    ∧ ((wPayloadFlits6_s.link 3).state = LinkState.active ∧ flitType pfAck = 0 ∧ flitSeq pfAck = (wPayloadFlits6_s.link
        3).committed + (1 : BitVec 10) ∧ (wPayloadFlits6_s.link 3).held = [] ∧ (wPayloadFlits6_s.link 3).carry = none ∧ flitCont
        pfAck = false ∧ (flitControl pfAck).getLsbD 117 = false ∧ slotField (flitControl pfAck) 98 97 = 0 ∧ (flitControl
        pfAck).getLsbD 96 = false ∧ (wPayloadFlits6_s.link 3).mgtWait = [] ∧ flitSlot pfAck 5 = wPayloadFlits6_v)
    ∧ (slotField wPayloadFlits6_v 127 125 = 3 ∧ slotField wPayloadFlits6_v 124 119 = 7 ∧ (wPayloadFlits6_s.byHtid ((fun (v :
        BitVec 128) => BitVec.ofNat 13 (slotField v 106 94)) wPayloadFlits6_v) = some akt) ∧ akt.half = some 3 ∧ akt.needAck =
        true ∧ akt.performed = true ∧ akt.acked = false)
    ∧ ((wPayloadFlits7_s.link 3).state = LinkState.active ∧ flitType pfReq = 0 ∧ flitSeq pfReq = (wPayloadFlits7_s.link
        3).committed + (1 : BitVec 10) ∧ (wPayloadFlits7_s.link 3).held = [] ∧ (wPayloadFlits7_s.link 3).carry = none ∧ flitCont
        pfReq = false ∧ (flitControl pfReq).getLsbD 117 = false ∧ slotField (flitControl pfReq) 98 97 = 0 ∧ (flitControl
        pfReq).getLsbD 96 = false ∧ (wPayloadFlits7_s.link 3).mgtWait = [] ∧ flitSlot pfReq 5 = wPayloadFlits7_v)
    ∧ (slotField wPayloadFlits7_v 127 125 = 1 ∧ hasData (reqOfSlot wPayloadFlits7_v).op = false ∧ (reqOfSlot
        wPayloadFlits7_v).rpl = false ∧ wPayloadFlits7_s.tagOpen 3 (reqOfSlot wPayloadFlits7_v).tag = false ∧
        wPayloadFlits7_s.inputError 3 (reqOfSlot wPayloadFlits7_v) = none ∧ (wPayloadFlits7_s.queue (3 * 512 + (reqOfSlot
        wPayloadFlits7_v).stream.toNat)).length + (wPayloadFlits7_s.refusedOf (3 * 512 + (reqOfSlot
        wPayloadFlits7_v).stream.toNat)).length < 64)
    ∧ (∀ (i : Nat), i < 14 → flitSlot wPayloadFlits0_f i = (0 : BitVec 128))
    ∧ (∀ (j : Nat), j < 14 → j ≠ 5 → flitSlot pfRsp j = (0 : BitVec 128))
    ∧ (∀ (j : Nat), j < 14 → j ≠ 5 → flitSlot pfAck j = (0 : BitVec 128))
    ∧ (∀ (j : Nat), j < 14 → j ≠ 5 → flitSlot pfReq j = (0 : BitVec 128))
    ∧ (flitGood Fec.clean wPayloadFlits0_f = true)
    ∧ (flitGood Fec.corrected wPayloadFlits3_f = false ∨ flitType wPayloadFlits3_f = 0 ∧ flitSeq wPayloadFlits3_f ≠
        (wPayloadFlits3_s.link 3).committed + (1 : BitVec 10) ∧ (wPayloadFlits3_s.link 3).held = [])
    ∧ (flitGood Fec.clean 0 = false)
    ∧ (flitGood Fec.clean pfRsp = true)
    ∧ (flitGood Fec.clean pfAck = true)
    ∧ (flitGood Fec.clean pfReq = true) := by
  refine ⟨?_, ?_, ?_, ?_, ?_, ?_, ?_, ?_, ?_, ?_, ?_, ?_, ?_, ?_, ?_, ?_, ?_, ?_, ?_, ?_⟩
  · decide +kernel
  · decide +kernel
  · decide +kernel
  · decide +kernel
  · decide +kernel
  · decide +kernel
  · decide +kernel
  · decide +kernel
  · decide +kernel
  · decide +kernel
  · decide +kernel
  · decide +kernel
  · decide +kernel
  · decide +kernel
  · exact pf7_good _ (by decide)
  · exact .inl (flit0_bad _)
  · exact flit0_bad _
  · exact pfRsp_good _ (by decide)
  · exact pfAck_good _ (by decide)
  · exact pfReq_good _ (by decide)

def rt : Link := { state := .retrain, width := 8, rate := 1, cmd := true, begun := 99 }
def wReplayAndRetrain0_s : State := Wl 3 al [(Obj.replayLimit, 3)]
def wReplayAndRetrain1_s : State := Wl 4 al
def wReplayAndRetrain2_s : State := Wl 3 { al with naks := 2, nakSeq := some 5 } [(Obj.replayLimit, 3)]
def wReplayAndRetrain3_s : State := Wl 3 rt
def wReplayAndRetrain4_s : State := Wl 3 { rt with begun := 0 } []
def wReplayAndRetrain5_s : State := Wl 3 { al with kept := [(5, 7)] }
def wReplayAndRetrain5_more : List (Nat × BitVec 2048) := []
theorem test_ReplayAndRetrain :
    (wReplayAndRetrain0_s.halfUp 3 = true ∧ (wReplayAndRetrain0_s.link 3).nakSeq ≠ some (5 : BitVec 10) ∧ 1 <
        wReplayAndRetrain0_s.eff Obj.replayLimit ∧ (wReplayAndRetrain0_s.link 3).kept = [] ∧ (wReplayAndRetrain0_s.link 3).state
        ≠ LinkState.retrain)
    ∧ (wReplayAndRetrain1_s.halfUp 3 = false)
    ∧ ((wReplayAndRetrain2_s.link 3).state = LinkState.active ∧ (wReplayAndRetrain2_s.link 3).nakSeq = some (5 : BitVec 10) ∧
        wReplayAndRetrain2_s.eff Obj.replayLimit ≤ (wReplayAndRetrain2_s.link 3).naks + 1)
    ∧ ((wReplayAndRetrain3_s.link 3).state = LinkState.retrain ∧ wReplayAndRetrain3_s.isSplit 3 = false ∧
        wReplayAndRetrain3_s.now ≤ (wReplayAndRetrain3_s.link 3).begun + 125000)
    ∧ ((wReplayAndRetrain4_s.link 3).state = LinkState.retrain ∧ (false = false ∨ (wReplayAndRetrain4_s.link 3).begun + 125000 <
        wReplayAndRetrain4_s.now))
    ∧ ((wReplayAndRetrain5_s.link 3).state = LinkState.active ∧ (wReplayAndRetrain5_s.link 3).kept = (5, (7 : BitVec 2048)) ::
        wReplayAndRetrain5_more ∧ 5 + 1 < wReplayAndRetrain5_s.now) := by
  refine ⟨?_, ?_, ?_, ?_, ?_, ?_⟩ <;> decide +kernel

def wLinkCommands0_s : State := Wl 6 al
def wLinkCommands1_s : State := Wl 6 { al with cmd := true }
def wLinkCommands2_s : State := Wl 6 { al with state := .failed }
theorem test_LinkCommands :
    (wLinkCommands0_s.accepts Level.board (Obj.linkCommand + 3 * 256) 1 = true ∧ wLinkCommands0_s.ports.split.toNat.testBit 3 =
        false ∧ BitVec.getLsbD (wLinkCommands0_s.obj (Obj.portConfig + 3 * 256)) 0 = false ∧ (wLinkCommands0_s.link (2 * 3)).cmd
        = false ∧ wLinkCommands0_s.accepts Level.board (Obj.linkCommand + 3 * 256) 2 = true ∧ (wLinkCommands0_s.link (2 *
        3)).state = LinkState.active ∧ wLinkCommands0_s.accepts Level.board (Obj.linkCommand + 3 * 256) 3 = true ∧
        (wLinkCommands0_s.link 6).state = LinkState.active ∧ BitVec.getLsbD (wLinkCommands0_s.obj (Obj.portConfig + 6 / 2 *
        256)) 0 = wLinkCommands0_s.isSplit 6 ∧ wLinkCommands0_s.usedHalf 6 = true)
    ∧ (wLinkCommands1_s.accepts Level.board (Obj.linkCommand + 3 * 256) 2 = true ∧ wLinkCommands1_s.ports.split.toNat.testBit 3
        = false ∧ (wLinkCommands1_s.link (2 * 3)).cmd = true)
    ∧ ((wLinkCommands2_s.link 6).state = LinkState.failed) := by
  refine ⟨?_, ?_, ?_⟩ <;> decide +kernel

def qr : Link := { state := .active, features := 8, mgtReturn := 2, mgtCredit := 3 }
def wPlannedRemoval0_s : State := let s := Wl 6 qr; s.withModes { s.modes with mode := .contained }
def wPlannedRemoval1_s : State := Wl 7 qr
def wPlannedRemoval2_s : State := Wl 6 qr
def wPlannedRemoval3_s : State := Wl 6 { qr with features := 0 }
def wPlannedRemoval4_s : State := Wl 6 { qr with state := .quiescing, begun := 99 }
def wPlannedRemoval5_s : State := Wl 6 { qr with state := .quiescing, begun := 0 } [(Obj.quiesceTimeout, 99)]
theorem test_PlannedRemoval :
    ((wPlannedRemoval0_s.link 6).state = LinkState.active ∧ (wPlannedRemoval0_s.link 6).features.getLsbD 3 = true ∧
        wPlannedRemoval0_s.modes.mode = Mode.contained ∧ 0 < (wPlannedRemoval0_s.link 6).mgtCredit ∧ ((wPlannedRemoval0_s.link
        6).state ≠ LinkState.quiescing ∨ wPlannedRemoval0_s.halfQuiet 6 = false) ∧ ((wPlannedRemoval0_s.link 6).state ≠
        LinkState.quiescing ∨ wPlannedRemoval0_s.now ≤ (wPlannedRemoval0_s.link 6).begun + wPlannedRemoval0_s.eff
        Obj.quiesceTimeout))
    ∧ (wPlannedRemoval1_s.halfUp 6 = false)
    ∧ ((wPlannedRemoval2_s.link 6).state = LinkState.active ∧ (wPlannedRemoval2_s.link 6).features.getLsbD 3 = true ∧
        wPlannedRemoval2_s.modes.mode ≠ Mode.contained)
    ∧ (wPlannedRemoval3_s.halfUp 6 = true ∧ (wPlannedRemoval3_s.link 6).features.getLsbD 3 = false)
    ∧ ((wPlannedRemoval4_s.link 6).state = LinkState.quiescing ∧ (wPlannedRemoval4_s.link 6).quiesced = false ∧
        wPlannedRemoval4_s.halfQuiet 6 = true ∧ 0 < (wPlannedRemoval4_s.link 6).mgtCredit)
    ∧ ((wPlannedRemoval5_s.link 6).state = LinkState.quiescing ∧ (wPlannedRemoval5_s.link 6).begun + wPlannedRemoval5_s.eff
        Obj.quiesceTimeout < wPlannedRemoval5_s.now ∧ 0 < (wPlannedRemoval5_s.link 6).mgtCredit) := by
  refine ⟨?_, ?_, ?_, ?_, ?_, ?_⟩ <;> decide +kernel

end Link

namespace Maint

def Wx (o : List (Nat × Nat)) (m : Option Maint) (now : Nat := 100) : State := let s := Wn o { maint := m }; s.withTime { s.time with stride := BitVec.ofNat 64 now }
def wMaintenanceCommands0_s : State := Wx [(Obj.maintBase, 0x1000), (Obj.maintLimit, 0x2000)] none
def wMaintenanceCommands2_s : State := Wx [(Obj.maintBase, 0x1000), (Obj.maintLimit, 0x2000)] (some { op := .cleanInvWays, next := 0 })
theorem test_MaintenanceCommands :
    ((1, MaintOp.cleanInvRange) ∈ [(1, MaintOp.cleanInvRange), (2, MaintOp.cleanRange), (3, MaintOp.cleanInvPartid), (4,
        MaintOp.cleanInvWays)])
    ∧ (wMaintenanceCommands0_s.accepts Level.board Obj.maintCommand 1 = true ∧ wMaintenanceCommands0_s.tiers.maint = none ∧
        (MaintOp.cleanInvRange = MaintOp.cleanInvRange ∨ MaintOp.cleanInvRange = MaintOp.cleanRange →
        wMaintenanceCommands0_s.eff Obj.maintBase < wMaintenanceCommands0_s.eff Obj.maintLimit ∧ wMaintenanceCommands0_s.eff
        Obj.maintLimit ≤ 2 ^ 42))
    ∧ (wMaintenanceCommands2_s.accepts Level.board Obj.maintCommand 1 = true ∧ wMaintenanceCommands2_s.tiers.maint.isSome = true
        ∧ wMaintenanceCommands2_s.accepts Level.board Obj.maintCommand 5 = true) := by
  refine ⟨?_, ?_, ?_⟩ <;> decide +kernel

def mr : Maint := { op := .cleanInvRange, next := 0x21 }
def mw : Maint := { op := .cleanInvWays, next := 70000 }
def mi : Maint := { op := .cleanInvRange, next := 0x40 }
def sl (m : Maint) : Fin 16 := ⟨m.slice % 16, Nat.mod_lt _ (by decide)⟩
def Wh (m : Maint) : State := let s := Wx [(Obj.maintBase, 0x1000), (Obj.maintLimit, 0x2000)] (some m); s.withHome { s.home with txns := [{ dTxn with id := 3, line := m.next, phase := .active }], nextId := 9 }
def wMaintenanceProgress0_s : State := Wx [(Obj.maintBase, 0x1000), (Obj.maintLimit, 0x2000)] (some mr)
def wMaintenanceProgress0_slice : Fin 16 := sl mr
def wMaintenanceProgress1_s : State := Wx [(Obj.maintWays, 0xFFFF)] (some mw)
def wMaintenanceProgress1_slice : Fin 16 := sl mw
def wMaintenanceProgress2_s : State := Wx [(Obj.maintBase, 0x1000), (Obj.maintLimit, 0x2000)] (some mi)
def wMaintenanceProgress2_slice : Fin 16 := sl mr
def wMaintenanceProgress4_s : State := Wh mr
def wMaintenanceProgress4_slice : Fin 16 := sl mr
theorem test_MaintenanceProgress :
    (wMaintenanceProgress0_s.tiers.maint = some mr ∧ mr.slice = wMaintenanceProgress0_slice.val ∧
        (wMaintenanceProgress0_s.takeSlot 0 (wMaintenanceProgress0_slice.val) (61) Cls.mt 2).isSome = true ∧
        wMaintenanceProgress0_s.maintEnd mr = false ∧ (mr.op = MaintOp.cleanInvRange ∨ mr.op = MaintOp.cleanRange) ∧
        wMaintenanceProgress0_s.inTransit mr.next = false ∧ wMaintenanceProgress0_s.lineHeld mr.next 0 = false ∧ ((∃ (e :
        Staged), e ∈ wMaintenanceProgress0_s.tiers.staging ∧ e.kind = StKind.placement) ∨ wMaintenanceProgress0_s.maintEnd mr =
        false))
    ∧ (wMaintenanceProgress1_s.tiers.maint = some mw ∧ mw.slice = wMaintenanceProgress1_slice.val ∧
        (wMaintenanceProgress1_s.takeSlot 0 (wMaintenanceProgress1_slice.val) (61) Cls.mt 2).isSome = true ∧
        wMaintenanceProgress1_s.maintEnd mw = false ∧ (¬(mw.op = MaintOp.cleanInvRange ∨ mw.op = MaintOp.cleanRange)) ∧
        wMaintenanceProgress1_s.maintLines mw.op mw.next = [])
    ∧ (wMaintenanceProgress2_s.tiers.maint = some mi ∧ (wMaintenanceProgress2_s.maintEnd mi = true ∨ mi.slice ≠
        wMaintenanceProgress2_slice.val ∨ wMaintenanceProgress2_s.takeSlot 0 (wMaintenanceProgress2_slice.val) (61) Cls.mt 2 =
        none) ∧ wMaintenanceProgress2_s.maintEnd mi = true)
    ∧ (wMaintenanceProgress4_s.tiers.maint = some mr ∧ mr.slice = wMaintenanceProgress4_slice.val ∧
        (wMaintenanceProgress4_s.takeSlot 0 (wMaintenanceProgress4_slice.val) (61) Cls.mt 2).isSome = true ∧
        wMaintenanceProgress4_s.maintEnd mr = false ∧ wMaintenanceProgress4_s.inTransit mr.next = false ∧
        wMaintenanceProgress4_s.lineHeld mr.next 0 = true)
    ∧ (∀ (x : Txn), x ∈ wMaintenanceProgress0_s.home.txns → x.job = some Job.maint → x.line ≠ mr.next)
    ∧ (∀ (x : Txn), x ∈ wMaintenanceProgress1_s.home.txns → x.job ≠ some Job.maint)
    ∧ (∀ (e : Staged), e ∈ wMaintenanceProgress2_s.tiers.staging → e.kind ≠ StKind.placement)
    ∧ (∀ (x : Txn), x ∈ wMaintenanceProgress4_s.home.txns → x.job = some Job.maint → x.line ≠ mr.next) := by
  refine ⟨?_, ?_, ?_, ?_, ?_, ?_, ?_, ?_⟩ <;> decide +kernel

def wPartitionAndRegionWrites0_s : State := Wx [] none
def wPartitionAndRegionWrites1_s : State := Wx [(arrIx Obj.regionLimit 3, 0x200000)] none
theorem test_PartitionAndRegionWrites :
    (wPartitionAndRegionWrites0_s.accepts Level.board Obj.partApply (BitVec.toNat (1 : Reg)) = true ∧
        wPartitionAndRegionWrites0_s.accepts Level.board (arrIx Obj.regionAttr 3) (BitVec.toNat (1 : Reg)) = true ∧
        (BitVec.toNat (1 : Reg)).testBit 0 = true ∧ wPartitionAndRegionWrites0_s.obj (arrIx Obj.regionLimit 3) ≤
        wPartitionAndRegionWrites0_s.obj (arrIx Obj.regionBase 3))
    ∧ (wPartitionAndRegionWrites1_s.accepts Level.board (arrIx Obj.regionAttr 3) (BitVec.toNat (1 : Reg)) = true ∧
        ((BitVec.toNat (1 : Reg)).testBit 0 = true → wPartitionAndRegionWrites1_s.obj (arrIx Obj.regionBase 3) <
        wPartitionAndRegionWrites1_s.obj (arrIx Obj.regionLimit 3))) := by
  refine ⟨?_, ?_⟩ <;> decide +kernel

end Maint

namespace Mem

def Wm (o : List (Nat × Nat)) (m : Mem) : State := (Wn o {}).withMem m
def pe (d : Bool) (i : Nat) : Pwb := { line := 0x1000, keyid := 5, data := 77, poison := false, demand := d, reserved := false, id := i }
def ch : Nat := chanOf (0x1000*128)
def chf : Fin 12 := ⟨ch % 12, by decide⟩
def rfr : List (Nat × Refresh) := [(ch * 4 + 1, { plan := [(6400, 2)] }), (64 + 3, { plan := [(6400, 7)] })]
def Wr : State := Wm [] { refresh := rfr, openRows := [(ch * 128 + 32 + 2, (5, 3)), (3, (7, 100000))] }
def pick : Nat × Nat × State := ((List.range 4).findSome? (fun r => (Wr.issuePlanned (ch * 4 + r) (6400 + 4 * 14)).map fun x => (r, x))).getD (0, 0, Wr)
def wRefreshAndRows0_r : Nat := pick.1
def wRefreshAndRows0_bank : Nat := pick.2.1
def wRefreshAndRows0_u : State := pick.2.2
def wRefreshAndRows1_u : State := ((Wr.issuePlanned (64 + 3) 6462).getD (0, Wr)).2
theorem test_RefreshAndRows :
    (Wr.refreshSlot 3 (2 * chf.val) Wr.now 14 = true)
    ∧ (Wr.mem.selfRefresh = false)
    ∧ (Wr.booked 3 (2 * chf.val) Wr.now 14 = false)
    ∧ ((List.findSome? (fun (r : Nat) => Option.map (fun (x : Nat × State) => (r, x)) (Wr.issuePlanned (chf.val * 4 + r) (Wr.now
        * 64 + 4 * 14))) (List.range 4) = some (wRefreshAndRows0_r, wRefreshAndRows0_bank, wRefreshAndRows0_u)) ∧
        (Wr.refreshSlot 2 3 Wr.now 14 = false ∨ Wr.mem.selfRefresh = true ∨ Wr.issuePlanned (64 + 3) (Wr.now * 64 + 2 * 14) =
        none) ∧ Wr.refreshSlot 2 3 Wr.now 31 = true ∧ Wr.booked 2 3 Wr.now 31 = false)
    ∧ (Wr.issuePlanned (64 + 3) (Wr.now * 64 + 2 * 31) = some (7, wRefreshAndRows1_u) ∧ (Wr.refreshSlot 3 (2 * chf.val) Wr.now
        31 = false ∨ Wr.mem.selfRefresh = true ∨ ∀ (r : Nat), r < 4 → Wr.issuePlanned (chf.val * 4 + r) (Wr.now * 64 + 4 * 31) =
        none)) := by
  refine ⟨?_, ?_, ?_, ?_, ?_⟩ <;> decide +kernel

def hl : Hull := { id := 1, line := 0x1000, keyid := 5, poison := false, data := some 5, src := (3, 3) }
def Wp2 : State := (Wn [] { hull := [hl] })
def pl : Staged := { id := 9, slice := 8, line := 0x1000, kind := .placement, st := .dirty, keyid := 5, partid := 6, data := some 8 }
def wPostedWriteIssue0_s : State := Wm [] { pwb := [(ch, [pe true 2])] }
def wPostedWriteIssue0_e : Pwb := pe true 2
def wPostedWriteIssue1_s : State := Wm [] { pwb := [(ch, [pe false 2])] }
def wPostedWriteIssue1_e : Pwb := pe false 2
def wPostedWriteIssue2_s : State := Wn [] { staging := [pl] }
theorem test_PostedWriteIssue :
    (wPostedWriteIssue0_s.demandReady chf.val 1 = some wPostedWriteIssue0_e ∧ wPostedWriteIssue0_s.writeSlot (chf.val) (1)
        Cls.dw wPostedWriteIssue0_e.line = true ∧ wPostedWriteIssue0_s.hullReady chf.val 1 = none ∧
        wPostedWriteIssue0_s.evictionReady chf.val 1 = none)
    ∧ (wPostedWriteIssue1_s.demandReady chf.val 3 = none ∧ wPostedWriteIssue1_s.evictionReady chf.val 3 = some
        wPostedWriteIssue1_e ∧ wPostedWriteIssue1_s.writeSlot (chf.val) 3 Cls.wb wPostedWriteIssue1_e.line = true)
    ∧ ((List.filter (fun (x : Staged) => x.kind == StKind.placement) wPostedWriteIssue2_s.tiers.staging = [pl]) ∧
        wPostedWriteIssue2_s.pwbUnreserved (chanOf (pl.line * 128)) < 256 ∧ Wp2.hullReady chf.val 3 = some hl ∧ Wp2.writeSlot
        (chf.val) 3 Cls.wb hl.line = true)
    ∧ (∀ (h : Hull), wPostedWriteIssue1_s.hullReady chf.val 3 = some h → wPostedWriteIssue1_e.id < h.id)
    ∧ (∀ (x : Txn), x ∈ wPostedWriteIssue2_s.home.txns → x.held = true → x.line ≠ pl.line)
    ∧ (∀ (e : Pwb), Wp2.evictionReady chf.val 3 = some e → hl.id < e.id) := by
  refine ⟨?_, ?_, ?_, ?_, ?_, ?_⟩
  · decide +kernel
  · decide +kernel
  · decide +kernel
  · simp [show wPostedWriteIssue1_s.hullReady chf.val 3 = none from by decide +kernel]
  · decide +kernel
  · simp [show Wp2.evictionReady chf.val 3 = none from by decide +kernel]

def Wd (d : Option Drain) (o : List (Nat × Nat)) : State := Wm ((Obj.drainPort, 4) :: o) { drain := d }
def dr : Drain := { port := 4 }
def drd : Drain := { port := 4, next := (List.range 16).map fun i => (i, 32768) }
def wHuskPortDrain0_s : State := Wd none []
def wHuskPortDrain1_s : State := Wd (some dr) [(Obj.huskPortState + 4, 3), (Obj.drainStatus, 1)]
def wHuskPortDrain2_s : State := Wd (some { dr with begun := some 5 }) []
def wHuskPortDrain2_d : Drain := { dr with begun := some 5 }
def wHuskPortDrain3_s : State := Wd (some drd) [(Obj.drainStatus, 1), (Obj.huskPortState + 4, 3)]
theorem test_HuskPortDrain :
    (wHuskPortDrain0_s.accepts Level.board Obj.drainCommand 1 = true ∧ wHuskPortDrain0_s.mem.drain = none ∧
        (wHuskPortDrain0_s.modes.mode = Mode.normal ∨ wHuskPortDrain0_s.modes.mode = Mode.partitioned ∨
        wHuskPortDrain0_s.modes.mode = Mode.degraded) ∧ wHuskPortDrain0_s.portInService (wHuskPortDrain0_s.eff Obj.drainPort) =
        true ∧ (16 ≤ wHuskPortDrain0_s.eff Obj.drainPort ∨ wHuskPortDrain0_s.portsOut < 2))
    ∧ (wHuskPortDrain1_s.accepts Level.board Obj.drainCommand 1 = true ∧ (wHuskPortDrain1_s.mem.drain.isSome = true ∨
        wHuskPortDrain1_s.modes.mode = Mode.passThrough ∨ wHuskPortDrain1_s.modes.mode = Mode.drain ∨
        wHuskPortDrain1_s.portInService (wHuskPortDrain1_s.eff Obj.drainPort) = false) ∧ wHuskPortDrain1_s.accepts Level.board
        Obj.drainCommand 2 = true ∧ wHuskPortDrain1_s.mem.drain = some dr ∧ dr.begun = none ∧ (wHuskPortDrain1_s.takeSlot 0 3
        (61) Cls.mt 2).isSome = true ∧ dr.abort = false ∧ wHuskPortDrain1_s.modes.mode.service = true ∧
        wHuskPortDrain1_s.portState dr.port = 3 ∧ dr.port < 16 ∧ dr.next.getD 3 0 < 32768)
    ∧ (wHuskPortDrain1_s.sector (3 * 32768 + dr.next.getD 3 0) (wayOnPort (3 * 32768 + dr.next.getD 3 0) dr.port) = none)
    ∧ (wHuskPortDrain2_s.accepts Level.board Obj.drainCommand 2 = true ∧ wHuskPortDrain2_s.mem.drain = some wHuskPortDrain2_d ∧
        wHuskPortDrain2_d.begun.isSome = true)
    ∧ (wHuskPortDrain3_s.mem.drain = some drd ∧ drd.abort = false ∧ drd.begun = none ∧ wHuskPortDrain3_s.obj Obj.drainStatus ≠
        (2 : Reg) ∧ wHuskPortDrain3_s.modes.mode.service = true)
    ∧ (∀ (sl : Nat), sl < 16 → drd.next.getD sl 0 = 32768)
    ∧ (∀ (j : Nat), j ∈ drainPorts drd.port → wHuskPortDrain3_s.portState j = 3) := by
  refine ⟨?_, ?_, ?_, ?_, ?_, ?_, ?_⟩ <;> decide +kernel

def mat : List (BitVec 64) := [1,2,3,4,5,6,7,8]
def wKeyCommands0_s : State := Wm [(Obj.keyIndex, 3)] {}
def wKeyCommands1_s : State := Wm [(Obj.keyIndex, 3)] { material := mat }
def wKeyCommands2_s : State := Wm [(Obj.keyIndex, 3)] { material := mat, keyPending := some (3, .random 1 3), keyAwaits := [4] }
def wKeyCommands2_p : KeyPair := .random 1 3
theorem test_KeyCommands :
    (wKeyCommands0_s.accepts Level.board Obj.keyIndex (BitVec.toNat (7 : Reg)) = true ∧ wKeyCommands0_s.accepts Level.board
        Obj.keyMaterial (BitVec.toNat (7 : Reg)) = true ∧ wKeyCommands0_s.mem.material.length < 8 ∧ wKeyCommands0_s.accepts
        Level.board Obj.keyCommand 1 = true ∧ wKeyCommands0_s.mem.keyPending = none ∧ (wKeyCommands0_s.mem.material.length < 8 ∨
        keyBytes wKeyCommands0_s.mem.material 0 = keyBytes wKeyCommands0_s.mem.material 4) ∧ wKeyCommands0_s.accepts Level.board
        Obj.keyCommand 2 = true)
    ∧ (wKeyCommands1_s.accepts Level.board Obj.keyMaterial (BitVec.toNat (7 : Reg)) = true ∧ 8 ≤
        wKeyCommands1_s.mem.material.length ∧ wKeyCommands1_s.accepts Level.board Obj.keyCommand 1 = true ∧
        wKeyCommands1_s.mem.keyPending = none ∧ keyBytes wKeyCommands1_s.mem.material 0 ≠ keyBytes wKeyCommands1_s.mem.material
        4)
    ∧ (wKeyCommands2_s.mem.keyPending = some (3, wKeyCommands2_p) ∧ (wKeyCommands2_s.entriesOfKey 3).any
        wKeyCommands2_s.mem.keyAwaits.contains = false) := by
  refine ⟨?_, ?_, ?_⟩ <;> decide +kernel

def wMemoryPopulation1_s : State := withObjs [(Obj.memDimmType, 1), (Obj.memDpc, 1), (Obj.memRanks, 1), (Obj.memDensity, 1), (Obj.memSpeedMax, 3)] ({ modes := { steps := 0x3E } })
theorem test_MemoryPopulation :
    (W0.accepts Level.board Obj.memConfigValid (BitVec.toNat (1 : Reg)) = true)
    ∧ (W0.modes.mode ≠ Mode.bringup)
    ∧ (wMemoryPopulation1_s.accepts Level.board Obj.memConfigValid (BitVec.toNat (1 : Reg)) = true ∧
        wMemoryPopulation1_s.modes.mode = Mode.bringup ∧ BitVec.toNat (1 : Reg) % 256 = 1 ∧ wMemoryPopulation1_s.stepDone 2 =
        true ∧ wMemoryPopulation1_s.stepDone 7 = false) := by
  refine ⟨?_, ?_, ?_⟩ <;> decide +kernel

end Mem

namespace Modes

def wd (s : State) (f : Modes → Modes) : State := s.withModes (f s.modes)
def WN := Wn [] {}
/-- A gait that lists mode bits `k`. -/
def img (k : Nat) : GaitSrc := .image ([0, 0, BitVec.ofNat 64 (k * 2 ^ 56)] ++ List.replicate 1733 0)
def gl (g : GaitSrc) (s : State) : State := s.withGait { banks := [(1, g)] }
def wModeRequests4_s : State := wd WN fun m => { m with resetAt := some 100 }
theorem test_ModeRequests :
    (WN.accepts Level.board Obj.modeRequest Mode.partitioned.code = true)
    ∧ (WN.requestCheck Level.board Mode.partitioned = 0)
    ∧ (WN.accepts Level.board Obj.modeRequest Mode.keep.code = true)
    ∧ (WN.requestCheck Level.board Mode.keep ≠ 0)
    ∧ (WN.requestCheck Level.board Mode.keep ≠ 12)
    ∧ (wModeRequests4_s.accepts Level.board Obj.modeRequest Mode.partitioned.code = true ∧ wModeRequests4_s.requestCheck
        Level.board Mode.partitioned = 12)
    ∧ ((Instr.modeRequestPartitioned, Mode.partitioned) ∈ [(Instr.modeRequestKeep, Mode.keep), (Instr.modeRequestPassThrough,
        Mode.passThrough), (Instr.modeRequestNormal, Mode.normal), (Instr.modeRequestPartitioned, Mode.partitioned),
        (Instr.modeRequestRest, Mode.rest), (Instr.modeRequestDrain, Mode.drain), (Instr.modeRequestDegraded, Mode.degraded),
        (Instr.modeRequestTest, Mode.test)])
    ∧ ((Instr.modeRequestKeep, Mode.keep) ∈ [(Instr.modeRequestKeep, Mode.keep), (Instr.modeRequestPassThrough,
        Mode.passThrough), (Instr.modeRequestNormal, Mode.normal), (Instr.modeRequestPartitioned, Mode.partitioned),
        (Instr.modeRequestRest, Mode.rest), (Instr.modeRequestDrain, Mode.drain), (Instr.modeRequestDegraded, Mode.degraded),
        (Instr.modeRequestTest, Mode.test)]) := by
  refine ⟨?_, ?_, ?_, ?_, ?_, ?_, ?_, ?_⟩
  · decide +kernel
  · decide +kernel
  · decide +kernel
  · decide +kernel
  · decide +kernel
  · decide +kernel
  · simp
  · simp

def WTS (v : BitVec 32) : State := (wd WN fun m => { m with mode := .bringup }).withPkg { WN.pkg with sampled := v }
def wModeChecks0_s : State := wd WN fun m => { m with resetAt := some 100 }
def wModeChecks2_s : State := WTS 0
def wModeChecks3_s : State := WTS 0x4000000
def wModeChecks5_s : State := wd WN fun m => { m with mode := .drain }
def wModeChecks6_s : State := wd WN fun m => { m with trans := some .restStop }
def wModeChecks7_s : State := gl (img 0) WN
def wModeChecks8_s : State := withObjs [(Obj.reduced, 1)] WN
def wModeChecks10_s : State := wd WN fun m => { m with mode := .drain }
def wModeChecks11_s : State := withObjs [(Obj.drainDone, 1)] (wd WN fun m => { m with mode := .drain })
theorem test_ModeChecks :
    ((wModeChecks0_s.modes.mode.service = true ∧ (Mode.partitioned.service = true ∨ Mode.partitioned = Mode.rest) ∨
        wModeChecks0_s.modes.mode = Mode.rest ∧ Mode.partitioned.service = true ∨ wModeChecks0_s.modes.mode = Mode.drain ∧
        Mode.partitioned = Mode.keep ∨ wModeChecks0_s.modes.mode = Mode.bringup ∧ Mode.partitioned = Mode.test) ∧
        (Mode.partitioned = Mode.keep ∨ Mode.partitioned = Mode.test → Level.board = Level.board) ∧ wModeChecks0_s.modes.resetAt
        = some wModeChecks0_s.now ∧ (WN.modes.mode.service = true ∧ (Mode.partitioned.service = true ∨ Mode.partitioned =
        Mode.rest) ∨ WN.modes.mode = Mode.rest ∧ Mode.partitioned.service = true ∨ WN.modes.mode = Mode.drain ∧ Mode.partitioned
        = Mode.keep ∨ WN.modes.mode = Mode.bringup ∧ Mode.partitioned = Mode.test) ∧ (Mode.partitioned = Mode.keep ∨
        Mode.partitioned = Mode.test → Level.host = Level.board) ∧ WN.modes.resetAt ≠ some WN.now ∧ WN.inTransition = false ∧
        Mode.partitioned.service = true ∧ WN.gaitLists Mode.partitioned = true ∧ (Mode.partitioned = Mode.normal ∨
        Mode.partitioned = Mode.partitioned → WN.obj Obj.reduced ≠ (1 : Reg)) ∧ (Mode.partitioned = Mode.degraded → WN.obj
        Obj.reduced ≠ (0 : Reg)))
    ∧ ((wModeChecks2_s.modes.mode.service = true ∧ (Mode.test.service = true ∨ Mode.test = Mode.rest) ∨
        wModeChecks2_s.modes.mode = Mode.rest ∧ Mode.test.service = true ∨ wModeChecks2_s.modes.mode = Mode.drain ∧ Mode.test =
        Mode.keep ∨ wModeChecks2_s.modes.mode = Mode.bringup ∧ Mode.test = Mode.test) ∧ (Mode.test = Mode.keep ∨ Mode.test =
        Mode.test → Level.board = Level.board) ∧ wModeChecks2_s.modes.resetAt ≠ some wModeChecks2_s.now ∧
        wModeChecks2_s.inTransition = false ∧ Mode.test = Mode.test ∧ wModeChecks2_s.pkg.sampled.getLsbD 26 = false)
    ∧ ((wModeChecks3_s.modes.mode.service = true ∧ (Mode.test.service = true ∨ Mode.test = Mode.rest) ∨
        wModeChecks3_s.modes.mode = Mode.rest ∧ Mode.test.service = true ∨ wModeChecks3_s.modes.mode = Mode.drain ∧ Mode.test =
        Mode.keep ∨ wModeChecks3_s.modes.mode = Mode.bringup ∧ Mode.test = Mode.test) ∧ wModeChecks3_s.modes.resetAt ≠ some
        wModeChecks3_s.now ∧ wModeChecks3_s.inTransition = false ∧ wModeChecks3_s.pkg.sampled.getLsbD 26 = true ∧
        (¬(WN.modes.mode.service = true ∧ (Mode.contained.service = true ∨ Mode.contained = Mode.rest) ∨ WN.modes.mode =
        Mode.rest ∧ Mode.contained.service = true ∨ WN.modes.mode = Mode.drain ∧ Mode.contained = Mode.keep ∨ WN.modes.mode =
        Mode.bringup ∧ Mode.contained = Mode.test)))
    ∧ ((wModeChecks5_s.modes.mode.service = true ∧ (Mode.keep.service = true ∨ Mode.keep = Mode.rest) ∨
        wModeChecks5_s.modes.mode = Mode.rest ∧ Mode.keep.service = true ∨ wModeChecks5_s.modes.mode = Mode.drain ∧ Mode.keep =
        Mode.keep ∨ wModeChecks5_s.modes.mode = Mode.bringup ∧ Mode.keep = Mode.test) ∧ (Mode.keep = Mode.keep ∨ Mode.keep =
        Mode.test) ∧ Level.host ≠ Level.board)
    ∧ ((wModeChecks6_s.modes.mode.service = true ∧ (Mode.partitioned.service = true ∨ Mode.partitioned = Mode.rest) ∨
        wModeChecks6_s.modes.mode = Mode.rest ∧ Mode.partitioned.service = true ∨ wModeChecks6_s.modes.mode = Mode.drain ∧
        Mode.partitioned = Mode.keep ∨ wModeChecks6_s.modes.mode = Mode.bringup ∧ Mode.partitioned = Mode.test) ∧
        wModeChecks6_s.modes.resetAt ≠ some wModeChecks6_s.now ∧ (wModeChecks6_s.modes.trans ≠ none ∨
        wModeChecks6_s.modes.settle ≠ 0))
    ∧ ((wModeChecks7_s.modes.mode.service = true ∧ (Mode.normal.service = true ∨ Mode.normal = Mode.rest) ∨
        wModeChecks7_s.modes.mode = Mode.rest ∧ Mode.normal.service = true ∨ wModeChecks7_s.modes.mode = Mode.drain ∧
        Mode.normal = Mode.keep ∨ wModeChecks7_s.modes.mode = Mode.bringup ∧ Mode.normal = Mode.test) ∧ (Mode.normal = Mode.keep
        ∨ Mode.normal = Mode.test → Level.host = Level.board) ∧ wModeChecks7_s.modes.resetAt ≠ some wModeChecks7_s.now ∧
        wModeChecks7_s.inTransition = false ∧ Mode.normal.service = true ∧ wModeChecks7_s.gaitLists Mode.normal = false)
    ∧ ((wModeChecks8_s.modes.mode.service = true ∧ (Mode.normal.service = true ∨ Mode.normal = Mode.rest) ∨
        wModeChecks8_s.modes.mode = Mode.rest ∧ Mode.normal.service = true ∨ wModeChecks8_s.modes.mode = Mode.drain ∧
        Mode.normal = Mode.keep ∨ wModeChecks8_s.modes.mode = Mode.bringup ∧ Mode.normal = Mode.test) ∧
        wModeChecks8_s.modes.resetAt ≠ some wModeChecks8_s.now ∧ wModeChecks8_s.inTransition = false ∧ wModeChecks8_s.gaitLists
        Mode.normal = true ∧ (Mode.normal = Mode.normal ∨ Mode.normal = Mode.partitioned) ∧ wModeChecks8_s.obj Obj.reduced = (1
        : Reg) ∧ (WN.modes.mode.service = true ∧ (Mode.degraded.service = true ∨ Mode.degraded = Mode.rest) ∨ WN.modes.mode =
        Mode.rest ∧ Mode.degraded.service = true ∨ WN.modes.mode = Mode.drain ∧ Mode.degraded = Mode.keep ∨ WN.modes.mode =
        Mode.bringup ∧ Mode.degraded = Mode.test) ∧ (Mode.degraded = Mode.keep ∨ Mode.degraded = Mode.test → Level.host =
        Level.board) ∧ Mode.degraded = Mode.degraded ∧ WN.gaitLists Mode.degraded = true ∧ WN.obj Obj.reduced = (0 : Reg))
    ∧ ((wModeChecks10_s.modes.mode.service = true ∧ (Mode.keep.service = true ∨ Mode.keep = Mode.rest) ∨
        wModeChecks10_s.modes.mode = Mode.rest ∧ Mode.keep.service = true ∨ wModeChecks10_s.modes.mode = Mode.drain ∧ Mode.keep
        = Mode.keep ∨ wModeChecks10_s.modes.mode = Mode.bringup ∧ Mode.keep = Mode.test) ∧ (Mode.keep = Mode.keep ∨ Mode.keep =
        Mode.test → Level.board = Level.board) ∧ wModeChecks10_s.modes.resetAt ≠ some wModeChecks10_s.now ∧
        wModeChecks10_s.inTransition = false ∧ Mode.keep = Mode.keep ∧ wModeChecks10_s.obj Obj.drainDone = (0 : Reg))
    ∧ ((wModeChecks11_s.modes.mode.service = true ∧ (Mode.keep.service = true ∨ Mode.keep = Mode.rest) ∨
        wModeChecks11_s.modes.mode = Mode.rest ∧ Mode.keep.service = true ∨ wModeChecks11_s.modes.mode = Mode.drain ∧ Mode.keep
        = Mode.keep ∨ wModeChecks11_s.modes.mode = Mode.bringup ∧ Mode.keep = Mode.test) ∧ wModeChecks11_s.modes.resetAt ≠ some
        wModeChecks11_s.now ∧ wModeChecks11_s.inTransition = false ∧ wModeChecks11_s.obj Obj.drainDone ≠ (0 : Reg) ∧
        (WN.modes.mode.service = true ∧ (Mode.rest.service = true ∨ Mode.rest = Mode.rest) ∨ WN.modes.mode = Mode.rest ∧
        Mode.rest.service = true ∨ WN.modes.mode = Mode.drain ∧ Mode.rest = Mode.keep ∨ WN.modes.mode = Mode.bringup ∧ Mode.rest
        = Mode.test) ∧ (Mode.rest = Mode.keep ∨ Mode.rest = Mode.test → Level.host = Level.board) ∧ Mode.rest = Mode.rest) := by
  refine ⟨?_, ?_, ?_, ?_, ?_, ?_, ?_, ?_, ?_⟩ <;> decide +kernel

def Wtr : State := wd WN fun m => { m with trans := some (.service .partitioned), asked := true, begun := 99 }
def wModeTransitions1_s : State := gl (img 0) Wtr
def wModeTransitions2_s : State := Wtr.withRel { Wtr.rel with fatal := [(3, none, 4)] }
theorem test_ModeTransitions :
    (Wtr.modes.trans = some (Trans.service Mode.partitioned))
    ∧ (Wtr.modes.begun < Wtr.now)
    ∧ (Wtr.swapCommitted = false)
    ∧ (Wtr.rel.fatal = [])
    ∧ (Wtr.gaitLists Mode.partitioned = true)
    ∧ (wModeTransitions1_s.modes.trans = some (Trans.service Mode.partitioned) ∧ wModeTransitions1_s.modes.begun <
        wModeTransitions1_s.now ∧ wModeTransitions1_s.swapCommitted = false ∧ wModeTransitions1_s.rel.fatal = [] ∧
        wModeTransitions1_s.gaitLists Mode.partitioned = false)
    ∧ (wModeTransitions2_s.modes.trans = some (Trans.service Mode.partitioned) ∧ (wModeTransitions2_s.now ≤
        wModeTransitions2_s.modes.begun ∨ wModeTransitions2_s.swapCommitted = true ∨ wModeTransitions2_s.rel.fatal ≠ [])) := by
  refine ⟨?_, ?_, ?_, ?_, ?_, ?_, ?_⟩ <;> decide +kernel

def tx : Txn := { dTxn with half := some 3 }
def Wrs (t : List Txn) (b : Nat) : State := let s := wd WN fun m => { m with trans := some .restStop, asked := true, begun := b }; s.withHome { s.home with txns := t }
def wRestEntryAndExit0_s : State := Wrs [] 99
def wRestEntryAndExit1_s : State := Wrs [tx] 99
def wRestEntryAndExit2_s : State := withObjs [(Obj.stopLimit, 64)] (Wrs [tx] 30)
def wRestEntryAndExit3_s : State := wd WN fun m => { m with mode := .rest, trans := some (.restExit .normal), begun := 99 }
def wRestEntryAndExit4_s : State := (Wrs [] 99).withRel { (Wrs [] 99).rel with fatal := [(3, none, 4)] }
def wRestEntryAndExit5_s : State := (wd WN fun m => { m with mode := .rest, trans := some (.restExit .normal), begun := 99 }).withRel { WN.rel with fatal := [(3, none, 4)] }
theorem test_RestEntryAndExit :
    (wRestEntryAndExit0_s.modes.trans = some Trans.restStop ∧ wRestEntryAndExit0_s.modes.begun < wRestEntryAndExit0_s.now ∧
        wRestEntryAndExit0_s.swapCommitted = false ∧ wRestEntryAndExit0_s.quiet = true ∧ wRestEntryAndExit0_s.rel.fatal = [] ∧
        wRestEntryAndExit0_s.now < wRestEntryAndExit0_s.modes.begun + 1 + wRestEntryAndExit0_s.eff Obj.stopLimit)
    ∧ (wRestEntryAndExit1_s.modes.trans = some Trans.restStop ∧ wRestEntryAndExit1_s.quiet = false)
    ∧ (wRestEntryAndExit2_s.modes.trans = some Trans.restStop ∧ wRestEntryAndExit2_s.modes.asked = true ∧
        wRestEntryAndExit2_s.quiet = false ∧ wRestEntryAndExit2_s.modes.begun + 1 + wRestEntryAndExit2_s.eff Obj.stopLimit ≤
        wRestEntryAndExit2_s.now)
    ∧ (wRestEntryAndExit3_s.modes.trans = some (Trans.restExit Mode.normal) ∧ wRestEntryAndExit3_s.modes.begun <
        wRestEntryAndExit3_s.now ∧ wRestEntryAndExit3_s.modes.mode = Mode.rest ∧ wRestEntryAndExit3_s.rel.fatal = [] ∧
        wRestEntryAndExit3_s.modes.settleWanted = false)
    ∧ (wRestEntryAndExit4_s.rel.fatal ≠ [] ∧ wRestEntryAndExit4_s.modes.trans = some Trans.restStop)
    ∧ (wRestEntryAndExit5_s.rel.fatal ≠ [] ∧ wRestEntryAndExit5_s.modes.trans = some (Trans.restExit Mode.normal)) := by
  refine ⟨?_, ?_, ?_, ?_, ?_, ?_⟩ <;> decide +kernel

def Wset (n : Nat) (t : List Txn) : State := let s := wd WN fun m => { m with settle := n, settleSince := 99 }; s.withHome { s.home with txns := t }
def Wset2 : State := wd WN fun m => { m with settle := 2, settleSince := 99, recallNext := (List.range 16).map fun i => (i, 16384) }
def wSettlePhases2_s : State := Wset 1 []
def wSettlePhases3_s : State := Wset 1 [tx]
def wSettlePhases5_s : State := Wset 3 []
theorem test_SettlePhases :
    (WN.modes.mode.service = true)
    ∧ (WN.modes.settle = 0)
    ∧ (WN.modes.settleWanted = false)
    ∧ (WN.accepts Level.board Obj.resetCommand 1 = true)
    ∧ (WN.modes.settle ≠ 3)
    ∧ (wSettlePhases2_s.modes.settle = 1 ∧ wSettlePhases2_s.modes.settleSince < wSettlePhases2_s.now ∧ wSettlePhases2_s.quiet =
        true)
    ∧ (wSettlePhases3_s.modes.settle = 1 ∧ wSettlePhases3_s.quiet = false ∧ Wset2.modes.settle = 2 ∧ Wset2.recalled = true)
    ∧ (wSettlePhases5_s.modes.settle = 3 ∧ wSettlePhases5_s.rel.sweep = []) := by
  refine ⟨?_, ?_, ?_, ?_, ?_, ?_, ?_, ?_⟩ <;> decide +kernel

def wDrainWalk0_s : State := wd WN fun m => { m with mode := .drain, drainWalk := true, drainNext := [(3, 8200)] }
def wDrainWalk1_s : State := wd WN fun m => { m with mode := .drain, drainWalk := true, drainNext := [(3, 17)] }
theorem test_DrainWalk :
    (wDrainWalk0_s.modes.drainNext.getD 3 0 = 8200 ∧ wDrainWalk0_s.modes.mode = Mode.drain ∧ wDrainWalk0_s.modes.drainWalk =
        true ∧ (wDrainWalk0_s.takeSlot 0 3 (61) Cls.mt 2).isSome = true ∧ wDrainWalk0_s.kernelOnly = false ∧
        wDrainWalk0_s.tiers.hull.length ≤ 4096)
    ∧ (wDrainWalk1_s.modes.drainNext.getD 3 0 = 17 ∧ wDrainWalk1_s.modes.mode = Mode.drain ∧ wDrainWalk1_s.modes.drainWalk =
        true ∧ (wDrainWalk1_s.takeSlot 0 3 (61) Cls.mt 2).isSome = true ∧ WN.modes.drainNext.getD 3 0 = 0 ∧ (WN.modes.mode ≠
        Mode.drain ∨ 40960 ≤ 0 ∨ WN.takeSlot 0 3 (61) Cls.mt 2 = none))
    ∧ (∀ (w : Nat), w < 16 → wDrainWalk0_s.sector (3 * 32768 + (8200 - 8192)) w = none)
    ∧ (∀ (r : Repl), r ∈ wDrainWalk0_s.tiers.repl → r.hset ≠ 3 * 32768 + (8200 - 8192))
    ∧ (∀ (e : Staged), e ∈ wDrainWalk0_s.tiers.staging → e.target = none)
    ∧ (∀ (w : Nat) (t : KTag), wDrainWalk1_s.ktag (3 * 8192 + 17) w = some t → t.st = LState.clean) := by
  refine ⟨?_, ?_, ?_, ?_, ?_, ?_⟩
  · decide +kernel
  · decide +kernel
  · decide +kernel
  · decide +kernel
  · decide +kernel
  · intro w t h
    have e : (none : Option KTag) = some t := h
    cases e

def Wdr (b : Nat) : State := (withObjs [(Obj.huskPortState + 4, 4)] WN).withMem { drain := some { port := 4, begun := some b } }
def wDegradedAndDrained0_s : State := gl (img 0) (Wdr 95)
def wDegradedAndDrained0_d : Drain := { port := 4, begun := some 95 }
def wDegradedAndDrained1_s : State := gl (img 0) (Wdr 96)
def wDegradedAndDrained1_d : Drain := { port := 4, begun := some 96 }
def wDegradedAndDrained2_s : State := withObjs [(Obj.degradePending, 1)] WN
theorem test_DegradedAndDrained :
    (wDegradedAndDrained0_s.mem.drain = some wDegradedAndDrained0_d ∧ wDegradedAndDrained0_d.begun = some 95 ∧ 95 + 5 ≤
        wDegradedAndDrained0_s.now ∧ wDegradedAndDrained0_d.port < 16 ∧ wDegradedAndDrained0_s.portState
        wDegradedAndDrained0_d.port = 4 ∧ wDegradedAndDrained0_s.modes.mode = Mode.normal ∧ wDegradedAndDrained0_s.gaitLists
        Mode.degraded = false ∧ (wDegradedAndDrained0_s.obj Obj.degradePending = (0 : Reg) ∨ wDegradedAndDrained0_s.gaitLists
        Mode.degraded = false ∨ wDegradedAndDrained0_s.now ≤ wDegradedAndDrained0_s.rel.degradeAt))
    ∧ (wDegradedAndDrained1_s.mem.drain = some wDegradedAndDrained1_d ∧ wDegradedAndDrained1_d.begun = some 96 ∧
        wDegradedAndDrained1_s.now < 96 + 5)
    ∧ (wDegradedAndDrained2_s.obj Obj.degradePending = (1 : Reg) ∧ wDegradedAndDrained2_s.rel.degradeAt <
        wDegradedAndDrained2_s.now ∧ wDegradedAndDrained2_s.modes.mode = Mode.normal ∧ wDegradedAndDrained2_s.gaitLists
        Mode.degraded = true) := by
  refine ⟨?_, ?_, ?_⟩ <;> decide +kernel

end Modes

namespace Rel

def Wre (r : Rel) (t : Tiers := {}) (o : List (Nat × Nat) := []) : State := (Wn o t).withRel r
def kt : KTag := { tag := 9, st := .clean, keyid := 3, partid := 6 }
def ws (c : Nat) (u : Nat) (cr : Nat) : State := Wre { credit := [(c, cr)], next := [(c, u)] } { ktags := [((3 * 8192 + 41) * 12 + 8, kt)] }
def wScrubReads0_s : State := ws (scrubKey .kernelData 3) 500 200
def wScrubReads0_i : Instr := .scrubRead .kernelData 3 35 []
def wScrubReads1_s : State := ws (scrubKey .kernelData 3) 500 300
def wScrubReads1_i : Instr := .scrubRead .kernelData 3 35 []
theorem test_ScrubReads :
    ((wScrubReads0_i, ScrubKind.kernelData, 3) ∈ [(Instr.scrubRead ScrubKind.tagSets (3 : Fin 16) (35 : Fin 64) [],
        ScrubKind.tagSets, 3), (Instr.scrubRead ScrubKind.kernelData (3 : Fin 16) (35 : Fin 64) [], ScrubKind.kernelData, 3),
        (Instr.scrubRead ScrubKind.husk (3 : Fin 16) (35 : Fin 64) [], ScrubKind.husk, 3), (Instr.scrubRead ScrubKind.ddr5 (3 :
        Fin 16) (35 : Fin 64) [], ScrubKind.ddr5, 3)] ∧ (wScrubReads0_s.rel.credit.getD (scrubKey ScrubKind.kernelData 3) 0 <
        256 ∨ wScrubReads0_s.modes.mode.service = false ∨ wScrubReads0_s.scrubRow ScrubKind.kernelData 3 = false ∨
        wScrubReads0_s.eff (Obj.scrubRate + ScrubKind.kernelData.num) = 0))
    ∧ ((wScrubReads1_i, ScrubKind.kernelData, 3) ∈ [(Instr.scrubRead ScrubKind.tagSets (3 : Fin 16) (35 : Fin 64) [],
        ScrubKind.tagSets, 3), (Instr.scrubRead ScrubKind.kernelData (3 : Fin 16) (35 : Fin 64) [], ScrubKind.kernelData, 3),
        (Instr.scrubRead ScrubKind.husk (3 : Fin 16) (35 : Fin 64) [], ScrubKind.husk, 3), (Instr.scrubRead ScrubKind.ddr5 (3 :
        Fin 16) (35 : Fin 64) [], ScrubKind.ddr5, 3)] ∧ wScrubReads1_s.modes.mode.service = true ∧ 256 ≤
        wScrubReads1_s.rel.credit.getD (scrubKey ScrubKind.kernelData 3) 0 ∧ wScrubReads1_s.eff (Obj.scrubRate +
        ScrubKind.kernelData.num) ≠ 0 ∧ wScrubReads1_s.scrubRow ScrubKind.kernelData 3 = true ∧ wScrubReads1_s.rel.next.getD
        (scrubKey ScrubKind.kernelData 3) 0 = 500 ∧ (wScrubReads1_s.engineSlot ScrubKind.kernelData 3 (35) Cls.sc
        (wScrubReads1_s.unitDram ScrubKind.kernelData 3 500) (unitPlace ScrubKind.kernelData 3 500)).isSome = true ∧
        (ScrubKind.kernelData = ScrubKind.husk → wScrubReads1_s.huskUnitGood 3 500 = true) ∧ wScrubReads1_s.rel.corrections = []
        ∧ wScrubReads1_s.tiers.staging = [] ∧ wScrubReads1_s.ktag (3 * 8192 + (500 / 12 : Nat)) (500 % 12) = some kt)
    ∧ (kt.st = LState.clean) := by
  refine ⟨?_, ?_, ?_⟩ <;> decide +kernel

def img0 : List Nat := (Wre {}).unitImage .kernelData 3 500
def co (w : Bool) (l : List Nat) : Correction := { kind := .kernelData, row := 3, unit := 500, bits := [(2, 7)], was := l, written := w }
def corr0 : Correction := { kind := .kernelData, row := 3, unit := 500, bits := [(2, 7)] }
def Wch : State := Wre { corrections := [co false img0, corr0] } { ktags := [((3 * 8192 + 41) * 12 + 8, kt)] }
def wCorrections0_s : State := Wch.withHome { Wch.home with txns := (Wch.unitLines .kernelData 3 500).map fun l => { dTxn with id := 4, line := l, phase := .active } }
def wCorrections0_c : Correction := co false img0
def wCorrections0_more : List Correction := [corr0]
def wCorrections1_s : State := Wre { corrections := [co false [1], corr0] }
def wCorrections1_c : Correction := co false [1]
def wCorrections1_more : List Correction := [corr0]
def wCorrections2_s : State := Wre { corrections := [co false img0, corr0] } { ktags := [((3 * 8192 + 41) * 12 + 8, kt)] }
def wCorrections2_c : Correction := co false img0
def wCorrections2_more : List Correction := [corr0]
def wCorrections3_s : State := Wre { corrections := [co true img0, corr0] }
def wCorrections3_c : Correction := co true img0
def wCorrections3_more : List Correction := [corr0]
def wCorrections3_x : Nat × Nat := (2, 7)
def wCorrections4_s : State := { Wre { corrections := [co true img0, corr0] } with modes := { mode := .rest } }
def wCorrections4_c : Correction := co true img0
def wCorrections4_more : List Correction := [corr0]
theorem test_Corrections :
    (wCorrections0_s.rel.corrections = wCorrections0_c :: wCorrections0_more ∧ wCorrections0_c.kind = ScrubKind.kernelData ∧
        wCorrections0_c.row = 3 ∧ wCorrections0_s.modes.mode.service = true ∧ wCorrections0_c.written = false ∧
        wCorrections0_s.unitImage ScrubKind.kernelData 3 wCorrections0_c.unit = wCorrections0_c.was ∧
        (((wCorrections0_s.unitLines ScrubKind.kernelData 3 wCorrections0_c.unit).any fun (l : Nat) => wCorrections0_s.lineHeld
        l 0) = true))
    ∧ (wCorrections1_s.rel.corrections = wCorrections1_c :: wCorrections1_more ∧ wCorrections1_c.kind = ScrubKind.kernelData ∧
        wCorrections1_c.row = 3 ∧ wCorrections1_s.modes.mode.service = true ∧ wCorrections1_c.written = false ∧
        wCorrections1_s.unitImage ScrubKind.kernelData 3 wCorrections1_c.unit ≠ wCorrections1_c.was)
    ∧ (wCorrections2_s.rel.corrections = wCorrections2_c :: wCorrections2_more ∧ wCorrections2_c.kind = ScrubKind.kernelData ∧
        wCorrections2_c.row = 3 ∧ wCorrections2_s.modes.mode.service = true ∧ wCorrections2_c.written = false ∧
        wCorrections2_s.unitImage ScrubKind.kernelData 3 wCorrections2_c.unit = wCorrections2_c.was ∧
        (((wCorrections2_s.unitLines ScrubKind.kernelData 3 wCorrections2_c.unit).any fun (l : Nat) => wCorrections2_s.lineHeld
        l 0) = false) ∧ (wCorrections2_s.engineSlot ScrubKind.kernelData 3 (1) Cls.mt (wCorrections2_s.unitDram
        ScrubKind.kernelData 3 wCorrections2_c.unit) (unitPlace ScrubKind.kernelData 3 wCorrections2_c.unit)).isSome = true)
    ∧ (wCorrections3_s.rel.corrections = wCorrections3_c :: wCorrections3_more ∧ wCorrections3_c.kind = ScrubKind.kernelData ∧
        wCorrections3_c.row = 3 ∧ wCorrections3_s.modes.mode.service = true ∧ wCorrections3_c.written = true ∧
        (wCorrections3_s.engineSlot ScrubKind.kernelData 3 (1) Cls.mt (wCorrections3_s.unitDram ScrubKind.kernelData 3
        wCorrections3_c.unit) (unitPlace ScrubKind.kernelData 3 wCorrections3_c.unit)).isSome = true ∧ wCorrections3_c.bits =
        [wCorrections3_x] ∧ wCorrections3_s.rel.stopped = false ∧ wCorrections3_s.rel.work = none ∧
        wCorrections3_s.rel.queue.length < 16)
    ∧ (wCorrections4_s.rel.corrections = wCorrections4_c :: wCorrections4_more ∧ wCorrections4_c.kind = ScrubKind.kernelData ∧
        wCorrections4_c.row = 3 ∧ wCorrections4_s.modes.mode.service = false) := by
  refine ⟨?_, ?_, ?_, ?_, ?_⟩ <;> decide +kernel

def wBucketLeaks0_s : State := Wre { lastLeak := [(7, 40)] } {} [(Obj.bucketLeak + 7, 60), (Obj.bucketLevel + 7, 9)]
def wBucketLeaks1_s : State := Wre { lastLeak := [(7, 41)] } {} [(Obj.bucketLeak + 7, 60), (Obj.bucketLevel + 7, 9)]
theorem test_BucketLeaks :
    (wBucketLeaks0_s.rel.lastLeak.getD 7 0 + wBucketLeaks0_s.eff (Obj.bucketLeak + 7) ≤ wBucketLeaks0_s.now)
    ∧ (wBucketLeaks1_s.now < wBucketLeaks1_s.rel.lastLeak.getD 7 0 + wBucketLeaks1_s.eff (Obj.bucketLeak + 7)) := by
  and_intros <;> decide +kernel

def hf : HardFault := { array := 3, set := 77, way := 2 }
def wFarrierRepairs0_s : State := Wre { work := some (hf, .flushing) }
def wFarrierRepairs1_s : State := Wre { queue := [hf] }
def wFarrierRepairs1_q : List HardFault := []
def wFarrierRepairs2_s : State := Wre { work := some (hf, .flushing) }
def wFarrierRepairs3_s : State := Wre { work := some (hf, .programming), workSince := 90 }
def wFarrierRepairs4_s : State := let s := Wre { work := some (hf, .programming), workSince := 90 }; s.withTime { s.time with stride := 1340 }
def wFarrierRepairs5_s : State := Wre { work := some (hf, .activating), workSince := 100 }
def wFarrierRepairs6_s : State := Wre { work := some (hf, .activating), workSince := 90 }
theorem test_FarrierRepairs :
    (wFarrierRepairs0_s.rel.work = some (hf, FarrierStep.flushing) ∧ (wFarrierRepairs0_s.farrierSlot hf 3 60 = none ∨
        wFarrierRepairs0_s.now ≤ wFarrierRepairs0_s.rel.workSince))
    ∧ (wFarrierRepairs1_s.modes.mode.service = true ∧ wFarrierRepairs1_s.rel.work = none ∧ wFarrierRepairs1_s.rel.stopped =
        false ∧ wFarrierRepairs1_s.rel.queue = hf :: wFarrierRepairs1_q ∧ hf.array < 64 ∧ wFarrierRepairs1_s.fieldUsed hf.array
        < 64)
    ∧ (wFarrierRepairs2_s.modes.mode.service = true ∧ wFarrierRepairs2_s.rel.work = some (hf, FarrierStep.flushing) ∧
        wFarrierRepairs2_s.rel.workSince < wFarrierRepairs2_s.now ∧ hf.array < 32 ∧ (wFarrierRepairs2_s.farrierSlot hf 3
        61).isSome = true)
    ∧ (wFarrierRepairs3_s.rel.work = some (hf, FarrierStep.programming) ∧ wFarrierRepairs3_s.now <
        wFarrierRepairs3_s.rel.workSince + 1250)
    ∧ (wFarrierRepairs4_s.rel.work = some (hf, FarrierStep.programming) ∧ wFarrierRepairs4_s.rel.workSince + 1250 ≤
        wFarrierRepairs4_s.now ∧ wFarrierRepairs4_s.rel.stopped = false ∧ wFarrierRepairs4_s.modes.mode ≠ Mode.rest ∧
        wFarrierRepairs4_s.rel.workNext < 63)
    ∧ (wFarrierRepairs5_s.rel.work = some (hf, FarrierStep.activating) ∧ (wFarrierRepairs5_s.now ≤
        wFarrierRepairs5_s.rel.workSince ∨ wFarrierRepairs5_s.modes.mode = Mode.rest))
    ∧ (wFarrierRepairs6_s.rel.work = some (hf, FarrierStep.activating) ∧ wFarrierRepairs6_s.rel.workSince <
        wFarrierRepairs6_s.now ∧ wFarrierRepairs6_s.modes.mode ≠ Mode.rest ∧ wFarrierRepairs6_s.rel.stopped = false)
    ∧ (∀ (i w : Nat), i < rowSets hf.array → wFarrierRepairs2_s.ktag (hf.place.fst * 8192 + (i + hf.row * rowSets hf.array)) w =
        none)
    ∧ (∀ (x : Txn), x ∈ wFarrierRepairs2_s.home.txns → x.job ≠ some Job.farrier)
    ∧ (∀ (x : Txn), x ∈ wFarrierRepairs6_s.home.txns → x.job ≠ some Job.farrier) := by
  refine ⟨?_, ?_, ?_, ?_, ?_, ?_, ?_, ?_, ?_, ?_⟩
  · decide +kernel
  · decide +kernel
  · decide +kernel
  · decide +kernel
  · decide +kernel
  · decide +kernel
  · decide +kernel
  · intro i w _
    rfl
  · decide +kernel
  · decide +kernel

def wFarrierRetires0_s : State := Wre { work := some (hf, .retiring), workNext := 1024 }
def wFarrierRetires1_s : State := Wre { work := some (hf, .stage4), workNext := 1024 }
theorem test_FarrierRetires :
    (wFarrierRetires0_s.modes.mode.service = true ∧ wFarrierRetires0_s.rel.workNext = 1024 ∧ wFarrierRetires0_s.rel.stopped =
        false ∧ (wFarrierRetires0_s.farrierSlot hf 3 61).isSome = true ∧ wFarrierRetires0_s.rel.work = some (hf,
        FarrierStep.retiring) ∧ (¬Retired.way hf.tier hf.place.fst hf.grp hf.way ∈ wFarrierRetires0_s.rel.retired))
    ∧ (wFarrierRetires1_s.modes.mode.service = true ∧ wFarrierRetires1_s.rel.workNext = 1024 ∧ wFarrierRetires1_s.rel.stopped =
        false ∧ (wFarrierRetires1_s.farrierSlot hf 3 61).isSome = true ∧ wFarrierRetires1_s.rel.work = some (hf,
        FarrierStep.stage4) ∧ hf.tier ≠ 2 ∧ (¬Retired.group hf.tier hf.place.fst hf.grp ∈ wFarrierRetires1_s.rel.retired))
    ∧ (∀ (x : Txn), x ∈ wFarrierRetires0_s.home.txns → x.job ≠ some Job.farrier)
    ∧ (∀ (x : Txn), x ∈ wFarrierRetires1_s.home.txns → x.job ≠ some Job.farrier) := by
  refine ⟨?_, ?_, ?_, ?_⟩ <;> decide +kernel

def wFatalFaults0_s : State := Wre {}
theorem test_FatalFaults :
    wFatalFaults0_s.modes.mode = Mode.normal := by
  decide +kernel

def wCommandAddressAlerts0_s : State := Wre { alertCount := [(5, 2)] }
theorem test_CommandAddressAlerts :
    wCommandAddressAlerts0_s.mem.shadow.getD 5 [] = [] ∧ wCommandAddressAlerts0_s.mem.alerts = [] := by
  decide +kernel

def Wsw (n : Nat) (t : Tiers := {}) : State := Wre { sweep := [(3, n)] } t
def hs : Sector := ({ tag := 3, keyid := 2, partid := 1 } : Sector).set 5 .dirty
def fullPwb (s : State) : State :=
  s.withMem { s.mem with pwb := (List.range 12).map fun ch => (ch, (List.range 256).map fun n => { line := n, keyid := 0, data := 0, poison := false, demand := false, reserved := false, id := n }) }
def wContainment0_s : State := Wre { fatal := [(5, some 3, 7)] }
def wContainment1_s : State := Wre {}
def wContainment2_s : State := Wsw 77
def wContainment3_s : State := Wsw 77 { ktags := [((3 * 8192 + 77) * 12 + 8, kt)] }
def wContainment4_s : State := Wsw 40959
def wContainment5_s : State := Wsw 77 { ktags := [((3 * 8192 + 77) * 12 + 8, { kt with st := .dirty })] }
def wContainment5_x : KTag := { kt with st := .dirty }
def wContainment6_s : State := fullPwb (Wsw 77 { ktags := [((3 * 8192 + 77) * 12 + 8, { kt with st := .poisoned })] })
def wContainment6_x : KTag := { kt with st := .poisoned }
def wContainment7_s : State := Wsw (8192 + 40) { sectors := [((3 * 32768 + 40) * 16 + 8, hs)] }
theorem test_Containment :
    (wContainment0_s.modes.mode.service = true ∧ wContainment0_s.modes.mode ≠ Mode.contained ∧ wContainment0_s.rel.fatal = [(5,
        some 3, 7)] ∧ wContainment0_s.rel.fatalAt < wContainment0_s.now ∧ wContainment0_s.home.txns = [] ∧ Assoc.find? 3
        wContainment0_s.rel.sweep = none)
    ∧ ((wContainment1_s.rel.fatal = [] ∨ wContainment1_s.now ≤ wContainment1_s.rel.fatalAt))
    ∧ (Assoc.find? 3 wContainment2_s.rel.sweep = some 77)
    ∧ (Assoc.find? 3 wContainment3_s.rel.sweep = some 77 ∧ wContainment3_s.ktag (3 * 8192 + 77) 8 = some kt ∧ kt.st =
        LState.clean ∧ wContainment3_s.pendingBank (3 * 8192 + 77) 8 = none)
    ∧ (wContainment4_s.kernelOnly = false ∧ wContainment4_s.rel.sweep = [(3, 40959)])
    ∧ (Assoc.find? 3 wContainment5_s.rel.sweep = some 77 ∧ wContainment5_s.ktag (3 * 8192 + 77) 8 = some wContainment5_x ∧
        (wContainment5_x.st = LState.dirty ∨ wContainment5_x.st = LState.poisoned) ∧ wContainment5_s.pendingBank (3 * 8192 + 77)
        8 = none ∧ wContainment5_s.pwbUnreserved (chanOf (laOfK (3 * 8192 + 77) wContainment5_x.tag / 128 * 128)) < 256)
    ∧ (Assoc.find? 3 wContainment6_s.rel.sweep = some 77 ∧ wContainment6_s.ktag (3 * 8192 + 77) 8 = some wContainment6_x ∧
        (wContainment6_x.st = LState.dirty ∨ wContainment6_x.st = LState.poisoned) ∧ wContainment6_s.pendingBank (3 * 8192 + 77)
        8 = none ∧ 256 ≤ wContainment6_s.pwbUnreserved (chanOf (laOfK (3 * 8192 + 77) wContainment6_x.tag / 128 * 128)))
    ∧ (Assoc.find? 3 wContainment7_s.rel.sweep = some (8192 + 40) ∧ wContainment7_s.sector (3 * 32768 + 40) 8 = some hs ∧
        hs.owedLines = [5] ∧ wContainment7_s.kernelOnly = false ∧ wContainment7_s.tiers.hull = [] ∧
        wContainment7_s.tiers.staging = [] ∧ wContainment7_s.checkWrong (3 * 32768 + 40) 8 5 (laOfH (3 * 32768 + 40) hs.tag 5 /
        128) = false ∧ (wContainment7_s.pwb (chanOf (laOfH (3 * 32768 + 40) hs.tag 5 / 128 * 128))).length < 256)
    ∧ (∀ (w : Nat), wContainment2_s.ktag (3 * 8192 + 77) w = none)
    ∧ (∀ (v : Nat), v ≠ 8 → wContainment3_s.ktag (3 * 8192 + 77) v = none)
    ∧ (∀ (w : Nat), wContainment4_s.sector (3 * 32768 + 32767) w = none)
    ∧ (∀ (e : Staged), e ∈ wContainment4_s.tiers.staging → e.slice ≠ 3)
    ∧ (∀ (v : Nat), v ≠ 8 → wContainment5_s.ktag (3 * 8192 + 77) v = none)
    ∧ (∀ (v : Nat), v ≠ 8 → wContainment6_s.ktag (3 * 8192 + 77) v = none)
    ∧ (∀ (v : Nat), v ≠ 8 → wContainment7_s.sector (3 * 32768 + 40) v = none) := by
  refine ⟨?_, ?_, ?_, ?_, ?_, ?_, ?_, ?_, ?_, ?_, ?_, ?_, ?_, ?_, ?_⟩
  · decide +kernel
  · decide +kernel
  · decide +kernel
  · decide +kernel
  · decide +kernel
  · decide +kernel
  · decide +kernel
  · decide +kernel
  · intro w
    rfl
  · intro v hv
    have e : wContainment3_s.ktag (3 * 8192 + 77) v = Assoc.find? ((3 * 8192 + 77) * 12 + v) [((3 * 8192 + 77) * 12 + 8, kt)] := rfl
    have n : ¬ ((3 * 8192 + 77) * 12 + 8 = (3 * 8192 + 77) * 12 + v) := by omega
    simp [e, Assoc.find?, n]
  · intro w
    rfl
  · decide +kernel
  · intro v hv
    have e : wContainment5_s.ktag (3 * 8192 + 77) v = Assoc.find? ((3 * 8192 + 77) * 12 + v) [((3 * 8192 + 77) * 12 + 8, { kt with st := .dirty })] := rfl
    have n : ¬ ((3 * 8192 + 77) * 12 + 8 = (3 * 8192 + 77) * 12 + v) := by omega
    simp [e, Assoc.find?, n]
  · intro v hv
    have e : wContainment6_s.ktag (3 * 8192 + 77) v = Assoc.find? ((3 * 8192 + 77) * 12 + v) [((3 * 8192 + 77) * 12 + 8, { kt with st := .poisoned })] := rfl
    have n : ¬ ((3 * 8192 + 77) * 12 + 8 = (3 * 8192 + 77) * 12 + v) := by omega
    simp [e, Assoc.find?, n]
  · intro v hv
    have e : wContainment7_s.sector (3 * 32768 + 40) v = Assoc.find? ((3 * 32768 + 40) * 16 + v) [((3 * 32768 + 40) * 16 + 8, hs)] := rfl
    have n : ¬ ((3 * 32768 + 40) * 16 + 8 = (3 * 32768 + 40) * 16 + v) := by omega
    simp [e, Assoc.find?, n]

end Rel

namespace Req

def dAged : Aged := { id := 0, half := 0, stream := 0, slice := 0, start := 0, promoted := false, req := dReq }
def upl : Link := { state := .active, width := 16, rate := 2, revision := 0x20, features := 0xFFF, snpCredit := 3, mgtCredit := 2, reqCredit := 5, datCredit := 5 }
def rq (op : Nat) : Req := { opcode := BitVec.ofNat 6 op, stream := 3, tag := 77, addr := 0x80000, keyid := 5, partid := 6, data := 0x1111 }
def WQ (o : List (Nat × Nat) := []) (t : Tiers := {}) : State :=
  ((Wn ([(Obj.memCapacity, 2 ^ 38)] ++ o) t).withPorts { links := [5, 6, 7].map fun h => (h, upl) }).withHome { nextId := 20 }
def ksx : Nat := ksetOf 0x80000
def dsx : Nat := dsetOf 0x80000
def kt : Tiers := { ktags := [(ksx * 12 + 2, { tag := ktagOf 0x80000, st := .clean, keyid := 5, partid := 6 })], kdata := [(ksx * 12 + 2, 0xABCDEF)] }
def WK : State := WQ [] kt
def h5 : Fin 32 := 5
def c0 : Fin 64 := 0
def q5 : Nat := 5 * 512 + 3
def qx (r : Req) : QReq := { id := 7, req := r, entered := 90 }
def rfd : Refused := { id := 4, req := rq 1, entered := 80, ageStart := some 70, promoted := true, at_ := 95, refusals := 3 }
def Wqu (l : List QReq) (f : List Refused := []) (m : List (Nat × Monitor) := []) (o : List (Nat × Nat) := []) : State :=
  let s := WQ o; s.withPorts { s.ports with queues := [(q5, l)], replay := if f = [] then [] else [(q5, f)], monitors := m }
def mon (n : Nat) : Monitor := { pline := 0x1000, line := 0x1000, keyid := 5, partid := 6, at_ := 90, intervening := n }
def W64 : State := Wqu (List.replicate 64 (qx { rq 5 with tag := 3 }))
def W64f : State := Wqu (List.replicate 64 (qx { rq 5 with tag := 3 })) [rfd]
def wRequestsEnterQueues0_s : State := { modes := { mode := .normal } }
def wRequestsEnterQueues0_r : Req := rq 1
def wRequestsEnterQueues1_s : State := WQ
def wRequestsEnterQueues1_r : Req := { opcode := 0x18, stream := 3, tag := 77 }
def wRequestsEnterQueues2_s : State := Wqu [qx { rq 5 with tag := 3 }] [] [(q5, mon 0)]
def wRequestsEnterQueues2_r : Req := rq 1
def wRequestsEnterQueues4_s : State := Wqu [] [rfd]
def wRequestsEnterQueues4_r : Req := { rq 1 with rpl := true }
def wRequestsEnterQueues5_s : State := Wqu [qx (rq 5)]
def wRequestsEnterQueues5_r : Req := rq 1
def wRequestsEnterQueues6_r : Req := rq 1
def wRequestsEnterQueues7_s : State := WQ
def wRequestsEnterQueues7_r : Req := rq 0x3F
def wRequestsEnterQueues8_r : Req := { rq 1 with rpl := true }
theorem test_RequestsEnterQueues :
    (wRequestsEnterQueues0_s.halfUp 5 = false ∧ wRequestsEnterQueues0_s.pmu.tags = [])
    ∧ (wRequestsEnterQueues1_s.halfUp 5 = true ∧ wRequestsEnterQueues1_s.tagOpen 5 wRequestsEnterQueues1_r.tag = false ∧
        wRequestsEnterQueues1_s.inputError 5 wRequestsEnterQueues1_r = none ∧ wRequestsEnterQueues1_r.rpl = false ∧
        (wRequestsEnterQueues1_s.queue (5 * 512 + wRequestsEnterQueues1_r.stream.toNat)).length +
        (wRequestsEnterQueues1_s.refusedOf (5 * 512 + wRequestsEnterQueues1_r.stream.toNat)).length < 64 ∧
        (wRequestsEnterQueues1_r.op = Op.barrier ∨ wRequestsEnterQueues1_r.op = Op.wrCond))
    ∧ (wRequestsEnterQueues2_s.halfUp 5 = true ∧ wRequestsEnterQueues2_s.tagOpen 5 wRequestsEnterQueues2_r.tag = false ∧
        wRequestsEnterQueues2_s.inputError 5 wRequestsEnterQueues2_r = none ∧ wRequestsEnterQueues2_r.rpl = false ∧
        (wRequestsEnterQueues2_s.queue (5 * 512 + wRequestsEnterQueues2_r.stream.toNat)).length +
        (wRequestsEnterQueues2_s.refusedOf (5 * 512 + wRequestsEnterQueues2_r.stream.toNat)).length < 64 ∧
        wRequestsEnterQueues2_r.op ≠ Op.barrier ∧ wRequestsEnterQueues2_r.op ≠ Op.wrCond)
    ∧ (wRequestsEnterQueues4_s.halfUp 5 = true ∧ wRequestsEnterQueues4_s.tagOpen 5 wRequestsEnterQueues4_r.tag = false ∧
        wRequestsEnterQueues4_s.inputError 5 wRequestsEnterQueues4_r = none ∧ wRequestsEnterQueues4_r.rpl = true ∧
        wRequestsEnterQueues4_s.refusedOf (5 * 512 + wRequestsEnterQueues4_r.stream.toNat) = [rfd] ∧ rfd.req.tag =
        wRequestsEnterQueues4_r.tag ∧ (wRequestsEnterQueues4_s.queue (5 * 512 + wRequestsEnterQueues4_r.stream.toNat)).length <
        64)
    ∧ (wRequestsEnterQueues5_s.halfUp 5 = true ∧ wRequestsEnterQueues5_s.tagOpen 5 wRequestsEnterQueues5_r.tag = true ∧
        W64.halfUp 5 = true)
    ∧ (W64.tagOpen 5 wRequestsEnterQueues6_r.tag = false ∧ W64.inputError 5 wRequestsEnterQueues6_r = none ∧
        wRequestsEnterQueues6_r.rpl = false ∧ 64 ≤ (W64.queue (5 * 512 + wRequestsEnterQueues6_r.stream.toNat)).length +
        (W64.refusedOf (5 * 512 + wRequestsEnterQueues6_r.stream.toNat)).length)
    ∧ (wRequestsEnterQueues7_s.halfUp 5 = true ∧ wRequestsEnterQueues7_s.tagOpen 5 wRequestsEnterQueues7_r.tag = false ∧
        wRequestsEnterQueues7_s.inputError 5 wRequestsEnterQueues7_r = some Obj.opcodeErrors ∧ W64f.halfUp 5 = true)
    ∧ (W64f.tagOpen 5 wRequestsEnterQueues8_r.tag = false ∧ W64f.inputError 5 wRequestsEnterQueues8_r = none ∧
        wRequestsEnterQueues8_r.rpl = true ∧ W64f.refusedOf (5 * 512 + wRequestsEnterQueues8_r.stream.toNat) = [rfd] ∧
        rfd.req.tag = wRequestsEnterQueues8_r.tag ∧ 64 ≤ (W64f.queue (5 * 512 + wRequestsEnterQueues8_r.stream.toNat)).length)
    ∧ (∀ (x : Refused), x ∈ wRequestsEnterQueues0_s.refusedOf (5 * 512 + wRequestsEnterQueues0_r.stream.toNat) → x.tracker =
        none) := by
  refine ⟨?_, ?_, ?_, ?_, ?_, ?_, ?_, ?_, ?_⟩ <;> decide +kernel

def Wad (r : Req) (o : List (Nat × Nat) := []) : State := Wqu [qx r] [] [] o
def vv (r : Req) (o : List (Nat × Nat) := []) : State := let s := Wad r o; (s.withPorts { s.ports with rr := Assoc.put 5 3 s.ports.rr }).setQueue q5 []
def pth (r : Req) (o : List (Nat × Nat) := []) : Path := { id := 7, req := r, line := 0x1000, slice := 8, half := 5, promoted := false, pc := (vv r o).partClass r.partid.toNat, arrive := (vv r o).reaches q5 0x1000 6400 }
def bg (r : Req) (o : List (Nat × Nat) := []) : Nat × State := match (vv r o).bookGroups 6400 (pth r o) ((vv r o).admGroups 5 r 8) with | .inr x => x | .inl _ => (0, W0)
def Wcn : State := { Wad (rq 1) with modes := { mode := .contained } }
def Wq0 : State := let s := Wad (rq 1); s.withPorts { s.ports with links := [(5, { upl with state := .quiescing })] }
def Wpq : State := { Wad (rq 1) [(arr16 Obj.classQuota 0, 1)] with modes := { mode := .partitioned }, home := { nextId := 20, txns := [{ dTxn with half := some 6, tracker := some 3, id := 2 }] } }
def W480 : State := { Wad (rq 1) with home := { nextId := 600, txns := (List.range 480).map fun i => { dTxn with half := some 6, tracker := some i, id := 20 + i, slice := 8 } } }
def dWant : Want := { kind := 0, row := 8, cls := 0, arrive := 0 }
/-- A channel whose 1,792 entries for reservations are in use. -/
def Wbuf : State := let s := Wad (rq 0x0C)
  s.withMem { s.mem with pwb := [(chanOf 0x80000, List.replicate 1792 { line := 3, keyid := 0, data := 0, poison := false, demand := true, reserved := true })] }
/-- An earlier request of the queue on the line, whose look-up lies past the ledger's reach. -/
def Wfar : State := let s := Wad (rq 1)
  (s.withHome { nextId := 20, txns := [{ dTxn with half := some 5, req := rq 1, line := 0x1000, id := 2 }] }).withGait
    { s.gait with ledger := [{ kind := 0, row := 8, stride := 200, slot := 4, work := 2, half := 5, purpose := Leg.tag }] }
def vfar : State := ((Wfar.withPorts { Wfar.ports with rr := Assoc.put 5 3 Wfar.ports.rr }).setQueue q5 [])
def wfar : Want := match vfar.bookGroups 6400 { id := 7, req := rq 1, line := 0x1000, slice := 8, half := 5, promoted := false, pc := vfar.partClass 6, arrive := vfar.reaches q5 0x1000 6400 } (vfar.admGroups 5 (rq 1) 8) with | .inl (some w) => w | _ => dWant
def wAdmissionOutcomes0_s₀ : State := WQ
def wAdmissionOutcomes1_s₀ : State := Wad (rq 1)
def wAdmissionOutcomes1_x : QReq := qx (rq 1)
def wAdmissionOutcomes1_grp : Nat := (bg (rq 1)).1
def wAdmissionOutcomes1_s' : State := (bg (rq 1)).2
def wAdmissionOutcomes2_x : QReq := qx (rq 1)
def wAdmissionOutcomes2_why : Nat × Nat := (Wcn.earlyRefusal 1).getD (0,0)
def wAdmissionOutcomes4_s₀ : State := Wad (rq 0x3F)
def wAdmissionOutcomes4_x : QReq := qx (rq 0x3F)
def wAdmissionOutcomes5_s₀ : State := Wad { rq 1 with addr := 0xFFFFFFD000000 }
def wAdmissionOutcomes5_x : QReq := qx { rq 1 with addr := 0xFFFFFFD000000 }
def wAdmissionOutcomes6_s₀ : State := Wad { rq 1 with addr := 0x8000000000000 }
def wAdmissionOutcomes6_x : QReq := qx { rq 1 with addr := 0x8000000000000 }
def wAdmissionOutcomes7_x : QReq := qx (rq 1)
def wAdmissionOutcomes7_why : Nat × Nat := (1, 8)
def wAdmissionOutcomes8_x : QReq := qx (rq 1)
def wAdmissionOutcomes9_x : QReq := qx (rq 1)
def wAdmissionOutcomes10_x : QReq := qx (rq 0x0C)
def wAdmissionOutcomes11_x : QReq := qx (rq 1)
theorem test_AdmissionOutcomes :
    (((wAdmissionOutcomes0_s₀.sentBy (wAdmissionOutcomes0_s₀.now * 64 + 0)).bookEarly (wAdmissionOutcomes0_s₀.now * 64 +
        0)).nextQueue 5 = none)
    ∧ (((wAdmissionOutcomes1_s₀.sentBy (wAdmissionOutcomes1_s₀.now * 64 + 0)).bookEarly (wAdmissionOutcomes1_s₀.now * 64 +
        0)).nextQueue 5 = some (q5, wAdmissionOutcomes1_x) ∧ q5 / 512 = 5 ∧ ((wAdmissionOutcomes1_s₀.sentBy
        (wAdmissionOutcomes1_s₀.now * 64 + 0)).bookEarly (wAdmissionOutcomes1_s₀.now * 64 + 0)).halfUp 5 = true ∧
        ((wAdmissionOutcomes1_s₀.sentBy (wAdmissionOutcomes1_s₀.now * 64 + 0)).bookEarly (wAdmissionOutcomes1_s₀.now * 64 +
        0)).earlyRefusal wAdmissionOutcomes1_x.req.op = none ∧ ((wAdmissionOutcomes1_s₀.sentBy (wAdmissionOutcomes1_s₀.now * 64
        + 0)).bookEarly (wAdmissionOutcomes1_s₀.now * 64 + 0)).inputError 5 wAdmissionOutcomes1_x.req = none ∧
        wAdmissionOutcomes1_x.req.op ≠ Op.barrier ∧ ((wAdmissionOutcomes1_s₀.sentBy (wAdmissionOutcomes1_s₀.now * 64 +
        0)).bookEarly (wAdmissionOutcomes1_s₀.now * 64 + 0)).target wAdmissionOutcomes1_x.req.addr.toNat = Target.memory 524288
        ∧ ((wAdmissionOutcomes1_s₀.sentBy (wAdmissionOutcomes1_s₀.now * 64 + 0)).bookEarly (wAdmissionOutcomes1_s₀.now * 64 +
        0)).lateRefusal 5 wAdmissionOutcomes1_x.id wAdmissionOutcomes1_x.req = none ∧ (((((wAdmissionOutcomes1_s₀.sentBy
        (wAdmissionOutcomes1_s₀.now * 64 + 0)).bookEarly (wAdmissionOutcomes1_s₀.now * 64 + 0)).withPorts (have __src :=
        ((wAdmissionOutcomes1_s₀.sentBy (wAdmissionOutcomes1_s₀.now * 64 + 0)).bookEarly (wAdmissionOutcomes1_s₀.now * 64 +
        0)).ports;
        { links := __src.links, split := __src.split, queues := __src.queues, replay := __src.replay, barriers := __src.barriers, monitors := __src.monitors, cleared := __src.cleared, rr := Assoc.put 5 (q5 % 512) ((wAdmissionOutcomes1_s₀.sentBy (wAdmissionOutcomes1_s₀.now * 64 + 0)).bookEarly (wAdmissionOutcomes1_s₀.now * 64 + 0)).ports.rr, resend := __src.resend, outcomes := __src.outcomes })).setQueue
        q5 (List.filter (fun (y : QReq) => y.id != wAdmissionOutcomes1_x.id) (((wAdmissionOutcomes1_s₀.sentBy
        (wAdmissionOutcomes1_s₀.now * 64 + 0)).bookEarly (wAdmissionOutcomes1_s₀.now * 64 + 0)).queue q5))).quotaBroken
        wAdmissionOutcomes1_x.req = none) ∧ (isEvict wAdmissionOutcomes1_x.req.op = true ∨ wAdmissionOutcomes1_x.tracker.isSome
        = true ∨ 0 < ((((wAdmissionOutcomes1_s₀.sentBy (wAdmissionOutcomes1_s₀.now * 64 + 0)).bookEarly
        (wAdmissionOutcomes1_s₀.now * 64 + 0)).withPorts (have __src := ((wAdmissionOutcomes1_s₀.sentBy
        (wAdmissionOutcomes1_s₀.now * 64 + 0)).bookEarly (wAdmissionOutcomes1_s₀.now * 64 + 0)).ports;
        { links := __src.links, split := __src.split, queues := __src.queues, replay := __src.replay, barriers := __src.barriers, monitors := __src.monitors, cleared := __src.cleared, rr := Assoc.put 5 (q5 % 512) ((wAdmissionOutcomes1_s₀.sentBy (wAdmissionOutcomes1_s₀.now * 64 + 0)).bookEarly (wAdmissionOutcomes1_s₀.now * 64 + 0)).ports.rr, resend := __src.resend, outcomes := __src.outcomes })).setQueue
        q5 (List.filter (fun (y : QReq) => y.id != wAdmissionOutcomes1_x.id) (((wAdmissionOutcomes1_s₀.sentBy
        (wAdmissionOutcomes1_s₀.now * 64 + 0)).bookEarly (wAdmissionOutcomes1_s₀.now * 64 + 0)).queue q5))).freeGeneral (sliceOf
        524288)) ∧ (wAdmissionOutcomes1_x.promoted = true ∨ ∀ (y : Txn), y ∈ ((wAdmissionOutcomes1_s₀.sentBy
        (wAdmissionOutcomes1_s₀.now * 64 + 0)).bookEarly (wAdmissionOutcomes1_s₀.now * 64 + 0)).home.txns →
        ((((wAdmissionOutcomes1_s₀.sentBy (wAdmissionOutcomes1_s₀.now * 64 + 0)).bookEarly (wAdmissionOutcomes1_s₀.now * 64 +
        0)).withPorts (have __src := ((wAdmissionOutcomes1_s₀.sentBy (wAdmissionOutcomes1_s₀.now * 64 + 0)).bookEarly
        (wAdmissionOutcomes1_s₀.now * 64 + 0)).ports;
        { links := __src.links, split := __src.split, queues := __src.queues, replay := __src.replay, barriers := __src.barriers, monitors := __src.monitors, cleared := __src.cleared, rr := Assoc.put 5 (q5 % 512) ((wAdmissionOutcomes1_s₀.sentBy (wAdmissionOutcomes1_s₀.now * 64 + 0)).bookEarly (wAdmissionOutcomes1_s₀.now * 64 + 0)).ports.rr, resend := __src.resend, outcomes := __src.outcomes })).setQueue
        q5 (List.filter (fun (y : QReq) => y.id != wAdmissionOutcomes1_x.id) (((wAdmissionOutcomes1_s₀.sentBy
        (wAdmissionOutcomes1_s₀.now * 64 + 0)).bookEarly (wAdmissionOutcomes1_s₀.now * 64 + 0)).queue q5))).headDue y = false))
    ∧ ((hasData wAdmissionOutcomes1_x.req.op = false ∨ ((((wAdmissionOutcomes1_s₀.sentBy (wAdmissionOutcomes1_s₀.now * 64 +
        0)).bookEarly (wAdmissionOutcomes1_s₀.now * 64 + 0)).withPorts (have __src := ((wAdmissionOutcomes1_s₀.sentBy
        (wAdmissionOutcomes1_s₀.now * 64 + 0)).bookEarly (wAdmissionOutcomes1_s₀.now * 64 + 0)).ports;
        { links := __src.links, split := __src.split, queues := __src.queues, replay := __src.replay, barriers := __src.barriers, monitors := __src.monitors, cleared := __src.cleared, rr := Assoc.put 5 (q5 % 512) ((wAdmissionOutcomes1_s₀.sentBy (wAdmissionOutcomes1_s₀.now * 64 + 0)).bookEarly (wAdmissionOutcomes1_s₀.now * 64 + 0)).ports.rr, resend := __src.resend, outcomes := __src.outcomes })).setQueue
        q5 (List.filter (fun (y : QReq) => y.id != wAdmissionOutcomes1_x.id) (((wAdmissionOutcomes1_s₀.sentBy
        (wAdmissionOutcomes1_s₀.now * 64 + 0)).bookEarly (wAdmissionOutcomes1_s₀.now * 64 + 0)).queue q5))).pwbReservedUse
        (chanOf 524288) < 1792) ∧ ((fun (la : Nat) => ((((wAdmissionOutcomes1_s₀.sentBy (wAdmissionOutcomes1_s₀.now * 64 +
        0)).bookEarly (wAdmissionOutcomes1_s₀.now * 64 + 0)).withPorts (have __src := ((wAdmissionOutcomes1_s₀.sentBy
        (wAdmissionOutcomes1_s₀.now * 64 + 0)).bookEarly (wAdmissionOutcomes1_s₀.now * 64 + 0)).ports;
        { links := __src.links, split := __src.split, queues := __src.queues, replay := __src.replay, barriers := __src.barriers, monitors := __src.monitors, cleared := __src.cleared, rr := Assoc.put 5 (q5 % 512) ((wAdmissionOutcomes1_s₀.sentBy (wAdmissionOutcomes1_s₀.now * 64 + 0)).bookEarly (wAdmissionOutcomes1_s₀.now * 64 + 0)).ports.rr, resend := __src.resend, outcomes := __src.outcomes })).setQueue
        q5 (List.filter (fun (y : QReq) => y.id != wAdmissionOutcomes1_x.id) (((wAdmissionOutcomes1_s₀.sentBy
        (wAdmissionOutcomes1_s₀.now * 64 + 0)).bookEarly (wAdmissionOutcomes1_s₀.now * 64 + 0)).queue q5))).bookGroups
        (wAdmissionOutcomes1_s₀.now * 64 + 0)
        { id := wAdmissionOutcomes1_x.id, req := wAdmissionOutcomes1_x.req, line := la / 128, slice := sliceOf la, half := 5, pc := ((((wAdmissionOutcomes1_s₀.sentBy (wAdmissionOutcomes1_s₀.now * 64 + 0)).bookEarly (wAdmissionOutcomes1_s₀.now * 64 + 0)).withPorts (have __src := ((wAdmissionOutcomes1_s₀.sentBy (wAdmissionOutcomes1_s₀.now * 64 + 0)).bookEarly (wAdmissionOutcomes1_s₀.now * 64 + 0)).ports; { links := __src.links, split := __src.split, queues := __src.queues, replay := __src.replay, barriers := __src.barriers, monitors := __src.monitors, cleared := __src.cleared, rr := Assoc.put 5 (q5 % 512) ((wAdmissionOutcomes1_s₀.sentBy (wAdmissionOutcomes1_s₀.now * 64 + 0)).bookEarly (wAdmissionOutcomes1_s₀.now * 64 + 0)).ports.rr, resend := __src.resend, outcomes := __src.outcomes })).setQueue q5 (List.filter (fun (y : QReq) => y.id != wAdmissionOutcomes1_x.id) (((wAdmissionOutcomes1_s₀.sentBy (wAdmissionOutcomes1_s₀.now * 64 + 0)).bookEarly (wAdmissionOutcomes1_s₀.now * 64 + 0)).queue q5))).partClass wAdmissionOutcomes1_x.req.partid.toNat, promoted := wAdmissionOutcomes1_x.promoted, arrive := ((((wAdmissionOutcomes1_s₀.sentBy (wAdmissionOutcomes1_s₀.now * 64 + 0)).bookEarly (wAdmissionOutcomes1_s₀.now * 64 + 0)).withPorts (have __src := ((wAdmissionOutcomes1_s₀.sentBy (wAdmissionOutcomes1_s₀.now * 64 + 0)).bookEarly (wAdmissionOutcomes1_s₀.now * 64 + 0)).ports; { links := __src.links, split := __src.split, queues := __src.queues, replay := __src.replay, barriers := __src.barriers, monitors := __src.monitors, cleared := __src.cleared, rr := Assoc.put 5 (q5 % 512) ((wAdmissionOutcomes1_s₀.sentBy (wAdmissionOutcomes1_s₀.now * 64 + 0)).bookEarly (wAdmissionOutcomes1_s₀.now * 64 + 0)).ports.rr, resend := __src.resend, outcomes := __src.outcomes })).setQueue q5 (List.filter (fun (y : QReq) => y.id != wAdmissionOutcomes1_x.id) (((wAdmissionOutcomes1_s₀.sentBy (wAdmissionOutcomes1_s₀.now * 64 + 0)).bookEarly (wAdmissionOutcomes1_s₀.now * 64 + 0)).queue q5))).reaches q5 (la / 128) (wAdmissionOutcomes1_s₀.now * 64 + 0) }
        (((((wAdmissionOutcomes1_s₀.sentBy (wAdmissionOutcomes1_s₀.now * 64 + 0)).bookEarly (wAdmissionOutcomes1_s₀.now * 64 +
        0)).withPorts (have __src := ((wAdmissionOutcomes1_s₀.sentBy (wAdmissionOutcomes1_s₀.now * 64 + 0)).bookEarly
        (wAdmissionOutcomes1_s₀.now * 64 + 0)).ports;
        { links := __src.links, split := __src.split, queues := __src.queues, replay := __src.replay, barriers := __src.barriers, monitors := __src.monitors, cleared := __src.cleared, rr := Assoc.put 5 (q5 % 512) ((wAdmissionOutcomes1_s₀.sentBy (wAdmissionOutcomes1_s₀.now * 64 + 0)).bookEarly (wAdmissionOutcomes1_s₀.now * 64 + 0)).ports.rr, resend := __src.resend, outcomes := __src.outcomes })).setQueue
        q5 (List.filter (fun (y : QReq) => y.id != wAdmissionOutcomes1_x.id) (((wAdmissionOutcomes1_s₀.sentBy
        (wAdmissionOutcomes1_s₀.now * 64 + 0)).bookEarly (wAdmissionOutcomes1_s₀.now * 64 + 0)).queue q5))).admGroups 5
        wAdmissionOutcomes1_x.req (sliceOf la))) 524288 = Sum.inr (wAdmissionOutcomes1_grp, wAdmissionOutcomes1_s')) ∧
        ((wAdmissionOutcomes1_s₀.sentBy (wAdmissionOutcomes1_s₀.now * 64 + 0)).bookEarly (wAdmissionOutcomes1_s₀.now * 64 +
        0)).txn wAdmissionOutcomes1_x.id = none ∧ ((wAdmissionOutcomes1_s₀.sentBy (wAdmissionOutcomes1_s₀.now * 64 +
        0)).bookEarly (wAdmissionOutcomes1_s₀.now * 64 + 0)).bookingOf wAdmissionOutcomes1_x.id Leg.tag = none)
    ∧ (((Wcn.sentBy (Wcn.now * 64 + 0)).bookEarly (Wcn.now * 64 + 0)).nextQueue 5 = some (q5, wAdmissionOutcomes2_x) ∧
        ((Wcn.sentBy (Wcn.now * 64 + 0)).bookEarly (Wcn.now * 64 + 0)).halfUp 5 = true ∧ ((Wcn.sentBy (Wcn.now * 64 +
        0)).bookEarly (Wcn.now * 64 + 0)).earlyRefusal wAdmissionOutcomes2_x.req.op = some wAdmissionOutcomes2_why)
    ∧ (((wAdmissionOutcomes4_s₀.sentBy (wAdmissionOutcomes4_s₀.now * 64 + 0)).bookEarly (wAdmissionOutcomes4_s₀.now * 64 +
        0)).nextQueue 5 = some (q5, wAdmissionOutcomes4_x) ∧ ((wAdmissionOutcomes4_s₀.sentBy (wAdmissionOutcomes4_s₀.now * 64 +
        0)).bookEarly (wAdmissionOutcomes4_s₀.now * 64 + 0)).halfUp 5 = true ∧ ((wAdmissionOutcomes4_s₀.sentBy
        (wAdmissionOutcomes4_s₀.now * 64 + 0)).bookEarly (wAdmissionOutcomes4_s₀.now * 64 + 0)).earlyRefusal
        wAdmissionOutcomes4_x.req.op = none ∧ ((wAdmissionOutcomes4_s₀.sentBy (wAdmissionOutcomes4_s₀.now * 64 + 0)).bookEarly
        (wAdmissionOutcomes4_s₀.now * 64 + 0)).inputError 5 wAdmissionOutcomes4_x.req = some Obj.opcodeErrors)
    ∧ (((wAdmissionOutcomes5_s₀.sentBy (wAdmissionOutcomes5_s₀.now * 64 + 0)).bookEarly (wAdmissionOutcomes5_s₀.now * 64 +
        0)).nextQueue 5 = some (q5, wAdmissionOutcomes5_x) ∧ ((wAdmissionOutcomes5_s₀.sentBy (wAdmissionOutcomes5_s₀.now * 64 +
        0)).bookEarly (wAdmissionOutcomes5_s₀.now * 64 + 0)).halfUp 5 = true ∧ ((wAdmissionOutcomes5_s₀.sentBy
        (wAdmissionOutcomes5_s₀.now * 64 + 0)).bookEarly (wAdmissionOutcomes5_s₀.now * 64 + 0)).earlyRefusal
        wAdmissionOutcomes5_x.req.op = none ∧ ((wAdmissionOutcomes5_s₀.sentBy (wAdmissionOutcomes5_s₀.now * 64 + 0)).bookEarly
        (wAdmissionOutcomes5_s₀.now * 64 + 0)).inputError 5 wAdmissionOutcomes5_x.req = none ∧ wAdmissionOutcomes5_x.req.op ≠
        Op.barrier ∧ ((wAdmissionOutcomes5_s₀.sentBy (wAdmissionOutcomes5_s₀.now * 64 + 0)).bookEarly
        (wAdmissionOutcomes5_s₀.now * 64 + 0)).target wAdmissionOutcomes5_x.req.addr.toNat = Target.notHome)
    ∧ (((wAdmissionOutcomes6_s₀.sentBy (wAdmissionOutcomes6_s₀.now * 64 + 0)).bookEarly (wAdmissionOutcomes6_s₀.now * 64 +
        0)).nextQueue 5 = some (q5, wAdmissionOutcomes6_x) ∧ ((wAdmissionOutcomes6_s₀.sentBy (wAdmissionOutcomes6_s₀.now * 64 +
        0)).bookEarly (wAdmissionOutcomes6_s₀.now * 64 + 0)).halfUp 5 = true ∧ ((wAdmissionOutcomes6_s₀.sentBy
        (wAdmissionOutcomes6_s₀.now * 64 + 0)).bookEarly (wAdmissionOutcomes6_s₀.now * 64 + 0)).earlyRefusal
        wAdmissionOutcomes6_x.req.op = none ∧ ((wAdmissionOutcomes6_s₀.sentBy (wAdmissionOutcomes6_s₀.now * 64 + 0)).bookEarly
        (wAdmissionOutcomes6_s₀.now * 64 + 0)).inputError 5 wAdmissionOutcomes6_x.req = none ∧ wAdmissionOutcomes6_x.req.op ≠
        Op.barrier ∧ ((wAdmissionOutcomes6_s₀.sentBy (wAdmissionOutcomes6_s₀.now * 64 + 0)).bookEarly
        (wAdmissionOutcomes6_s₀.now * 64 + 0)).target wAdmissionOutcomes6_x.req.addr.toNat = Target.unmapped)
    ∧ (((Wq0.sentBy (Wq0.now * 64 + 0)).bookEarly (Wq0.now * 64 + 0)).nextQueue 5 = some (q5, wAdmissionOutcomes7_x) ∧
        ((Wq0.sentBy (Wq0.now * 64 + 0)).bookEarly (Wq0.now * 64 + 0)).halfUp 5 = true ∧ ((Wq0.sentBy (Wq0.now * 64 +
        0)).bookEarly (Wq0.now * 64 + 0)).earlyRefusal wAdmissionOutcomes7_x.req.op = none ∧ ((Wq0.sentBy (Wq0.now * 64 +
        0)).bookEarly (Wq0.now * 64 + 0)).inputError 5 wAdmissionOutcomes7_x.req = none ∧ wAdmissionOutcomes7_x.req.op ≠
        Op.barrier ∧ ((Wq0.sentBy (Wq0.now * 64 + 0)).bookEarly (Wq0.now * 64 + 0)).target wAdmissionOutcomes7_x.req.addr.toNat
        = Target.memory 524288 ∧ ((Wq0.sentBy (Wq0.now * 64 + 0)).bookEarly (Wq0.now * 64 + 0)).lateRefusal 5
        wAdmissionOutcomes7_x.id wAdmissionOutcomes7_x.req = some wAdmissionOutcomes7_why)
    ∧ (((Wpq.sentBy (Wpq.now * 64 + 0)).bookEarly (Wpq.now * 64 + 0)).nextQueue 5 = some (q5, wAdmissionOutcomes8_x) ∧
        ((Wpq.sentBy (Wpq.now * 64 + 0)).bookEarly (Wpq.now * 64 + 0)).halfUp 5 = true ∧ ((Wpq.sentBy (Wpq.now * 64 +
        0)).bookEarly (Wpq.now * 64 + 0)).earlyRefusal wAdmissionOutcomes8_x.req.op = none ∧ ((Wpq.sentBy (Wpq.now * 64 +
        0)).bookEarly (Wpq.now * 64 + 0)).inputError 5 wAdmissionOutcomes8_x.req = none ∧ wAdmissionOutcomes8_x.req.op ≠
        Op.barrier ∧ ((Wpq.sentBy (Wpq.now * 64 + 0)).bookEarly (Wpq.now * 64 + 0)).target wAdmissionOutcomes8_x.req.addr.toNat
        = Target.memory 524288 ∧ ((Wpq.sentBy (Wpq.now * 64 + 0)).bookEarly (Wpq.now * 64 + 0)).lateRefusal 5
        wAdmissionOutcomes8_x.id wAdmissionOutcomes8_x.req = none ∧ (((((Wpq.sentBy (Wpq.now * 64 + 0)).bookEarly (Wpq.now * 64
        + 0)).withPorts (have __src := ((Wpq.sentBy (Wpq.now * 64 + 0)).bookEarly (Wpq.now * 64 + 0)).ports;
        { links := __src.links, split := __src.split, queues := __src.queues, replay := __src.replay, barriers := __src.barriers, monitors := __src.monitors, cleared := __src.cleared, rr := Assoc.put 5 (q5 % 512) ((Wpq.sentBy (Wpq.now * 64 + 0)).bookEarly (Wpq.now * 64 + 0)).ports.rr, resend := __src.resend, outcomes := __src.outcomes })).setQueue
        q5 (List.filter (fun (y : QReq) => y.id != wAdmissionOutcomes8_x.id) (((Wpq.sentBy (Wpq.now * 64 + 0)).bookEarly
        (Wpq.now * 64 + 0)).queue q5))).quotaBroken wAdmissionOutcomes8_x.req = some 0) ∧ (wAdmissionOutcomes8_x.promoted = true
        ∨ ∀ (y : Txn), y ∈ ((Wpq.sentBy (Wpq.now * 64 + 0)).bookEarly (Wpq.now * 64 + 0)).home.txns → ((((Wpq.sentBy (Wpq.now *
        64 + 0)).bookEarly (Wpq.now * 64 + 0)).withPorts (have __src := ((Wpq.sentBy (Wpq.now * 64 + 0)).bookEarly (Wpq.now * 64
        + 0)).ports;
        { links := __src.links, split := __src.split, queues := __src.queues, replay := __src.replay, barriers := __src.barriers, monitors := __src.monitors, cleared := __src.cleared, rr := Assoc.put 5 (q5 % 512) ((Wpq.sentBy (Wpq.now * 64 + 0)).bookEarly (Wpq.now * 64 + 0)).ports.rr, resend := __src.resend, outcomes := __src.outcomes })).setQueue
        q5 (List.filter (fun (y : QReq) => y.id != wAdmissionOutcomes8_x.id) (((Wpq.sentBy (Wpq.now * 64 + 0)).bookEarly
        (Wpq.now * 64 + 0)).queue q5))).headDue y = false))
    ∧ (((W480.sentBy (W480.now * 64 + 0)).bookEarly (W480.now * 64 + 0)).nextQueue 5 = some (q5, wAdmissionOutcomes9_x) ∧
        ((W480.sentBy (W480.now * 64 + 0)).bookEarly (W480.now * 64 + 0)).halfUp 5 = true ∧ ((W480.sentBy (W480.now * 64 +
        0)).bookEarly (W480.now * 64 + 0)).earlyRefusal wAdmissionOutcomes9_x.req.op = none ∧ ((W480.sentBy (W480.now * 64 +
        0)).bookEarly (W480.now * 64 + 0)).inputError 5 wAdmissionOutcomes9_x.req = none ∧ wAdmissionOutcomes9_x.req.op ≠
        Op.barrier ∧ ((W480.sentBy (W480.now * 64 + 0)).bookEarly (W480.now * 64 + 0)).target
        wAdmissionOutcomes9_x.req.addr.toNat = Target.memory 524288 ∧ ((W480.sentBy (W480.now * 64 + 0)).bookEarly (W480.now *
        64 + 0)).lateRefusal 5 wAdmissionOutcomes9_x.id wAdmissionOutcomes9_x.req = none ∧ (((((W480.sentBy (W480.now * 64 +
        0)).bookEarly (W480.now * 64 + 0)).withPorts (have __src := ((W480.sentBy (W480.now * 64 + 0)).bookEarly (W480.now * 64
        + 0)).ports;
        { links := __src.links, split := __src.split, queues := __src.queues, replay := __src.replay, barriers := __src.barriers, monitors := __src.monitors, cleared := __src.cleared, rr := Assoc.put 5 (q5 % 512) ((W480.sentBy (W480.now * 64 + 0)).bookEarly (W480.now * 64 + 0)).ports.rr, resend := __src.resend, outcomes := __src.outcomes })).setQueue
        q5 (List.filter (fun (y : QReq) => y.id != wAdmissionOutcomes9_x.id) (((W480.sentBy (W480.now * 64 + 0)).bookEarly
        (W480.now * 64 + 0)).queue q5))).quotaBroken wAdmissionOutcomes9_x.req = none) ∧ isEvict wAdmissionOutcomes9_x.req.op =
        false ∧ wAdmissionOutcomes9_x.tracker = none ∧ (((((W480.sentBy (W480.now * 64 + 0)).bookEarly (W480.now * 64 +
        0)).withPorts (have __src := ((W480.sentBy (W480.now * 64 + 0)).bookEarly (W480.now * 64 + 0)).ports;
        { links := __src.links, split := __src.split, queues := __src.queues, replay := __src.replay, barriers := __src.barriers, monitors := __src.monitors, cleared := __src.cleared, rr := Assoc.put 5 (q5 % 512) ((W480.sentBy (W480.now * 64 + 0)).bookEarly (W480.now * 64 + 0)).ports.rr, resend := __src.resend, outcomes := __src.outcomes })).setQueue
        q5 (List.filter (fun (y : QReq) => y.id != wAdmissionOutcomes9_x.id) (((W480.sentBy (W480.now * 64 + 0)).bookEarly
        (W480.now * 64 + 0)).queue q5))).freeGeneral (sliceOf 524288) = 0))
    ∧ ((wAdmissionOutcomes9_x.promoted = true ∨ ∀ (y : Txn), y ∈ ((W480.sentBy (W480.now * 64 + 0)).bookEarly (W480.now * 64 +
        0)).home.txns → ((((W480.sentBy (W480.now * 64 + 0)).bookEarly (W480.now * 64 + 0)).withPorts (have __src :=
        ((W480.sentBy (W480.now * 64 + 0)).bookEarly (W480.now * 64 + 0)).ports;
        { links := __src.links, split := __src.split, queues := __src.queues, replay := __src.replay, barriers := __src.barriers, monitors := __src.monitors, cleared := __src.cleared, rr := Assoc.put 5 (q5 % 512) ((W480.sentBy (W480.now * 64 + 0)).bookEarly (W480.now * 64 + 0)).ports.rr, resend := __src.resend, outcomes := __src.outcomes })).setQueue
        q5 (List.filter (fun (y : QReq) => y.id != wAdmissionOutcomes9_x.id) (((W480.sentBy (W480.now * 64 + 0)).bookEarly
        (W480.now * 64 + 0)).queue q5))).headDue y = false))
    ∧ (((Wbuf.sentBy (Wbuf.now * 64 + 0)).bookEarly (Wbuf.now * 64 + 0)).nextQueue 5 = some (q5, wAdmissionOutcomes10_x) ∧
        ((Wbuf.sentBy (Wbuf.now * 64 + 0)).bookEarly (Wbuf.now * 64 + 0)).halfUp 5 = true ∧ ((Wbuf.sentBy (Wbuf.now * 64 +
        0)).bookEarly (Wbuf.now * 64 + 0)).earlyRefusal wAdmissionOutcomes10_x.req.op = none ∧ ((Wbuf.sentBy (Wbuf.now * 64 +
        0)).bookEarly (Wbuf.now * 64 + 0)).inputError 5 wAdmissionOutcomes10_x.req = none ∧ wAdmissionOutcomes10_x.req.op ≠
        Op.barrier ∧ ((Wbuf.sentBy (Wbuf.now * 64 + 0)).bookEarly (Wbuf.now * 64 + 0)).target
        wAdmissionOutcomes10_x.req.addr.toNat = Target.memory 524288 ∧ ((Wbuf.sentBy (Wbuf.now * 64 + 0)).bookEarly (Wbuf.now *
        64 + 0)).lateRefusal 5 wAdmissionOutcomes10_x.id wAdmissionOutcomes10_x.req = none ∧ (((((Wbuf.sentBy (Wbuf.now * 64 +
        0)).bookEarly (Wbuf.now * 64 + 0)).withPorts (have __src := ((Wbuf.sentBy (Wbuf.now * 64 + 0)).bookEarly (Wbuf.now * 64
        + 0)).ports;
        { links := __src.links, split := __src.split, queues := __src.queues, replay := __src.replay, barriers := __src.barriers, monitors := __src.monitors, cleared := __src.cleared, rr := Assoc.put 5 (q5 % 512) ((Wbuf.sentBy (Wbuf.now * 64 + 0)).bookEarly (Wbuf.now * 64 + 0)).ports.rr, resend := __src.resend, outcomes := __src.outcomes })).setQueue
        q5 (List.filter (fun (y : QReq) => y.id != wAdmissionOutcomes10_x.id) (((Wbuf.sentBy (Wbuf.now * 64 + 0)).bookEarly
        (Wbuf.now * 64 + 0)).queue q5))).quotaBroken wAdmissionOutcomes10_x.req = none) ∧ (isEvict wAdmissionOutcomes10_x.req.op
        = true ∨ wAdmissionOutcomes10_x.tracker.isSome = true ∨ 0 < ((((Wbuf.sentBy (Wbuf.now * 64 + 0)).bookEarly (Wbuf.now *
        64 + 0)).withPorts (have __src := ((Wbuf.sentBy (Wbuf.now * 64 + 0)).bookEarly (Wbuf.now * 64 + 0)).ports;
        { links := __src.links, split := __src.split, queues := __src.queues, replay := __src.replay, barriers := __src.barriers, monitors := __src.monitors, cleared := __src.cleared, rr := Assoc.put 5 (q5 % 512) ((Wbuf.sentBy (Wbuf.now * 64 + 0)).bookEarly (Wbuf.now * 64 + 0)).ports.rr, resend := __src.resend, outcomes := __src.outcomes })).setQueue
        q5 (List.filter (fun (y : QReq) => y.id != wAdmissionOutcomes10_x.id) (((Wbuf.sentBy (Wbuf.now * 64 + 0)).bookEarly
        (Wbuf.now * 64 + 0)).queue q5))).freeGeneral (sliceOf 524288)) ∧ (wAdmissionOutcomes10_x.promoted = true ∨ ∀ (y : Txn),
        y ∈ ((Wbuf.sentBy (Wbuf.now * 64 + 0)).bookEarly (Wbuf.now * 64 + 0)).home.txns → ((((Wbuf.sentBy (Wbuf.now * 64 +
        0)).bookEarly (Wbuf.now * 64 + 0)).withPorts (have __src := ((Wbuf.sentBy (Wbuf.now * 64 + 0)).bookEarly (Wbuf.now * 64
        + 0)).ports;
        { links := __src.links, split := __src.split, queues := __src.queues, replay := __src.replay, barriers := __src.barriers, monitors := __src.monitors, cleared := __src.cleared, rr := Assoc.put 5 (q5 % 512) ((Wbuf.sentBy (Wbuf.now * 64 + 0)).bookEarly (Wbuf.now * 64 + 0)).ports.rr, resend := __src.resend, outcomes := __src.outcomes })).setQueue
        q5 (List.filter (fun (y : QReq) => y.id != wAdmissionOutcomes10_x.id) (((Wbuf.sentBy (Wbuf.now * 64 + 0)).bookEarly
        (Wbuf.now * 64 + 0)).queue q5))).headDue y = false) ∧ hasData wAdmissionOutcomes10_x.req.op = true)
    ∧ ((1792 ≤ ((((Wbuf.sentBy (Wbuf.now * 64 + 0)).bookEarly (Wbuf.now * 64 + 0)).withPorts (have __src := ((Wbuf.sentBy
        (Wbuf.now * 64 + 0)).bookEarly (Wbuf.now * 64 + 0)).ports;
        { links := __src.links, split := __src.split, queues := __src.queues, replay := __src.replay, barriers := __src.barriers, monitors := __src.monitors, cleared := __src.cleared, rr := Assoc.put 5 (q5 % 512) ((Wbuf.sentBy (Wbuf.now * 64 + 0)).bookEarly (Wbuf.now * 64 + 0)).ports.rr, resend := __src.resend, outcomes := __src.outcomes })).setQueue
        q5 (List.filter (fun (y : QReq) => y.id != wAdmissionOutcomes10_x.id) (((Wbuf.sentBy (Wbuf.now * 64 + 0)).bookEarly
        (Wbuf.now * 64 + 0)).queue q5))).pwbReservedUse (chanOf 524288)))
    ∧ (((Wfar.sentBy (Wfar.now * 64 + 0)).bookEarly (Wfar.now * 64 + 0)).nextQueue 5 = some (q5, wAdmissionOutcomes11_x) ∧
        ((Wfar.sentBy (Wfar.now * 64 + 0)).bookEarly (Wfar.now * 64 + 0)).halfUp 5 = true ∧ ((Wfar.sentBy (Wfar.now * 64 +
        0)).bookEarly (Wfar.now * 64 + 0)).earlyRefusal wAdmissionOutcomes11_x.req.op = none ∧ ((Wfar.sentBy (Wfar.now * 64 +
        0)).bookEarly (Wfar.now * 64 + 0)).inputError 5 wAdmissionOutcomes11_x.req = none ∧ wAdmissionOutcomes11_x.req.op ≠
        Op.barrier ∧ ((Wfar.sentBy (Wfar.now * 64 + 0)).bookEarly (Wfar.now * 64 + 0)).target
        wAdmissionOutcomes11_x.req.addr.toNat = Target.memory 524288 ∧ ((Wfar.sentBy (Wfar.now * 64 + 0)).bookEarly (Wfar.now *
        64 + 0)).lateRefusal 5 wAdmissionOutcomes11_x.id wAdmissionOutcomes11_x.req = none ∧ (((((Wfar.sentBy (Wfar.now * 64 +
        0)).bookEarly (Wfar.now * 64 + 0)).withPorts (have __src := ((Wfar.sentBy (Wfar.now * 64 + 0)).bookEarly (Wfar.now * 64
        + 0)).ports;
        { links := __src.links, split := __src.split, queues := __src.queues, replay := __src.replay, barriers := __src.barriers, monitors := __src.monitors, cleared := __src.cleared, rr := Assoc.put 5 (q5 % 512) ((Wfar.sentBy (Wfar.now * 64 + 0)).bookEarly (Wfar.now * 64 + 0)).ports.rr, resend := __src.resend, outcomes := __src.outcomes })).setQueue
        q5 (List.filter (fun (y : QReq) => y.id != wAdmissionOutcomes11_x.id) (((Wfar.sentBy (Wfar.now * 64 + 0)).bookEarly
        (Wfar.now * 64 + 0)).queue q5))).quotaBroken wAdmissionOutcomes11_x.req = none) ∧ (isEvict wAdmissionOutcomes11_x.req.op
        = true ∨ wAdmissionOutcomes11_x.tracker.isSome = true ∨ 0 < ((((Wfar.sentBy (Wfar.now * 64 + 0)).bookEarly (Wfar.now *
        64 + 0)).withPorts (have __src := ((Wfar.sentBy (Wfar.now * 64 + 0)).bookEarly (Wfar.now * 64 + 0)).ports;
        { links := __src.links, split := __src.split, queues := __src.queues, replay := __src.replay, barriers := __src.barriers, monitors := __src.monitors, cleared := __src.cleared, rr := Assoc.put 5 (q5 % 512) ((Wfar.sentBy (Wfar.now * 64 + 0)).bookEarly (Wfar.now * 64 + 0)).ports.rr, resend := __src.resend, outcomes := __src.outcomes })).setQueue
        q5 (List.filter (fun (y : QReq) => y.id != wAdmissionOutcomes11_x.id) (((Wfar.sentBy (Wfar.now * 64 + 0)).bookEarly
        (Wfar.now * 64 + 0)).queue q5))).freeGeneral (sliceOf 524288)) ∧ (wAdmissionOutcomes11_x.promoted = true ∨ ∀ (y : Txn),
        y ∈ ((Wfar.sentBy (Wfar.now * 64 + 0)).bookEarly (Wfar.now * 64 + 0)).home.txns → ((((Wfar.sentBy (Wfar.now * 64 +
        0)).bookEarly (Wfar.now * 64 + 0)).withPorts (have __src := ((Wfar.sentBy (Wfar.now * 64 + 0)).bookEarly (Wfar.now * 64
        + 0)).ports;
        { links := __src.links, split := __src.split, queues := __src.queues, replay := __src.replay, barriers := __src.barriers, monitors := __src.monitors, cleared := __src.cleared, rr := Assoc.put 5 (q5 % 512) ((Wfar.sentBy (Wfar.now * 64 + 0)).bookEarly (Wfar.now * 64 + 0)).ports.rr, resend := __src.resend, outcomes := __src.outcomes })).setQueue
        q5 (List.filter (fun (y : QReq) => y.id != wAdmissionOutcomes11_x.id) (((Wfar.sentBy (Wfar.now * 64 + 0)).bookEarly
        (Wfar.now * 64 + 0)).queue q5))).headDue y = false) ∧ (hasData wAdmissionOutcomes11_x.req.op = false ∨ ((((Wfar.sentBy
        (Wfar.now * 64 + 0)).bookEarly (Wfar.now * 64 + 0)).withPorts (have __src := ((Wfar.sentBy (Wfar.now * 64 +
        0)).bookEarly (Wfar.now * 64 + 0)).ports;
        { links := __src.links, split := __src.split, queues := __src.queues, replay := __src.replay, barriers := __src.barriers, monitors := __src.monitors, cleared := __src.cleared, rr := Assoc.put 5 (q5 % 512) ((Wfar.sentBy (Wfar.now * 64 + 0)).bookEarly (Wfar.now * 64 + 0)).ports.rr, resend := __src.resend, outcomes := __src.outcomes })).setQueue
        q5 (List.filter (fun (y : QReq) => y.id != wAdmissionOutcomes11_x.id) (((Wfar.sentBy (Wfar.now * 64 + 0)).bookEarly
        (Wfar.now * 64 + 0)).queue q5))).pwbReservedUse (chanOf 524288) < 1792))
    ∧ (((fun (la : Nat) => ((((Wfar.sentBy (Wfar.now * 64 + 0)).bookEarly (Wfar.now * 64 + 0)).withPorts (have __src :=
        ((Wfar.sentBy (Wfar.now * 64 + 0)).bookEarly (Wfar.now * 64 + 0)).ports;
        { links := __src.links, split := __src.split, queues := __src.queues, replay := __src.replay, barriers := __src.barriers, monitors := __src.monitors, cleared := __src.cleared, rr := Assoc.put 5 (q5 % 512) ((Wfar.sentBy (Wfar.now * 64 + 0)).bookEarly (Wfar.now * 64 + 0)).ports.rr, resend := __src.resend, outcomes := __src.outcomes })).setQueue
        q5 (List.filter (fun (y : QReq) => y.id != wAdmissionOutcomes11_x.id) (((Wfar.sentBy (Wfar.now * 64 + 0)).bookEarly
        (Wfar.now * 64 + 0)).queue q5))).bookGroups (Wfar.now * 64 + 0)
        { id := wAdmissionOutcomes11_x.id, req := wAdmissionOutcomes11_x.req, line := la / 128, slice := sliceOf la, half := 5, pc := ((((Wfar.sentBy (Wfar.now * 64 + 0)).bookEarly (Wfar.now * 64 + 0)).withPorts (have __src := ((Wfar.sentBy (Wfar.now * 64 + 0)).bookEarly (Wfar.now * 64 + 0)).ports; { links := __src.links, split := __src.split, queues := __src.queues, replay := __src.replay, barriers := __src.barriers, monitors := __src.monitors, cleared := __src.cleared, rr := Assoc.put 5 (q5 % 512) ((Wfar.sentBy (Wfar.now * 64 + 0)).bookEarly (Wfar.now * 64 + 0)).ports.rr, resend := __src.resend, outcomes := __src.outcomes })).setQueue q5 (List.filter (fun (y : QReq) => y.id != wAdmissionOutcomes11_x.id) (((Wfar.sentBy (Wfar.now * 64 + 0)).bookEarly (Wfar.now * 64 + 0)).queue q5))).partClass wAdmissionOutcomes11_x.req.partid.toNat, promoted := wAdmissionOutcomes11_x.promoted, arrive := ((((Wfar.sentBy (Wfar.now * 64 + 0)).bookEarly (Wfar.now * 64 + 0)).withPorts (have __src := ((Wfar.sentBy (Wfar.now * 64 + 0)).bookEarly (Wfar.now * 64 + 0)).ports; { links := __src.links, split := __src.split, queues := __src.queues, replay := __src.replay, barriers := __src.barriers, monitors := __src.monitors, cleared := __src.cleared, rr := Assoc.put 5 (q5 % 512) ((Wfar.sentBy (Wfar.now * 64 + 0)).bookEarly (Wfar.now * 64 + 0)).ports.rr, resend := __src.resend, outcomes := __src.outcomes })).setQueue q5 (List.filter (fun (y : QReq) => y.id != wAdmissionOutcomes11_x.id) (((Wfar.sentBy (Wfar.now * 64 + 0)).bookEarly (Wfar.now * 64 + 0)).queue q5))).reaches q5 (la / 128) (Wfar.now * 64 + 0) }
        (((((Wfar.sentBy (Wfar.now * 64 + 0)).bookEarly (Wfar.now * 64 + 0)).withPorts (have __src := ((Wfar.sentBy (Wfar.now *
        64 + 0)).bookEarly (Wfar.now * 64 + 0)).ports;
        { links := __src.links, split := __src.split, queues := __src.queues, replay := __src.replay, barriers := __src.barriers, monitors := __src.monitors, cleared := __src.cleared, rr := Assoc.put 5 (q5 % 512) ((Wfar.sentBy (Wfar.now * 64 + 0)).bookEarly (Wfar.now * 64 + 0)).ports.rr, resend := __src.resend, outcomes := __src.outcomes })).setQueue
        q5 (List.filter (fun (y : QReq) => y.id != wAdmissionOutcomes11_x.id) (((Wfar.sentBy (Wfar.now * 64 + 0)).bookEarly
        (Wfar.now * 64 + 0)).queue q5))).admGroups 5 wAdmissionOutcomes11_x.req (sliceOf la))) 524288 = Sum.inl (some wfar))) := by
  refine ⟨?_, ?_, ?_, ?_, ?_, ?_, ?_, ?_, ?_, ?_, ?_, ?_, ?_, ?_, ?_⟩ <;> decide +kernel

def sz (op : Nat) : Req := { rq 0 with size := if op ≥ 16 then 1 else 0 }
def L (s : State) (op : Nat) (r : Req) : State × Txn × Nat := (s.looksUp 5 0 op r).getD (s, dTxn, 0)
def wUnrecordedReads0_v : State := (L WK 1 (sz 1)).1
def wUnrecordedReads0_r : Req := sz 1
def wUnrecordedReads0_t : Txn := (L WK 1 (sz 1)).2.1
def wUnrecordedReads0_c : Nat := (L WK 1 (sz 1)).2.2
def wUnrecordedReads0_i : Instr := .rdShared h5 c0 (sz 1)
def wUnrecordedReads3_v : State := (L WK 4 (sz 4)).1
def wUnrecordedReads3_r : Req := sz 4
def wUnrecordedReads3_t : Txn := (L WK 4 (sz 4)).2.1
def wUnrecordedReads3_c : Nat := (L WK 4 (sz 4)).2.2
def wUnrecordedReads3_i : Instr := .rdCur h5 c0 (sz 4)
theorem test_UnrecordedReads :
    (((wUnrecordedReads0_i, 1) ∈ [(Instr.rdCur h5 c0 wUnrecordedReads0_r, Op.rdCur), (Instr.rdRsv h5 c0 wUnrecordedReads0_r,
        Op.rdRsv)] ++ [(Instr.rdShared h5 c0 wUnrecordedReads0_r, Op.rdShared), (Instr.rdOwn h5 c0 wUnrecordedReads0_r,
        Op.rdOwn), (Instr.upgrade h5 c0 wUnrecordedReads0_r, Op.upgrade)] ∧ WK.looksUp h5.val c0.val 1 wUnrecordedReads0_r =
        some (wUnrecordedReads0_v, wUnrecordedReads0_t, wUnrecordedReads0_c) ∧ wUnrecordedReads0_t.req =
        ({ wUnrecordedReads0_r with opcode := BitVec.ofNat 6 1 } : Req) ∧ wUnrecordedReads0_v.dirHit wUnrecordedReads0_t.line =
        none ∧ wUnrecordedReads0_v.tierCopy wUnrecordedReads0_t.line = some
        { src := Src.kernel, data := (11259375 : Line), poison := false, keyid := 5 } ∧ (wUnrecordedReads0_i, 1) ∈
        [(Instr.rdShared h5 c0 wUnrecordedReads0_r, Op.rdShared), (Instr.rdOwn h5 c0 wUnrecordedReads0_r, Op.rdOwn),
        (Instr.upgrade h5 c0 wUnrecordedReads0_r, Op.upgrade)] ∧ wUnrecordedReads0_v.chooseDir (dsetOf (wUnrecordedReads0_t.line
        * 128)) (wUnrecordedReads0_c - 64 * wUnrecordedReads0_v.now) = some (0, none)) ∧ LooksUpFree wUnrecordedReads0_v
        wUnrecordedReads0_t h5.val)
    ∧ (((wUnrecordedReads3_i, 4) ∈ [(Instr.rdCur h5 c0 wUnrecordedReads3_r, Op.rdCur), (Instr.rdRsv h5 c0 wUnrecordedReads3_r,
        Op.rdRsv)] ++ [(Instr.rdShared h5 c0 wUnrecordedReads3_r, Op.rdShared), (Instr.rdOwn h5 c0 wUnrecordedReads3_r,
        Op.rdOwn), (Instr.upgrade h5 c0 wUnrecordedReads3_r, Op.upgrade)] ∧ WK.looksUp h5.val c0.val 4 wUnrecordedReads3_r =
        some (wUnrecordedReads3_v, wUnrecordedReads3_t, wUnrecordedReads3_c) ∧ wUnrecordedReads3_t.req =
        ({ wUnrecordedReads3_r with opcode := BitVec.ofNat 6 4 } : Req) ∧ wUnrecordedReads3_v.dirHit wUnrecordedReads3_t.line =
        none ∧ wUnrecordedReads3_v.tierCopy wUnrecordedReads3_t.line = some
        { src := Src.kernel, data := (11259375 : Line), poison := false, keyid := 5 } ∧ (wUnrecordedReads3_i, 4) ∈ [(Instr.rdCur
        h5 c0 wUnrecordedReads3_r, Op.rdCur), (Instr.rdRsv h5 c0 wUnrecordedReads3_r, Op.rdRsv)]) ∧ LooksUpFree
        wUnrecordedReads3_v wUnrecordedReads3_t h5.val) := by
  refine ⟨?_, ?_⟩
  · exact withFree (by decide +kernel)
  · exact withFree (by decide +kernel)

def own : DirEnt := { st := .owned, fholder := 6, dtag := dtagOf 0x80000, sharers := 0x40 }
def own5 : DirEnt := { own with fholder := 5, sharers := 0x20 }
def shr (m : BitVec 32) : DirEnt := { own with st := .shared, fholder := 6, sharers := m }
def WD (e : DirEnt) : State := WK.withHome { WK.home with dir := [(dsx * 16 + 3, e)] }
def wRecordedHolders0_s : State := WD own
def wRecordedHolders0_v : State := (L (WD own) 1 (sz 1)).1
def wRecordedHolders0_r : Req := sz 1
def wRecordedHolders0_t : Txn := (L (WD own) 1 (sz 1)).2.1
def wRecordedHolders0_c : Nat := (L (WD own) 1 (sz 1)).2.2
def wRecordedHolders0_i : Instr := .rdShared h5 c0 (sz 1)
def wRecordedHolders9_s : State := (WD (shr 0x20))
def wRecordedHolders9_v : State := (L (WD (shr 0x20)) 3 (sz 3)).1
def wRecordedHolders9_r : Req := sz 3
def wRecordedHolders9_t : Txn := (L (WD (shr 0x20)) 3 (sz 3)).2.1
def wRecordedHolders9_c : Nat := (L (WD (shr 0x20)) 3 (sz 3)).2.2
def wRecordedHolders9_e : DirEnt := shr 0x20
def wRecordedHolders10_s : State := (WD own5)
def wRecordedHolders10_v : State := (L (WD own5) 2 (sz 2)).1
def wRecordedHolders10_r : Req := sz 2
def wRecordedHolders10_t : Txn := (L (WD own5) 2 (sz 2)).2.1
def wRecordedHolders10_c : Nat := (L (WD own5) 2 (sz 2)).2.2
theorem test_RecordedHolders :
    (((wRecordedHolders0_i, 1, (1 : BitVec 6)) ∈ [(Instr.rdShared h5 c0 wRecordedHolders0_r, Op.rdShared, (1 : BitVec 6)),
        (Instr.rdOwn h5 c0 wRecordedHolders0_r, Op.rdOwn, (2 : BitVec 6)), (Instr.upgrade h5 c0 wRecordedHolders0_r, Op.upgrade,
        (2 : BitVec 6)), (Instr.rdCur h5 c0 wRecordedHolders0_r, Op.rdCur, (3 : BitVec 6)), (Instr.rdRsv h5 c0
        wRecordedHolders0_r, Op.rdRsv, (3 : BitVec 6)), (Instr.wrInvAll h5 c0 wRecordedHolders0_r, Op.wrInvAll, (4 : BitVec 6)),
        (Instr.wrPartial h5 c0 wRecordedHolders0_r, Op.wrPartial, (4 : BitVec 6)), (Instr.atomAdd h5 c0 wRecordedHolders0_r,
        Op.atomAdd, (4 : BitVec 6)), (Instr.atomSwap h5 c0 wRecordedHolders0_r, Op.atomSwap, (4 : BitVec 6)), (Instr.atomCas h5
        c0 wRecordedHolders0_r, Op.atomCas, (4 : BitVec 6)), (Instr.atomAnd h5 c0 wRecordedHolders0_r, Op.atomAnd, (4 : BitVec
        6)), (Instr.atomOr h5 c0 wRecordedHolders0_r, Op.atomOr, (4 : BitVec 6))] ∧ wRecordedHolders0_s.looksUp h5.val c0.val 1
        wRecordedHolders0_r = some (wRecordedHolders0_v, wRecordedHolders0_t, wRecordedHolders0_c) ∧ wRecordedHolders0_t.req =
        ({ wRecordedHolders0_r with opcode := BitVec.ofNat 6 1 } : Req) ∧ wRecordedHolders0_v.dirHit wRecordedHolders0_t.line =
        some (3, own) ∧ own.st = DirSt.owned ∧ own.fholder = 6 ∧ 6 ≠ h5.val ∧ own.sharers = (1 : BitVec 32) <<< 6 ∧
        wRecordedHolders0_v.halfUp 6 = true ∧ (wRecordedHolders0_v.link 6).snpCredit ≠ 0) ∧ LooksUpFree wRecordedHolders0_v
        wRecordedHolders0_t h5.val)
    ∧ ((wRecordedHolders9_s.looksUp (h5.val) (c0.val) Op.upgrade wRecordedHolders9_r = some (wRecordedHolders9_v,
        wRecordedHolders9_t, wRecordedHolders9_c) ∧ wRecordedHolders9_t.req =
        ({ wRecordedHolders9_r with opcode := BitVec.ofNat 6 Op.upgrade } : Req) ∧ wRecordedHolders9_v.dirHit
        wRecordedHolders9_t.line = some (3, wRecordedHolders9_e) ∧ wRecordedHolders9_e.st = DirSt.shared ∧
        wRecordedHolders9_e.sharers = (1 : BitVec 32) <<< h5.val) ∧ LooksUpFree wRecordedHolders9_v wRecordedHolders9_t h5.val)
    ∧ ((wRecordedHolders10_s.looksUp (h5.val) (c0.val) Op.rdOwn wRecordedHolders10_r = some (wRecordedHolders10_v,
        wRecordedHolders10_t, wRecordedHolders10_c) ∧ wRecordedHolders10_t.req =
        ({ wRecordedHolders10_r with opcode := BitVec.ofNat 6 Op.rdOwn } : Req) ∧ wRecordedHolders10_v.dirHit
        wRecordedHolders10_t.line = some (3, own5) ∧ own5.st = DirSt.owned ∧ own5.fholder = h5.val ∧ own5.sharers ≠ (0 : BitVec
        32)) ∧ LooksUpFree wRecordedHolders10_v wRecordedHolders10_t h5.val) := by
  refine ⟨?_, ?_, ?_⟩
  · exact withFree (by decide +kernel)
  · exact withFree (by decide +kernel)
  · exact withFree (by decide +kernel)

def at_m : Monitor := { pline := 0x1000, line := 0x1000, keyid := 5, partid := 6, at_ := 100, intervening := 0 }
def WM : State := WK.withPorts { WK.ports with monitors := [(q5, at_m)] }
def wHomeWrites0_v : State := (L WK 12 (sz 12)).1
def wHomeWrites0_r : Req := sz 12
def wHomeWrites0_t : Txn := (L WK 12 (sz 12)).2.1
def wHomeWrites0_c : Nat := (L WK 12 (sz 12)).2.2
def wHomeWrites1_v : State := (L WK 13 (sz 13)).1
def wHomeWrites1_r : Req := sz 13
def wHomeWrites1_t : Txn := (L WK 13 (sz 13)).2.1
def wHomeWrites1_c : Nat := (L WK 13 (sz 13)).2.2
def wHomeWrites2_v : State := (L WK 16 (sz 16)).1
def wHomeWrites2_r : Req := sz 16
def wHomeWrites2_t : Txn := (L WK 16 (sz 16)).2.1
def wHomeWrites2_c : Nat := (L WK 16 (sz 16)).2.2
def wHomeWrites2_i : Instr := .atomAdd h5 c0 (sz 16)
def wHomeWrites7_v : State := (L WM 14 (rq 0)).1
def wHomeWrites7_r : Req := rq 0
def wHomeWrites7_t : Txn := (L WM 14 (rq 0)).2.1
def wHomeWrites7_c : Nat := (L WM 14 (rq 0)).2.2
def wHomeWrites8_v : State := (L WK 14 (rq 0)).1
def wHomeWrites8_r : Req := rq 0
def wHomeWrites8_t : Txn := (L WK 14 (rq 0)).2.1
def wHomeWrites8_c : Nat := (L WK 14 (rq 0)).2.2
theorem test_HomeWrites :
    ((WK.looksUp (h5.val) (c0.val) Op.wrInvAll wHomeWrites0_r = some (wHomeWrites0_v, wHomeWrites0_t, wHomeWrites0_c) ∧
        wHomeWrites0_t.req = ({ wHomeWrites0_r with opcode := BitVec.ofNat 6 Op.wrInvAll } : Req) ∧ wHomeWrites0_v.dirHit
        wHomeWrites0_t.line = none ∧ wHomeWrites0_v.tierCopy wHomeWrites0_t.line = some
        { src := Src.kernel, data := (11259375 : Line), poison := false, keyid := 5 } ∧ wHomeWrites0_v.tiers.staging = [] ∧
        wHomeWrites0_v.modes.mode = Mode.normal ∧ wHomeWrites0_t.mode = Mode.normal ∧ wHomeWrites0_v.modes.settle = 0 ∧
        wHomeWrites0_r.poison = false ∧ ((wHomeWrites0_v.streamWrite wHomeWrites0_t.slice wHomeWrites0_t.queue
        wHomeWrites0_t.line).stream wHomeWrites0_t.slice wHomeWrites0_t.queue).streaming = false) ∧ LooksUpFree wHomeWrites0_v
        wHomeWrites0_t h5.val)
    ∧ ((WK.looksUp (h5.val) (c0.val) Op.wrPartial wHomeWrites1_r = some (wHomeWrites1_v, wHomeWrites1_t, wHomeWrites1_c) ∧
        wHomeWrites1_t.req = ({ wHomeWrites1_r with opcode := BitVec.ofNat 6 Op.wrPartial } : Req) ∧ wHomeWrites1_v.dirHit
        wHomeWrites1_t.line = none ∧ wHomeWrites1_v.tierCopy wHomeWrites1_t.line = some
        { src := Src.kernel, data := (11259375 : Line), poison := false, keyid := 5 } ∧ wHomeWrites1_v.tiers.staging = [] ∧
        wHomeWrites1_v.modes.mode = Mode.normal ∧ wHomeWrites1_t.mode = Mode.normal ∧ wHomeWrites1_v.modes.settle = 0 ∧
        wHomeWrites1_r.poison = false) ∧ LooksUpFree wHomeWrites1_v wHomeWrites1_t h5.val)
    ∧ (((wHomeWrites2_i, 16) ∈ [(Instr.atomAdd h5 c0 wHomeWrites2_r, Op.atomAdd), (Instr.atomSwap h5 c0 wHomeWrites2_r,
        Op.atomSwap), (Instr.atomCas h5 c0 wHomeWrites2_r, Op.atomCas), (Instr.atomAnd h5 c0 wHomeWrites2_r, Op.atomAnd),
        (Instr.atomOr h5 c0 wHomeWrites2_r, Op.atomOr)] ∧ WK.looksUp h5.val c0.val 16 wHomeWrites2_r = some (wHomeWrites2_v,
        wHomeWrites2_t, wHomeWrites2_c) ∧ wHomeWrites2_t.req = ({ wHomeWrites2_r with opcode := BitVec.ofNat 6 16 } : Req) ∧
        wHomeWrites2_v.dirHit wHomeWrites2_t.line = none ∧ wHomeWrites2_v.tierCopy wHomeWrites2_t.line = some
        { src := Src.kernel, data := (11259375 : Line), poison := false, keyid := 5 } ∧ wHomeWrites2_v.tiers.staging = [] ∧
        wHomeWrites2_v.modes.mode = Mode.normal ∧ wHomeWrites2_t.mode = Mode.normal ∧ wHomeWrites2_v.modes.settle = 0 ∧
        wHomeWrites2_r.poison = false ∧ (wHomeWrites2_r.size = (1 : BitVec 3) ∨ wHomeWrites2_r.size = (2 : BitVec 3))) ∧
        LooksUpFree wHomeWrites2_v wHomeWrites2_t h5.val)
    ∧ ((WM.looksUp (h5.val) (c0.val) Op.wrCond wHomeWrites7_r = some (wHomeWrites7_v, wHomeWrites7_t, wHomeWrites7_c) ∧
        wHomeWrites7_t.req = ({ wHomeWrites7_r with opcode := BitVec.ofNat 6 Op.wrCond } : Req) ∧ wHomeWrites7_v.dirHit
        wHomeWrites7_t.line = none ∧ wHomeWrites7_v.tierCopy wHomeWrites7_t.line = some
        { src := Src.kernel, data := (11259375 : Line), poison := false, keyid := 5 } ∧ wHomeWrites7_v.tiers.staging = [] ∧
        wHomeWrites7_v.modes.mode = Mode.normal ∧ wHomeWrites7_t.mode = Mode.normal ∧ wHomeWrites7_v.modes.settle = 0 ∧
        wHomeWrites7_r.poison = false ∧ Assoc.find? wHomeWrites7_t.queue wHomeWrites7_v.ports.monitors = some
        { pline := wHomeWrites7_r.addr.toNat / 128, line := wHomeWrites7_t.line, keyid := wHomeWrites7_r.keyid, partid := wHomeWrites7_r.partid, at_ := wHomeWrites7_t.entered, intervening := 0 })
        ∧ LooksUpFree wHomeWrites7_v wHomeWrites7_t h5.val)
    ∧ ((WK.looksUp (h5.val) (c0.val) Op.wrCond wHomeWrites8_r = some (wHomeWrites8_v, wHomeWrites8_t, wHomeWrites8_c) ∧
        wHomeWrites8_t.req = ({ wHomeWrites8_r with opcode := BitVec.ofNat 6 Op.wrCond } : Req) ∧ wHomeWrites8_v.dirHit
        wHomeWrites8_t.line = none ∧ wHomeWrites8_v.tierCopy wHomeWrites8_t.line = some
        { src := Src.kernel, data := (11259375 : Line), poison := false, keyid := 5 } ∧ wHomeWrites8_v.tiers.staging = [] ∧
        wHomeWrites8_v.modes.mode = Mode.normal ∧ wHomeWrites8_t.mode = Mode.normal ∧ wHomeWrites8_v.modes.settle = 0 ∧
        wHomeWrites8_r.poison = false ∧ Assoc.find? wHomeWrites8_t.queue wHomeWrites8_v.ports.monitors = none ∧ Assoc.find?
        wHomeWrites8_t.queue wHomeWrites8_v.ports.cleared = none) ∧ LooksUpFree wHomeWrites8_v wHomeWrites8_t h5.val) := by
  refine ⟨?_, ?_, ?_, ?_, ?_⟩
  · exact withFree (by decide +kernel)
  · exact withFree (by decide +kernel)
  · exact withFree (by decide +kernel)
  · exact withFree (by decide +kernel)
  · exact withFree (by decide +kernel)

def wEvictions0_s : State := (WD own5)
def wEvictions0_v : State := (L (WD own5) 8 (rq 0)).1
def wEvictions0_r : Req := rq 0
def wEvictions0_t : Txn := (L (WD own5) 8 (rq 0)).2.1
def wEvictions0_c : Nat := (L (WD own5) 8 (rq 0)).2.2
def wEvictions1_s : State := (WD (shr 0x60))
def wEvictions1_v : State := (L (WD (shr 0x60)) 9 (rq 0)).1
def wEvictions1_r : Req := rq 0
def wEvictions1_t : Txn := (L (WD (shr 0x60)) 9 (rq 0)).2.1
def wEvictions1_c : Nat := (L (WD (shr 0x60)) 9 (rq 0)).2.2
def wEvictions1_e : DirEnt := shr 0x60
def wEvictions2_s : State := (WD (shr 0x60))
def wEvictions2_v : State := (L (WD (shr 0x60)) 8 (rq 0)).1
def wEvictions2_r : Req := rq 0
def wEvictions2_t : Txn := (L (WD (shr 0x60)) 8 (rq 0)).2.1
def wEvictions2_c : Nat := (L (WD (shr 0x60)) 8 (rq 0)).2.2
def wEvictions2_e : DirEnt := shr 0x60
def wEvictions3_v : State := (L WK 9 (rq 0)).1
def wEvictions3_r : Req := rq 0
def wEvictions3_t : Txn := (L WK 9 (rq 0)).2.1
def wEvictions3_c : Nat := (L WK 9 (rq 0)).2.2
def wEvictions4_v : State := (L WK 8 (rq 0)).1
def wEvictions4_r : Req := rq 0
def wEvictions4_t : Txn := (L WK 8 (rq 0)).2.1
def wEvictions4_c : Nat := (L WK 8 (rq 0)).2.2
theorem test_Evictions :
    (wEvictions0_s.looksUp (h5.val) (c0.val) Op.wbData wEvictions0_r = some (wEvictions0_v, wEvictions0_t, wEvictions0_c) ∧
        wEvictions0_t.req = ({ wEvictions0_r with opcode := BitVec.ofNat 6 Op.wbData } : Req) ∧ wEvictions0_v.dirHit
        wEvictions0_t.line = some (3, own5) ∧ own5.st = DirSt.owned ∧ own5.fholder = h5.val ∧ own5.sharers = (1 : BitVec 32) <<<
        h5.val ∧ ((wEvictions0_v.streamWrite wEvictions0_t.slice wEvictions0_t.queue wEvictions0_t.line).stream
        wEvictions0_t.slice wEvictions0_t.queue).streaming = false ∧ wEvictions0_r.poison = false ∧ wEvictions0_v.tierCopy
        wEvictions0_t.line = some { src := Src.kernel, data := (11259375 : Line), poison := false, keyid := 5 } ∧
        wEvictions0_v.tiers.staging = [] ∧ wEvictions0_v.modes.mode = Mode.normal)
    ∧ ((wEvictions0_t.mode = Mode.normal ∧ wEvictions0_v.modes.settle = 0) ∧ LooksUpFree wEvictions0_v wEvictions0_t h5.val)
    ∧ ((wEvictions1_s.looksUp (h5.val) (c0.val) Op.evictClean wEvictions1_r = some (wEvictions1_v, wEvictions1_t, wEvictions1_c)
        ∧ wEvictions1_t.req = ({ wEvictions1_r with opcode := BitVec.ofNat 6 Op.evictClean } : Req) ∧ wEvictions1_v.dirHit
        wEvictions1_t.line = some (3, wEvictions1_e) ∧ wEvictions1_e.st = DirSt.shared ∧ wEvictions1_e.sharers.getLsbD h5.val =
        true ∧ wEvictions1_e.sharers &&& ~~~((1 : BitVec 32) <<< h5.val) ≠ (0 : BitVec 32)) ∧ LooksUpFree wEvictions1_v
        wEvictions1_t h5.val)
    ∧ ((wEvictions2_s.looksUp (h5.val) (c0.val) Op.wbData wEvictions2_r = some (wEvictions2_v, wEvictions2_t, wEvictions2_c) ∧
        wEvictions2_t.req = ({ wEvictions2_r with opcode := BitVec.ofNat 6 Op.wbData } : Req) ∧ wEvictions2_v.dirHit
        wEvictions2_t.line = some (3, wEvictions2_e) ∧ wEvictions2_e.st = DirSt.shared ∧ wEvictions2_e.sharers.getLsbD h5.val =
        true ∧ wEvictions2_e.sharers &&& ~~~((1 : BitVec 32) <<< h5.val) ≠ (0 : BitVec 32)) ∧ LooksUpFree wEvictions2_v
        wEvictions2_t h5.val)
    ∧ ((WK.looksUp (h5.val) (c0.val) Op.evictClean wEvictions3_r = some (wEvictions3_v, wEvictions3_t, wEvictions3_c) ∧
        wEvictions3_t.req = ({ wEvictions3_r with opcode := BitVec.ofNat 6 Op.evictClean } : Req) ∧ wEvictions3_v.dirHit
        wEvictions3_t.line = none) ∧ LooksUpFree wEvictions3_v wEvictions3_t h5.val)
    ∧ ((WK.looksUp (h5.val) (c0.val) Op.wbData wEvictions4_r = some (wEvictions4_v, wEvictions4_t, wEvictions4_c) ∧
        wEvictions4_t.req = ({ wEvictions4_r with opcode := BitVec.ofNat 6 Op.wbData } : Req) ∧ wEvictions4_v.dirHit
        wEvictions4_t.line = none) ∧ LooksUpFree wEvictions4_v wEvictions4_t h5.val) := by
  refine ⟨?_, ?_, ?_, ?_, ?_, ?_⟩
  · decide +kernel
  · exact withFree (by decide +kernel)
  · exact withFree (by decide +kernel)
  · exact withFree (by decide +kernel)
  · exact withFree (by decide +kernel)
  · exact withFree (by decide +kernel)

def bar : Req := { rq 0 with opcode := BitVec.ofNat 6 Op.barrier, addr := 0 }
def r0 : Req := { rq 0 with addr := 0 }
def Wba (l : List Txn) (b : Bool := false) : State := let s := WQ; (s.withHome { s.home with txns := l }).withPorts { s.ports with barriers := if b then [(q5, { id := 3, req := bar, entered := 9 })] else [] }
def bt : Txn := { dTxn with half := some 5, req := { rq 1 with tag := 9 }, id := 4 }
def wBarriers0_s : State := Wba []
def wBarriers0_v : State := ((Wba []).commit 5 0 bar).2
def wBarriers0_x : QReq := { id := 20, req := bar, entered := 100, crossed := 6392 }
def wBarriers1_s : State := Wba [bt]
def wBarriers1_v : State := ((Wba [bt]).commit 5 0 bar).2
def wBarriers1_x : QReq := { id := 20, req := bar, entered := 100, crossed := 6392 }
def wBarriers2_s : State := Wba [] true
def wBarriers2_x : QReq := { id := 3, req := bar, entered := 9 }
def wBarriers3_s : State := Wba [bt] true
def wBarriers3_x : QReq := { id := 3, req := bar, entered := 9 }
theorem test_Barriers :
    (wBarriers0_s.commit 5 0 ({ r0 with opcode := BitVec.ofNat 6 Op.barrier } : Req) = (some 20, wBarriers0_v) ∧
        wBarriers0_v.nextQueue 5 = some (5 * 512 + r0.stream.toNat, wBarriers0_x) ∧ wBarriers0_x.id = 20 ∧ wBarriers0_x.req =
        ({ r0 with opcode := BitVec.ofNat 6 Op.barrier } : Req) ∧ wBarriers0_s.halfUp 5 = true ∧ wBarriers0_v.earlyRefusal
        ({ r0 with opcode := BitVec.ofNat 6 Op.barrier } : Req).op = none ∧ wBarriers0_v.inputError 5
        ({ r0 with opcode := BitVec.ofNat 6 Op.barrier } : Req) = none ∧ wBarriers0_v.lateRefusal 5 wBarriers0_x.id
        ({ r0 with opcode := BitVec.ofNat 6 Op.barrier } : Req) = none ∧ wBarriers0_v.sentBy (wBarriers0_v.now * 64 + 0) =
        wBarriers0_v ∧ wBarriers0_v.sentBy (wBarriers0_v.now * 64) = wBarriers0_v ∧ wBarriers0_v.bookEarly (wBarriers0_v.now *
        64 + 0) = wBarriers0_v)
    ∧ (wBarriers0_s.queueOpen 5 (5 * 512 + r0.stream.toNat) = false ∧ Assoc.find? (5 * 512 + r0.stream.toNat)
        wBarriers0_s.ports.barriers = none ∧ Assoc.find? (5 * 512 + BitVec.toNat (3 : BitVec 9)) (wBarriers0_s.sentBy
        (wBarriers0_s.now * 64)).ports.barriers = none)
    ∧ (wBarriers1_s.commit 5 0 ({ r0 with opcode := BitVec.ofNat 6 Op.barrier } : Req) = (some 20, wBarriers1_v) ∧
        wBarriers1_v.nextQueue 5 = some (5 * 512 + r0.stream.toNat, wBarriers1_x) ∧ wBarriers1_x.id = 20 ∧ wBarriers1_x.req =
        ({ r0 with opcode := BitVec.ofNat 6 Op.barrier } : Req) ∧ wBarriers1_s.halfUp 5 = true ∧ wBarriers1_v.earlyRefusal
        ({ r0 with opcode := BitVec.ofNat 6 Op.barrier } : Req).op = none ∧ wBarriers1_v.inputError 5
        ({ r0 with opcode := BitVec.ofNat 6 Op.barrier } : Req) = none ∧ wBarriers1_v.lateRefusal 5 wBarriers1_x.id
        ({ r0 with opcode := BitVec.ofNat 6 Op.barrier } : Req) = none ∧ wBarriers1_v.sentBy (wBarriers1_v.now * 64 + 0) =
        wBarriers1_v ∧ wBarriers1_v.sentBy (wBarriers1_v.now * 64) = wBarriers1_v ∧ wBarriers1_v.bookEarly (wBarriers1_v.now *
        64 + 0) = wBarriers1_v)
    ∧ (wBarriers1_s.queueOpen 5 (5 * 512 + r0.stream.toNat) = true)
    ∧ (Assoc.find? (5 * 512 + BitVec.toNat (3 : BitVec 9)) (wBarriers2_s.sentBy (wBarriers2_s.now * 64)).ports.barriers = some
        wBarriers2_x ∧ (wBarriers2_s.sentBy (wBarriers2_s.now * 64)).halfUp 5 = true ∧ (wBarriers2_s.sentBy (wBarriers2_s.now *
        64)).queueOpen 5 (5 * 512 + BitVec.toNat (3 : BitVec 9)) = false ∧ (Assoc.find? q5 wBarriers2_s.ports.barriers).isSome =
        true)
    ∧ (Assoc.find? (5 * 512 + BitVec.toNat (3 : BitVec 9)) (wBarriers3_s.sentBy (wBarriers3_s.now * 64)).ports.barriers = some
        wBarriers3_x ∧ (wBarriers3_s.sentBy (wBarriers3_s.now * 64)).queueOpen 5 (5 * 512 + BitVec.toNat (3 : BitVec 9)) = true) := by
  refine ⟨?_, ?_, ?_, ?_, ?_, ?_⟩ <;> decide +kernel

def wtx : Txn := { id := 9, slice := 8, tracker := some 4, half := some 5, req := rq 1, line := 0x1000, phase := .reserved, ageStart := some 60 }
def Wwt (now : Nat) (k : Nat := 1) : State := let s := WQ [(Obj.spurThreshold, 8)]; (s.withHome { s.home with txns := [{ wtx with tracker := some 4 }] }).withTime { s.time with stride := BitVec.ofNat 64 now } |>.withGait { banks := [(k, .rom false 3)] }
def wp : Path := { id := 9, req := rq 1, line := 0x1000, slice := 8, half := 5, promoted := false, pc := (Wwt 100).partClass (rq 1).partid.toNat, arrive := 6400 }
def wbk : Nat × State := match (Wwt 100).bookGroups 6400 wp ((Wwt 100).admGroups 5 (rq 1) 8) with | .inr x => x | .inl _ => (0, W0)
def wbl : Option Want := match (Wwt 100 2).bookGroups 6400 wp ((Wwt 100 2).admGroups 5 (rq 1) 8) with | .inl x => x | .inr _ => none
def wWaitersAge0_s₀ : State := WQ
def wWaitersAge1_s₀ : State := Wwt 100
def wWaitersAge1_grp : Nat := wbk.1
def wWaitersAge1_s' : State := wbk.2
def wWaitersAge1_a : Aged := ((Wwt 100).aged.head?).getD dAged
def wWaitersAge2_s₀ : State := Wwt 100 2
theorem test_WaitersAge :
    ((wWaitersAge0_s₀.sentBy (wWaitersAge0_s₀.now * 64)).early = [] ∧ (List.filter (fun (t : Txn) => t.slice == 8 &&
        (wWaitersAge0_s₀.sentBy (wWaitersAge0_s₀.now * 64)).headDue t) (wWaitersAge0_s₀.sentBy (wWaitersAge0_s₀.now *
        64)).home.txns = []))
    ∧ ((wWaitersAge1_s₀.sentBy (wWaitersAge1_s₀.now * 64)).early = [] ∧ (List.filter (fun (t : Txn) => t.slice == 8 &&
        (wWaitersAge1_s₀.sentBy (wWaitersAge1_s₀.now * 64)).headDue t) (wWaitersAge1_s₀.sentBy (wWaitersAge1_s₀.now *
        64)).home.txns = [wtx]) ∧ (wWaitersAge1_s₀.sentBy (wWaitersAge1_s₀.now * 64)).txn wtx.id = some wtx ∧
        (wWaitersAge1_s₀.sentBy (wWaitersAge1_s₀.now * 64)).bookGroups ((wWaitersAge1_s₀.sentBy (wWaitersAge1_s₀.now * 64)).now
        * 64)
        { id := wtx.id, req := wtx.req, line := wtx.line, slice := wtx.slice, half := wtx.half.getD 0, pc := (wWaitersAge1_s₀.sentBy (wWaitersAge1_s₀.now * 64)).partClass wtx.req.partid.toNat, promoted := wtx.promoted, arrive := (wWaitersAge1_s₀.sentBy (wWaitersAge1_s₀.now * 64)).now * 64 }
        ((wWaitersAge1_s₀.sentBy (wWaitersAge1_s₀.now * 64)).admGroups (wtx.half.getD 0) wtx.req wtx.slice) = Sum.inr
        (wWaitersAge1_grp, wWaitersAge1_s') ∧ wWaitersAge1_s₀.aged = [wWaitersAge1_a] ∧ wWaitersAge1_a.promoted = false ∧
        wWaitersAge1_s₀.eff Obj.spurThreshold ≤ wWaitersAge1_s₀.now - wWaitersAge1_a.start)
    ∧ ((wWaitersAge2_s₀.sentBy (wWaitersAge2_s₀.now * 64)).early = [] ∧ (List.filter (fun (t : Txn) => t.slice == 8 &&
        (wWaitersAge2_s₀.sentBy (wWaitersAge2_s₀.now * 64)).headDue t) (wWaitersAge2_s₀.sentBy (wWaitersAge2_s₀.now *
        64)).home.txns = [wtx]) ∧ (wWaitersAge2_s₀.sentBy (wWaitersAge2_s₀.now * 64)).txn wtx.id = some wtx ∧
        (wWaitersAge2_s₀.sentBy (wWaitersAge2_s₀.now * 64)).bookGroups ((wWaitersAge2_s₀.sentBy (wWaitersAge2_s₀.now * 64)).now
        * 64)
        { id := wtx.id, req := wtx.req, line := wtx.line, slice := wtx.slice, half := wtx.half.getD 0, pc := (wWaitersAge2_s₀.sentBy (wWaitersAge2_s₀.now * 64)).partClass wtx.req.partid.toNat, promoted := wtx.promoted, arrive := (wWaitersAge2_s₀.sentBy (wWaitersAge2_s₀.now * 64)).now * 64 }
        ((wWaitersAge2_s₀.sentBy (wWaitersAge2_s₀.now * 64)).admGroups (wtx.half.getD 0) wtx.req wtx.slice) = Sum.inl wbl)
    ∧ (∀ (a : Aged), a ∈ wWaitersAge0_s₀.aged → wWaitersAge0_s₀.now - a.start < wWaitersAge0_s₀.eff Obj.spurThreshold) := by
  refine ⟨?_, ?_, ?_, ?_⟩ <;> decide +kernel

end Req

namespace Tiers

def ste (k : StKind) (st : LState) (data : Option Line) (loc : Option (Nat × Nat)) : Staged :=
  { id := 4, slice := 0, line := 0x1000, kind := k, st := st, keyid := 5, partid := 6, data := data, loc := loc, entered := 90 }
def slx : Fin 16 := ⟨sliceOf (0x1000*128) % 16, by decide⟩
def sx (e : Staged) : Staged := { e with slice := slx.val }
def ks : Nat := ksetOf (0x1000*128)
def hs : Nat := hsetOf (0x1000*128)
def fillE := { sx (ste .cleanFill .clean (some 77) none) with entered := 99 * 64 }
def WF : State := Wn [] { staging := [fillE], ktags := (List.range 12).map fun w => (ks * 12 + w, { tag := 9 + w, st := .clean, keyid := 3, partid := 6 }) }
def tk (s : State) (k r c cls : Nat) : State := (s.takeSlot k r c cls 1).getD W0
def wF := (((tk WF 0 slx.val 13 Cls.fl).chooseKernel ks 6 13).getD 0)
def fillO := { fillE with entered := 90 * 64 }
def wKernelFillAndDrop0_v : State := tk WF 0 slx.val 13 Cls.fl
def wKernelFillAndDrop0_u : State := ((tk WF 0 slx.val 13 Cls.fl).evictKernel ks wF 13 0).getD W0
def wKernelFillAndDrop1_s : State := Wn [] {}
def wKernelFillAndDrop2_s : State := Wn [] { staging := [fillO] }
theorem test_KernelFillAndDrop :
    ((List.find? (fun (x : Staged) => x.slice == slx.val && x.kind == StKind.cleanFill && x.loc.isNone) WF.tiers.staging = some
        fillE))
    ∧ (WF.takeSlot 0 (slx.val) (13) Cls.fl 1 = some wKernelFillAndDrop0_v ∧ fillE.stale (WF.now * 64 + 13) = false ∧
        WF.modes.mode.noAlloc = false ∧ WF.kernelHit fillE.line = none ∧ wKernelFillAndDrop0_v.chooseKernel (ksetOf (fillE.line
        * 128)) fillE.partid.toNat 13 = some wF ∧ wKernelFillAndDrop0_v.evictKernel (ksetOf (fillE.line * 128)) wF 13 0 = some
        wKernelFillAndDrop0_u ∧ (List.find? (fun (x : Staged) => x.slice == slx.val && x.kind == StKind.cleanFill && x.stale
        (WF.now * 64 + 13)) WF.tiers.staging = none))
    ∧ ((List.find? (fun (x : Staged) => x.slice == slx.val && x.kind == StKind.cleanFill && x.loc.isNone)
        wKernelFillAndDrop1_s.tiers.staging = none ∨ wKernelFillAndDrop1_s.takeSlot 0 (slx.val) (13) Cls.fl 1 = none))
    ∧ ((List.find? (fun (x : Staged) => x.slice == slx.val && x.kind == StKind.cleanFill && x.stale (wKernelFillAndDrop2_s.now *
        64 + 13)) wKernelFillAndDrop2_s.tiers.staging = some fillO)) := by
  refine ⟨?_, ?_, ?_, ?_⟩ <;> decide +kernel

def vic := sx (ste .victim .dirty none (some (ks, 3)))
def bw := sx (ste .writeData .dirty (some 55) (some (ks, 3)))
def WB1 := Wn [] { staging := [vic], kdata := [(ks * 12 + 3, 99)] }
def WB2 := Wn [] { staging := [bw], kdata := [(ks * 12 + 3, 99)] }
def wKernelBankMoves0_v : State := tk WB1 1 slx.val 19 Cls.ev
def wKernelBankMoves1_v : State := tk WB2 1 slx.val 7 bw.cls
theorem test_KernelBankMoves :
    ((List.find? (fun (x : Staged) => x.slice == slx.val && x.kind == StKind.victim && x.data.isNone) WB1.tiers.staging = some
        vic))
    ∧ (WB1.takeSlot 1 (slx.val) (19) Cls.ev 1 = some wKernelBankMoves0_v ∧ (List.find? (fun (e : Staged) => WB1.bankReady
        (slx.val) e && (WB1.takeSlot 1 (slx.val) (19) e.cls 1).isSome) WB1.tiers.staging = none) ∧ (List.find? (fun (x : Staged)
        => x.slice == slx.val && x.kind == StKind.victim && x.data.isNone) WB2.tiers.staging = none ∨ WB2.takeSlot 1 (slx.val)
        (7) Cls.ev 1 = none) ∧ (List.find? (fun (e : Staged) => WB2.bankReady (slx.val) e && (WB2.takeSlot 1 (slx.val) (7) e.cls
        1).isSome) WB2.tiers.staging = some bw) ∧ bw.loc = some (ks, 3))
    ∧ (WB2.takeSlot 1 (slx.val) (7) bw.cls 1 = some wKernelBankMoves1_v ∧ (bw.kind ≠ StKind.cleanFill ∨ bw.stale (WB2.now * 64 +
        7) = false)) := by
  refine ⟨?_, ?_, ?_⟩ <;> decide +kernel

def vicd := sx (ste .victim .dirty (some 71) none)
def vict := { vicd with target := some (hs, 3) }
def sec : Sector := { tag := htagOf (0x1000*128), keyid := 5, partid := 6 }
def WH (t : Tiers) : State := Wn [] { t with sectors := (hs * 16 + 3, sec) :: t.sectors }
def rp (l : List Nat) : Repl := { hset := hs, way := 3, left := l, incoming := some { sec with tag := 5 } }
def pt : Fin 16 := ⟨portOfWay hs 3 % 16, by decide⟩
def WP1 := WH { staging := [vicd] }
def WP2 := WH { staging := [vict] }
def WP3 := WH { repl := [rp [3, 4]], hull := [{ id := 1, line := laOfH hs sec.tag 3 / 128, keyid := 5, poison := false, data := none, src := (hs, 3) }] }
def WP4 := WH { repl := [rp []] }
def wHuskPlacement0_v : State := tk WP1 0 slx.val 5 Cls.wb
def wHuskPlacement2_r : Repl := rp [3, 4]
def wHuskPlacement2_rest : List Nat := [4]
def wHuskPlacement3_r : Repl := rp []
theorem test_HuskPlacement :
    ((List.find? (fun (y : Staged) => y.slice == slx.val && y.kind == StKind.victim && y.st.owed && y.data.isSome &&
        y.target.isNone) WP1.tiers.staging = some vicd))
    ∧ (WP1.takeSlot 0 (slx.val) 5 Cls.wb 1 = some wHuskPlacement0_v ∧ wHuskPlacement0_v.huskPlace vicd.line vicd.keyid.toNat
        vicd.partid.toNat 5 = HuskPlace.present 3 ∧ WP1.sector (hsetOf (vicd.line * 128)) 3 = some sec ∧ (List.find? (fun (r :
        Repl) => r.hset / 32768 == slx.val && r.left.isEmpty) WP1.tiers.repl = none ∨ WP1.takeSlot 0 (slx.val) 5 Cls.ev 1 =
        none) ∧ (List.find? (fun (y : Staged) => y.slice == slx.val && y.kind == StKind.victim && y.st.owed && y.data.isSome &&
        y.target.isNone) WP2.tiers.staging = none ∨ WP2.takeSlot 0 (slx.val) 5 Cls.wb 1 = none) ∧ List.find? (WP2.huskReady
        pt.val) WP2.tiers.staging = some vict ∧ vict.target = some (hs, 3) ∧ (((fun (line : Nat) => WP2.takeSlots 2 (pt.val)
        (checkPort pt.val) 3 Cls.wb 1 (some (hsetOf (line * 128), lineIn (line * 128)))) vict.line).isSome = true))
    ∧ ((List.find? (fun (r : Repl) => portOfWay r.hset r.way == pt.val && !r.left.isEmpty) WP3.tiers.repl = some
        wHuskPlacement2_r) ∧ wHuskPlacement2_r.left = 3 :: wHuskPlacement2_rest ∧ WP3.sector wHuskPlacement2_r.hset
        wHuskPlacement2_r.way = some sec ∧ (((fun (place : Nat × Nat) => WP3.takeSlots 2 (pt.val) (checkPort pt.val) 5 Cls.ev 1
        (some place)) (wHuskPlacement2_r.hset, 3)).isSome = true))
    ∧ ((List.find? (fun (r : Repl) => r.hset / 32768 == slx.val && r.left.isEmpty) WP4.tiers.repl = some wHuskPlacement3_r) ∧
        wHuskPlacement3_r.keep = false ∧ (WP4.takeSlot 0 (slx.val) (15) Cls.ev 1).isSome = true)
    ∧ (∀ (e : Staged), e ∈ List.find? (WP1.huskReady pt.val) WP1.tiers.staging → (fun (line : Nat) => WP1.takeSlots 2 (pt.val)
        (checkPort pt.val) 3 Cls.wb 1 (some (hsetOf (line * 128), lineIn (line * 128)))) e.line = none)
    ∧ (∀ (r : Repl), r ∈ List.find? (fun (r : Repl) => portOfWay r.hset r.way == pt.val && !r.left.isEmpty) WP1.tiers.repl → ∀
        (n : Nat), n ∈ r.left.head? → (fun (place : Nat × Nat) => WP1.takeSlots 2 (pt.val) (checkPort pt.val) 3 Cls.ev 1 (some
        place)) (r.hset, n) = none) := by
  refine ⟨?_, ?_, ?_, ?_, ?_, ?_⟩ <;> decide +kernel

def cv := sx (ste .victim .clean (some 71) none)
def wCleanOffer1_s : State := Wn [(Obj.huskCleanOffer, 0)] { staging := [cv] }
def wCleanOffer1_v : State := tk (Wn [(Obj.huskCleanOffer, 0)] { staging := [cv] }) 0 slx.val 13 Cls.fl
def wCleanOffer2_s : State := Wn [] { staging := [cv], sectors := [(hs*16+3, sec.set (lineIn (0x1000*128)) .clean)] }
def wCleanOffer2_v : State := tk (Wn [] { staging := [cv], sectors := [(hs*16+3, sec.set (lineIn (0x1000*128)) .clean)] }) 0 slx.val 13 Cls.fl
def wCleanOffer3_s : State := Wn [] { staging := [cv] }
def wCleanOffer3_v : State := tk (Wn [] { staging := [cv] }) 0 slx.val 13 Cls.fl
def wCleanOffer4_s : State := WH { staging := [cv] }
def wCleanOffer4_v : State := tk (WH { staging := [cv] }) 0 slx.val 13 Cls.fl
theorem test_CleanOffer :
    ((List.find? (fun (x : Staged) => x.slice == slx.val && x.kind == StKind.victim && x.st == LState.clean && x.data.isSome)
        W0.tiers.staging = none ∨ W0.takeSlot 0 (slx.val) (13) Cls.fl 1 = none))
    ∧ ((List.find? (fun (x : Staged) => x.slice == slx.val && x.kind == StKind.victim && x.st == LState.clean && x.data.isSome)
        wCleanOffer1_s.tiers.staging = some cv) ∧ wCleanOffer1_s.takeSlot 0 (slx.val) (13) Cls.fl 1 = some wCleanOffer1_v ∧
        wCleanOffer1_v.offer cv 13 = Offer.declined 6)
    ∧ ((List.find? (fun (x : Staged) => x.slice == slx.val && x.kind == StKind.victim && x.st == LState.clean && x.data.isSome)
        wCleanOffer2_s.tiers.staging = some cv) ∧ wCleanOffer2_s.takeSlot 0 (slx.val) (13) Cls.fl 1 = some wCleanOffer2_v ∧
        wCleanOffer2_v.offer cv 13 = Offer.accepted)
    ∧ ((List.find? (fun (x : Staged) => x.slice == slx.val && x.kind == StKind.victim && x.st == LState.clean && x.data.isSome)
        wCleanOffer3_s.tiers.staging = some cv) ∧ wCleanOffer3_s.takeSlot 0 (slx.val) (13) Cls.fl 1 = some wCleanOffer3_v ∧
        wCleanOffer3_v.offer cv 13 = Offer.take 0)
    ∧ ((List.find? (fun (x : Staged) => x.slice == slx.val && x.kind == StKind.victim && x.st == LState.clean && x.data.isSome)
        wCleanOffer4_s.tiers.staging = some cv) ∧ wCleanOffer4_s.takeSlot 0 (slx.val) (13) Cls.fl 1 = some wCleanOffer4_v ∧
        wCleanOffer4_v.offer cv 13 = Offer.present 3 ∧ wCleanOffer4_s.sector (hsetOf (cv.line * 128)) 3 = some sec) := by
  refine ⟨?_, ?_, ?_, ?_, ?_⟩ <;> decide +kernel

def wStreamingDetector0_d : Machine.Stream := { count := 6, last := 5 }
def wStreamingDetector1_d : Machine.Stream := { count := 7, last := 5 }
theorem test_StreamingDetector :
    ((2054 ≤ wStreamingDetector0_d.last ∨ wStreamingDetector0_d.last + 2048 < 2054))
    ∧ (0 < wStreamingDetector1_d.count ∧ wStreamingDetector1_d.last < 9 ∧ 9 ≤ wStreamingDetector1_d.last + 2048 ∧
        wStreamingDetector1_d.streaming = false) := by
  refine ⟨?_, ?_⟩ <;> decide +kernel

end Tiers

namespace Time

def Wres : State := { modes := { mode := .reset, resetN := true } }
def Wt (o : List (Nat × Nat)) (now : Nat) (t : Time) : State := withObjs o { time := { t with stride := BitVec.ofNat 64 now }, modes := { mode := .normal } }
def wStrideBoundary0_s : State := ((Wt [(Obj.dieTempPeak, 90)] 5119 {}).withDict { (Wt [(Obj.dieTempPeak, 90)] 5 {}).dict with pending := [(Obj.streamThreshold, 7)] })
theorem test_StrideBoundary :
    wStrideBoundary0_s.timerRuns = true ∧ Wres.timerRuns = false := by
  decide +kernel

def wEpochBoundary0_s : State := Wt [] 5120 {}
theorem test_EpochBoundary :
    wEpochBoundary0_s.timerRuns = true ∧ wEpochBoundary0_s.now % 1024 = 0 ∧ wEpochBoundary0_s.time.epochAt ≠ some
        wEpochBoundary0_s.now ∧ (Wres.timerRuns = false ∨ Wres.now % 1024 ≠ 0 ∨ Wres.time.epochAt = some Wres.now) := by
  decide +kernel

def Wfol (now : Nat) (t : Time) : State := { Wt [(Obj.strideSyncDelay, 3)] now t with pkg := { sampled := 0xFFFF } }
def wSyncPulses0_s : State := Wfol 5 { delay := 3 }
def wSyncPulses1_s : State := Wfol 5 { delay := 3 }
def wSyncPulses2_s : State := Wfol 5 { delay := 3, bad := 1 }
def wSyncPulses3_s : State := Wt [] 5 {}
theorem test_SyncPulses :
    (wSyncPulses0_s.leader = false ∧ wSyncPulses0_s.modes.mode.service = true ∧ (-2 : Int) ≤ (5 : Int) -
        wSyncPulses0_s.time.delay ∧ (5 : Int) - wSyncPulses0_s.time.delay ≤ (2 : Int) ∧ (8 = if wSyncPulses0_s.now % 1024 = 0
        then 16 else 8) ∧ wSyncPulses0_s.time.bad ≠ 1)
    ∧ (wSyncPulses1_s.leader = false ∧ wSyncPulses1_s.modes.mode.service = true ∧ (¬((-2 : Int) ≤ (6 : Int) -
        wSyncPulses1_s.time.delay ∧ (6 : Int) - wSyncPulses1_s.time.delay ≤ (2 : Int) ∧ 8 = if wSyncPulses1_s.now % 1024 = 0
        then 16 else 8)) ∧ wSyncPulses1_s.time.bad ≠ 1)
    ∧ (wSyncPulses2_s.leader = false ∧ wSyncPulses2_s.modes.mode.service = true ∧ wSyncPulses2_s.time.bad = 1 ∧ (¬((-2 : Int) ≤
        (6 : Int) - wSyncPulses2_s.time.delay ∧ (6 : Int) - wSyncPulses2_s.time.delay ≤ (2 : Int) ∧ 8 = if wSyncPulses2_s.now %
        1024 = 0 then 16 else 8)))
    ∧ ((wSyncPulses3_s.leader = true ∨ wSyncPulses3_s.modes.mode.service = false)) := by
  refine ⟨?_, ?_, ?_, ?_⟩ <;> decide +kernel

def Wf9 (now : Nat) (t : Time) : State := (Wfol now t).withModes { (Wfol now t).modes with mode := .bringup, steps := 0x1FE }
def wFollowerAligns0_s : State := Wf9 5 {}
def wFollowerAligns1_s : State := Wf9 1024 { phase := .counting, good := 7, delay := 3 }
def wFollowerAligns1_e : Option Int := some 1
def wFollowerAligns2_s : State := Wf9 1024 { phase := .counting, good := 1023, delay := 3 }
def wFollowerAligns2_e : Option Int := some 5
def wFollowerAligns3_s : State := Wf9 1025 { phase := .counting, good := 1023, delay := 3 }
def wFollowerAligns3_e : Option Int := some 6
theorem test_FollowerAligns :
    (wFollowerAligns0_s.leader = false ∧ wFollowerAligns0_s.stepRuns 9 = true ∧ wFollowerAligns0_s.time.phase =
        SyncPhase.waiting)
    ∧ (wFollowerAligns1_s.leader = false ∧ wFollowerAligns1_s.stepRuns 9 = true ∧ wFollowerAligns1_s.time.phase =
        SyncPhase.counting ∧ wFollowerAligns1_s.pulseNear wFollowerAligns1_e = true ∧ wFollowerAligns1_s.time.good < 1023)
    ∧ (wFollowerAligns2_s.leader = false ∧ wFollowerAligns2_s.stepRuns 9 = true ∧ wFollowerAligns2_s.time.phase =
        SyncPhase.counting ∧ wFollowerAligns2_s.pulseNear wFollowerAligns2_e = true ∧ wFollowerAligns2_s.time.good = 1023)
    ∧ (wFollowerAligns3_s.leader = false ∧ wFollowerAligns3_s.stepRuns 9 = true ∧ wFollowerAligns3_s.time.phase =
        SyncPhase.counting ∧ wFollowerAligns3_s.pulseNear wFollowerAligns3_e = false) := by
  refine ⟨?_, ?_, ?_, ?_⟩ <;> decide +kernel

theorem test_CounterWrites :
    (W0.accepts Level.board (arr16 Obj.ctrValue (BitVec.toNat (3 : BitVec 8))) (BitVec.toNat (5 : Reg)) = true)
    ∧ (BitVec.toNat (3 : BitVec 8) < 32)
    ∧ (W0.accepts Level.board (arr16 Obj.fixedValue (BitVec.toNat (3 : BitVec 8))) (BitVec.toNat (5 : Reg)) = true)
    ∧ (W0.accepts Level.board (arr16 Obj.ctrOwner (BitVec.toNat (3 : BitVec 8))) (BitVec.toNat (5 : Reg)) = true) := by
  and_intros <;> decide +kernel

def Wh : State := (Wt [(Obj.histEnable, 4)] 77 {}).withPmu { windowDue := true, closedAt := 77, closing := [(2, { max := 5, reads := 9, bins := [1,2,3] })], live := [(3, { max := 8 })] }
theorem test_HistogramWindows :
    (Wh.pmu.windowDue = true)
    ∧ (W0.pmu.windowDue = false)
    ∧ (W0.timerRuns = true)
    ∧ (W0.now % 1024 = 0)
    ∧ (W0.time.epochAt ≠ some W0.now)
    ∧ (W0.pmu.restart = false)
    ∧ (W0.eff Obj.histWindow ≤ W0.pmu.epochs + 1) := by
  and_intros <;> decide +kernel

end Time

end Sys2Proof.Tests
end

/-!
PROOF. The state of a line in a sector entry (R116), and the streaming detectors (R150 to R152): what a counted write does
to a detector, and which detectors leave streaming.
-/
namespace Sys2Proof.Machine

/-! ### Line states of a sector -/

theorem LState.code_lt (st : LState) : st.code < 4 := by
  cases st <;> decide

theorem LState.ofCode_code (st : LState) : LState.ofCode st.code = st := by
  cases st <;> rfl

theorem LState.ofCode_mod (n : Nat) : LState.ofCode (n % 4) = LState.ofCode n := by
  simp only [LState.ofCode, Nat.mod_mod]

/-- The state of line `n` is the code in bits `2 n` and `2 n + 1` of the entry (Table 3.4). -/
theorem Sector.st_eq_field (x : Sector) (n : Nat) : x.st n = LState.ofCode (x.lstate.extractLsb' (2 * n) 2).toNat := by
  rw [Sector.st, BitVec.extractLsb'_toNat, BitVec.toNat_ushiftRight, LState.ofCode_mod]

/-- Field `n` of a word of two-bit fields, overwritten by the code `c`. -/
def setField (w : BitVec 64) (n c : Nat) : BitVec 64 := (w &&& ~~~((3 : BitVec 64) <<< (2 * n))) ||| (BitVec.ofNat 64 c <<< (2 * n))

/-- A word shifted to field `n` is read there from its bit 0 on. -/
theorem shifted_field_same (a : BitVec 64) {n i : Nat} (h64 : 2 * n + i < 64) :
    (a <<< (2 * n)).getLsbD (2 * n + i) = a.getLsbD i := by
  rw [BitVec.getLsbD_shiftLeft, decide_eq_true h64, decide_eq_false (by omega), Nat.add_sub_cancel_left]
  rfl

/-- Two bits shifted to field `n` do not reach field `m`. -/
theorem shifted_field_other {a : BitVec 64} (ha : a.toNat < 4) {n m : Nat} (h : m ≠ n) {i : Nat} (hi : i < 2) :
    (a <<< (2 * n)).getLsbD (2 * m + i) = false := by
  rw [BitVec.getLsbD_shiftLeft]
  by_cases hlt : m < n
  · simp [show 2 * m + i < 2 * n by omega]
  · have hhigh : a.getLsbD (2 * m + i - 2 * n) = false :=
      Nat.testBit_lt_two_pow (Nat.lt_of_lt_of_le ha (Nat.pow_le_pow_right (n := 2) (by decide) (show 2 ≤ 2 * m + i - 2 * n by omega)))
    simp [hhigh]

theorem setField_same (w : BitVec 64) {n : Nat} (c : Nat) (hn : n < 32) :
    (setField w n c).extractLsb' (2 * n) 2 = BitVec.ofNat 2 c := by
  ext i hi
  have h64 : 2 * n + i < 64 := by omega
  have hmask : (3 : BitVec 64).getLsbD i = true := by
    obtain rfl | rfl : i = 0 ∨ i = 1 := by omega
    all_goals rfl
  have hcode : (BitVec.ofNat 64 c).getLsbD i = (BitVec.ofNat 2 c).getLsbD i := by
    rw [BitVec.getLsbD_ofNat, BitVec.getLsbD_ofNat, decide_eq_true hi, decide_eq_true (by omega)]
  simp only [setField, BitVec.getElem_extractLsb', BitVec.getLsbD_or, BitVec.getLsbD_and, BitVec.getLsbD_not,
    shifted_field_same _ h64, hmask, hcode, BitVec.getLsbD_eq_getElem hi, Bool.not_true, Bool.and_false, Bool.false_or]

theorem setField_other (w : BitVec 64) {n m c : Nat} (hm : m < 32) (hc : c < 4) (h : m ≠ n) :
    (setField w n c).extractLsb' (2 * m) 2 = w.extractLsb' (2 * m) 2 := by
  ext i hi
  have hmask : ((3 : BitVec 64) <<< (2 * n)).getLsbD (2 * m + i) = false := shifted_field_other (by decide) h hi
  have hcode : (BitVec.ofNat 64 c <<< (2 * n)).getLsbD (2 * m + i) = false :=
    shifted_field_other (by rw [BitVec.toNat_ofNat]; omega) h hi
  have h64 : 2 * m + i < 64 := by omega
  simp only [setField, BitVec.getElem_extractLsb', BitVec.getLsbD_or, BitVec.getLsbD_and, BitVec.getLsbD_not, hmask, hcode,
    h64, decide_true, Bool.not_false, Bool.and_true, Bool.or_false]

theorem Sector.set_lstate (x : Sector) (n : Nat) (st : LState) : (x.set n st).lstate = setField x.lstate n st.code := rfl

theorem Sector.st_set_same (x : Sector) {n : Nat} (st : LState) (hn : n < 32) : (x.set n st).st n = st := by
  rw [Sector.st_eq_field, Sector.set_lstate, setField_same _ _ hn, BitVec.toNat_ofNat, LState.ofCode_mod, LState.ofCode_code]

theorem Sector.st_set_other (x : Sector) {n m : Nat} (st : LState) (hm : m < 32) (h : m ≠ n) : (x.set n st).st m = x.st m := by
  rw [Sector.st_eq_field, Sector.set_lstate, setField_other _ hm st.code_lt h, ← Sector.st_eq_field]

/-- R116: DCNT is recomputed from the states that the set leaves. -/
theorem Sector.set_dcnt (x : Sector) (n : Nat) (st : LState) : (x.set n st).dcnt = (x.set n st).owedLines.length := rfl

@[simp] theorem Sector.set_tag (x : Sector) (n : Nat) (st : LState) : (x.set n st).tag = x.tag := rfl
@[simp] theorem Sector.set_keyid (x : Sector) (n : Nat) (st : LState) : (x.set n st).keyid = x.keyid := rfl
@[simp] theorem Sector.set_partid (x : Sector) (n : Nat) (st : LState) : (x.set n st).partid = x.partid := rfl

/-! ### Streaming detectors -/

/-- R150: line `line` continues the ascending run of a detector, within its window of 256 KiB. -/
def Stream.Ascends (d : Stream) (line : Nat) : Prop := 0 < d.count ∧ d.last < line ∧ line ≤ d.last + 0x800

/-- R150: the detector after a write that continues the run, before the threshold is looked at. -/
def Stream.counted (d : Stream) (threshold line now : Nat) : Stream :=
  { d with count := min (d.count + 1) threshold, last := line, ascStride := now }

/-- A write in order counts, and is the entry into streaming exactly where it reaches the threshold. -/
theorem streamUpdate_ascending {d : Stream} {threshold line : Nat} (now : Nat) (ha : d.Ascends line) (ht : 0 < threshold)
    (hs : d.streaming = false) : streamUpdate d threshold line now
      = ({ d.counted threshold line now with streaming := decide (threshold ≤ d.count + 1) }, decide (threshold ≤ d.count + 1)) := by
  obtain ⟨hcount, hlast, hwindow⟩ := ha
  have hasc : (decide (0 < d.count) && decide (d.last < line) && decide (line ≤ d.last + 0x40000 / 128)) = true := by
    simp only [hcount, hlast, hwindow, decide_true, Bool.and_self]
  have hfull : threshold ≤ min (d.count + 1) threshold ↔ threshold ≤ d.count + 1 := by omega
  have hpos : threshold ≠ 0 := by omega
  simp only [streamUpdate, hasc, if_true, hs, hfull, Stream.counted]
  by_cases hreach : threshold ≤ d.count + 1
  · rw [if_pos ⟨hpos, hreach, trivial⟩, decide_eq_true hreach]
  · rw [if_neg fun h => hreach h.2.1, decide_eq_false hreach]

/-- A write out of order starts the count again at 1, which a threshold above 1 does not reach. -/
theorem streamUpdate_outOfOrder {d : Stream} {threshold line : Nat} (now : Nat) (ha : ¬ d.Ascends line) (ht : 1 < threshold) :
    streamUpdate d threshold line now = ({ d with count := 1, last := line }, false) := by
  have hasc : (decide (0 < d.count) && decide (d.last < line) && decide (line ≤ d.last + 0x40000 / 128)) = false := by
    simpa [Stream.Ascends] using ha
  have hshort : ¬ threshold ≤ 1 := by omega
  simp only [streamUpdate, hasc]
  exact if_neg fun h => hshort h.2.1

/-- Settles O56: the sector's half from the two-bit fields of the entry, the detectors' from what a write in order and one out of
order do, and STREAM_EXIT from its own meaning. -/
theorem sectorsAndStreams : Obligations.SectorsAndStreams := by
  unfold Obligations.SectorsAndStreams
  refine ⟨fun x n m st _ hm => ⟨?_, x.set_dcnt n st, x.set_tag n st, x.set_keyid n st, x.set_partid n st⟩, ?ascending, ?outOfOrder,
    ?exit⟩
  · split
    next h => exact h ▸ x.st_set_same st (h ▸ hm)
    next h => exact x.st_set_other st hm h
  case ascending =>
    intro d threshold line now hcount hlast hwindow ht hs
    rw [streamUpdate_ascending now ⟨hcount, hlast, hwindow⟩ ht hs]
    simp [Stream.counted]
  case outOfOrder =>
    intro d threshold line now hout ht
    exact streamUpdate_outOfOrder now (fun ⟨_, hlast, hwindow⟩ => by omega) ht
  case exit =>
    intro s
    refine ⟨s.streamExit, rfl, rfl, List.map_congr_left fun x _ => ?_⟩
    by_cases hleaves : x.2.streaming = true ∧ (s.eff Obj.streamThreshold = 0 ∨ x.2.ascStride + s.eff Obj.streamGap ≤ s.now)
    · simp [hleaves]
    · simp [hleaves]

end Sys2Proof.Machine

/-!
PROOF. The objects that a clean offer changes (R127, R128): none but the DECLINE_COUNT of the reason for which it is declined.
-/
namespace Sys2Proof.Machine

/-! ### Objects that the steps of an offer leave -/

theorem State.takeSlot_obj {s v : State} {kind row k cls grp : Nat} {place : Option (Nat × Nat)}
    (h : s.takeSlot kind row k cls grp place = some v) (j : Nat) : v.obj j = s.obj j := by
  unfold State.takeSlot at h
  split at h
  next => rw [← Option.some.inj h, State.useAt_obj]
  next => cases h

@[simp] theorem State.takeRows_obj (s : State) (w : Want) (rows : List Nat) (t k j : Nat) :
    (s.takeRows w rows t k).obj j = s.obj j :=
  foldl_keeps (fun u : State => u.obj j) _ (fun u r => by rw [State.useAt_obj, State.book_obj]) rows s

theorem State.fillSlot_obj {s v : State} {port line cyc : Nat} (h : s.fillSlot port line cyc = some v) (j : Nat) :
    v.obj j = s.obj j := by
  unfold State.fillSlot at h
  dsimp only at h
  split at h
  next => rw [← Option.some.inj h, State.takeRows_obj]
  next => cases h

@[simp] theorem State.fillSlot_getD_obj (s : State) (port line cyc j : Nat) :
    ((s.fillSlot port line cyc).getD s).obj j = s.obj j := by
  cases h : s.fillSlot port line cyc with
  | none => rfl
  | some v => exact State.fillSlot_obj h j

@[simp] theorem State.setSector_obj (s : State) (hset w : Nat) (x : Option Sector) (j : Nat) :
    (s.setSector hset w x).obj j = s.obj j := rfl

@[simp] theorem State.dropStaged_obj (s : State) (id j : Nat) : (s.dropStaged id).obj j = s.obj j := rfl

@[simp] theorem State.writeHusk_obj (s : State) (hset w n line : Nat) (data : Line) (poison : Bool) (j : Nat) :
    (s.writeHusk hset w n line data poison).obj j = s.obj j := by
  simp [State.writeHusk]

/-! ### What a clean offer does -/

/-- The victim that a clean offer of slice `sl` is about: the oldest clean one whose data has been read out. -/
def State.offeredVictim (s : State) (sl : Nat) : Option Staged :=
  s.tiers.staging.find? fun e => e.slice == sl && e.kind == .victim && e.st == .clean && e.data.isSome

theorem State.cleanOffer_noVictim {s : State} {sl : Nat} (cyc : Nat) (h : s.offeredVictim sl = none) : s.cleanOffer sl cyc = s := by
  unfold State.offeredVictim at h
  simp only [State.cleanOffer, h]

theorem State.cleanOffer_noSlot {s : State} {sl cyc : Nat} (h : s.takeSlot 0 sl cyc Cls.fl 1 = none) : s.cleanOffer sl cyc = s := by
  simp only [State.cleanOffer, h]
  split <;> rfl

section
variable {s v : State} {sl cyc : Nat} {e : Staged} (hvictim : s.offeredVictim sl = some e)
  (hslot : s.takeSlot 0 sl cyc Cls.fl 1 = some v)
include hvictim hslot

/-- R128: a declined offer counts its reason, and the counts of the other reasons stay. -/
theorem State.cleanOffer_declined_obj {r : Nat} (h : v.offer e cyc = .declined r) (n : Nat) :
    (s.cleanOffer sl cyc).obj (Obj.declineCount + n - 1)
      = if n = r then satAdd32 (s.obj (Obj.declineCount + n - 1)) 1 else s.obj (Obj.declineCount + n - 1) := by
  have hdeclined : s.cleanOffer sl cyc = ((v.dropStaged e.id).bump (Obj.declineCount + r - 1)).countU 0x503 sl 1 := by
    unfold State.offeredVictim at hvictim
    simp only [State.cleanOffer, hvictim, hslot, h]
  have hkey : Obj.declineCount + n - 1 = Obj.declineCount + r - 1 ↔ n = r := by
    simp only [Obj.declineCount]
    omega
  rw [hdeclined, State.countU_obj, State.obj_bump]
  simp only [hkey, State.dropStaged_obj, State.takeSlot_obj hslot]
  split
  next heq => rw [heq]
  next => rfl

/-- An offer that is served and not declined changes no object. -/
theorem State.cleanOffer_taken_obj (h : ∀ r, v.offer e cyc ≠ .declined r) (j : Nat) :
    (s.cleanOffer sl cyc).obj j = s.obj j := by
  rw [← State.takeSlot_obj hslot j]
  unfold State.offeredVictim at hvictim
  simp only [State.cleanOffer, hvictim, hslot]
  cases hoffer : v.offer e cyc with
  | accepted => exact State.dropStaged_obj v e.id j
  | declined r => exact absurd hoffer (h r)
  | present w =>
    dsimp only
    split
    next => simp
    next => rfl
  | take w => simp

end

/-- Settles O60: an offer that nothing serves changes nothing, one that is taken no object, and one that is declined the count of
its own reason alone. -/
theorem declinesCounted : Obligations.DeclinesCounted := by
  unfold Obligations.DeclinesCounted
  intro s sl cyc n hn _ waits declined
  refine ⟨s.cleanOffer sl cyc, rfl, ?_⟩
  cases hvictim : s.offeredVictim sl with
  | none =>
    rw [State.cleanOffer_noVictim _ hvictim]
    exact ⟨fun ⟨_, _, hw, _⟩ => absurd (hvictim.symm.trans hw) (by simp), fun _ => rfl⟩
  | some e =>
    cases hslot : s.takeSlot 0 sl cyc Cls.fl 1 with
    | none =>
      rw [State.cleanOffer_noSlot hslot]
      exact ⟨fun ⟨_, _, _, ht, _⟩ => absurd (hslot.symm.trans ht) (by simp), fun _ => rfl⟩
    | some v =>
      have hdeclined : declined ↔ v.offer e cyc = .declined n := by
        refine ⟨fun ⟨e', v', hw, ht, ho⟩ => ?_, fun ho => ⟨e, v, hvictim, hslot, ho⟩⟩
        cases hvictim.symm.trans hw
        cases hslot.symm.trans ht
        exact ho
      rw [hdeclined]
      by_cases hany : ∃ r, v.offer e cyc = .declined r
      · obtain ⟨r, hr⟩ := hany
        rw [State.cleanOffer_declined_obj hvictim hslot hr n, hr, Offer.declined.injEq, eq_comm (a := r)]
        exact ⟨fun heq => if_pos heq, fun hne => if_neg hne⟩
      · rw [State.cleanOffer_taken_obj hvictim hslot (not_exists.mp hany)]
        exact ⟨fun ho => absurd ⟨n, ho⟩ hany, fun _ => rfl⟩

end Sys2Proof.Machine
